-- ==== Sys2Proof/Word.lean ====
section
/-! DEFINITION. The machine's word types (03_encoding.md R58, R64). -/
namespace Sys2Proof

/-- A register, an address while it is computed, a doubleword of memory (R58). -/
abbrev Word := BitVec 64

/-- A byte of memory, the smallest addressable unit (00_scope.md R5). -/
abbrev Byte := BitVec 8

/-- A word of 32 bits: the length of every instruction (R64). -/
abbrev Word32 := BitVec 32

/-- A register of 128 bits: a register of a mill core (16_queue.md R312), or one memory capability. -/
abbrev Word128 := BitVec 128

/-- The number of an integer register, x0 to x31 (R58). -/
abbrev XReg := BitVec 5

/-- The number of a floating register, f0 to f7 (R58: no profile has f8 to f31). -/
abbrev FReg := BitVec 3

end Sys2Proof
end

