-- ==== Sys2Proof/Syntax.lean ====
section
/-! DEFINITION. The instructions of the W3: one constructor for each row of spec/opcode_table.json.
The encoded rows carry the operand fields of their words (03_encoding.md R65 to R73); a row without an
encoding is an event of the module, and it carries what the event is about and, for an event that brings
data from outside the module, those data (log 1, DESIGN CHOICE). -/
namespace Sys2Proof


inductive Instr where
  /-- R108. Loads a sign-extended byte, performing locally, by migration, by proxy or remotely according to the owner. -/
  | lb (rd : XReg) (rs1 : XReg) (imm : BitVec 12)
  /-- R108. Loads a sign-extended halfword where R108 places a load. -/
  | lh (rd : XReg) (rs1 : XReg) (imm : BitVec 12)
  /-- R108. Loads a sign-extended word where R108 places a load. -/
  | lw (rd : XReg) (rs1 : XReg) (imm : BitVec 12)
  /-- R108. Loads a doubleword where R108 places a load. -/
  | ld (rd : XReg) (rs1 : XReg) (imm : BitVec 12)
  /-- R108. Loads a zero-extended byte where R108 places a load. -/
  | lbu (rd : XReg) (rs1 : XReg) (imm : BitVec 12)
  /-- R108. Loads a zero-extended halfword where R108 places a load. -/
  | lhu (rd : XReg) (rs1 : XReg) (imm : BitVec 12)
  /-- R108. Loads a zero-extended word where R108 places a load. -/
  | lwu (rd : XReg) (rs1 : XReg) (imm : BitVec 12)
  /-- R108. Stores a byte, applied locally or posted to its owner, with the witness entering the own-store table. -/
  | sb (rs1 : XReg) (rs2 : XReg) (imm : BitVec 12)
  /-- R108. Stores a halfword, applied locally or posted. -/
  | sh (rs1 : XReg) (rs2 : XReg) (imm : BitVec 12)
  /-- R108. Stores a word, applied locally or posted. -/
  | sw (rs1 : XReg) (rs2 : XReg) (imm : BitVec 12)
  /-- R108. Stores a doubleword, applied locally or posted. -/
  | sd (rs1 : XReg) (rs2 : XReg) (imm : BitVec 12)
  /-- R102. Adds a sign-extended immediate to rs1 modulo 2^64. -/
  | addi (rd : XReg) (rs1 : XReg) (imm : BitVec 12)
  /-- R102. Sets rd to 1 if rs1 is signed-less than the immediate. -/
  | slti (rd : XReg) (rs1 : XReg) (imm : BitVec 12)
  /-- R102. Sets rd to 1 if rs1 is unsigned-less than the sign-extended immediate. -/
  | sltiu (rd : XReg) (rs1 : XReg) (imm : BitVec 12)
  /-- R102. Bitwise XOR of rs1 with the immediate. -/
  | xori (rd : XReg) (rs1 : XReg) (imm : BitVec 12)
  /-- R102. Bitwise OR of rs1 with the immediate. -/
  | ori (rd : XReg) (rs1 : XReg) (imm : BitVec 12)
  /-- R102. Bitwise AND of rs1 with the immediate. -/
  | andi (rd : XReg) (rs1 : XReg) (imm : BitVec 12)
  /-- R102. Shifts rs1 left by a 6-bit immediate. -/
  | slli (rd : XReg) (rs1 : XReg) (shamt : BitVec 6)
  /-- R102. Shifts rs1 right logically by a 6-bit immediate. -/
  | srli (rd : XReg) (rs1 : XReg) (shamt : BitVec 6)
  /-- R102. Shifts rs1 right arithmetically by a 6-bit immediate. -/
  | srai (rd : XReg) (rs1 : XReg) (shamt : BitVec 6)
  /-- R102. Counts leading zero bits of rs1. -/
  | clz (rd : XReg) (rs1 : XReg)
  /-- R102. Counts trailing zero bits of rs1. -/
  | ctz (rd : XReg) (rs1 : XReg)
  /-- R102. Counts the 1 bits of rs1. -/
  | cpop (rd : XReg) (rs1 : XReg)
  /-- R102. Reverses the byte order of rs1. -/
  | rev8 (rd : XReg) (rs1 : XReg)
  /-- R102. Adds an immediate in 32 bits and sign-extends. -/
  | addiw (rd : XReg) (rs1 : XReg) (imm : BitVec 12)
  /-- R102. 32-bit left shift by a 5-bit immediate, sign-extended. -/
  | slliw (rd : XReg) (rs1 : XReg) (shamt : BitVec 5)
  /-- R102. 32-bit logical right shift by a 5-bit immediate, sign-extended. -/
  | srliw (rd : XReg) (rs1 : XReg) (shamt : BitVec 5)
  /-- R102. 32-bit arithmetic right shift by a 5-bit immediate, sign-extended. -/
  | sraiw (rd : XReg) (rs1 : XReg) (shamt : BitVec 5)
  /-- R102. Adds rs1 and rs2 modulo 2^64. -/
  | add (rd : XReg) (rs1 : XReg) (rs2 : XReg)
  /-- R102. Shifts rs1 left by rs2[5:0]. -/
  | sll (rd : XReg) (rs1 : XReg) (rs2 : XReg)
  /-- R102. Signed set-less-than. -/
  | slt (rd : XReg) (rs1 : XReg) (rs2 : XReg)
  /-- R102. Unsigned set-less-than. -/
  | sltu (rd : XReg) (rs1 : XReg) (rs2 : XReg)
  /-- R102. Bitwise XOR of rs1 and rs2. -/
  | xor (rd : XReg) (rs1 : XReg) (rs2 : XReg)
  /-- R102. Logical right shift of rs1 by rs2[5:0]. -/
  | srl (rd : XReg) (rs1 : XReg) (rs2 : XReg)
  /-- R102. Bitwise OR of rs1 and rs2. -/
  | or (rd : XReg) (rs1 : XReg) (rs2 : XReg)
  /-- R102. Bitwise AND of rs1 and rs2. -/
  | and (rd : XReg) (rs1 : XReg) (rs2 : XReg)
  /-- R102. Subtracts rs2 from rs1 modulo 2^64. -/
  | sub (rd : XReg) (rs1 : XReg) (rs2 : XReg)
  /-- R102. Arithmetic right shift of rs1 by rs2[5:0]. -/
  | sra (rd : XReg) (rs1 : XReg) (rs2 : XReg)
  /-- R103. Low 64 bits of rs1 times rs2. -/
  | mul (rd : XReg) (rs1 : XReg) (rs2 : XReg)
  /-- R103. High 64 bits of the signed product. -/
  | mulh (rd : XReg) (rs1 : XReg) (rs2 : XReg)
  /-- R103. High 64 bits of the signed-by-unsigned product. -/
  | mulhsu (rd : XReg) (rs1 : XReg) (rs2 : XReg)
  /-- R103. High 64 bits of the unsigned product. -/
  | mulhu (rd : XReg) (rs1 : XReg) (rs2 : XReg)
  /-- R104. Signed divide; marks rd empty and writes the quotient 40 cycles later. -/
  | div (rd : XReg) (rs1 : XReg) (rs2 : XReg)
  /-- R104. Unsigned divide as a long-latency producer. -/
  | divu (rd : XReg) (rs1 : XReg) (rs2 : XReg)
  /-- R104. Signed remainder as a long-latency producer. -/
  | rem (rd : XReg) (rs1 : XReg) (rs2 : XReg)
  /-- R104. Unsigned remainder as a long-latency producer. -/
  | remu (rd : XReg) (rs1 : XReg) (rs2 : XReg)
  /-- R102. rs2 plus rs1 shifted left by 1. -/
  | sh1add (rd : XReg) (rs1 : XReg) (rs2 : XReg)
  /-- R102. rs2 plus rs1 shifted left by 2. -/
  | sh2add (rd : XReg) (rs1 : XReg) (rs2 : XReg)
  /-- R102. rs2 plus rs1 shifted left by 3. -/
  | sh3add (rd : XReg) (rs1 : XReg) (rs2 : XReg)
  /-- R102. Signed minimum of rs1 and rs2. -/
  | min (rd : XReg) (rs1 : XReg) (rs2 : XReg)
  /-- R102. Unsigned minimum of rs1 and rs2. -/
  | minu (rd : XReg) (rs1 : XReg) (rs2 : XReg)
  /-- R102. Signed maximum of rs1 and rs2. -/
  | max (rd : XReg) (rs1 : XReg) (rs2 : XReg)
  /-- R102. Unsigned maximum of rs1 and rs2. -/
  | maxu (rd : XReg) (rs1 : XReg) (rs2 : XReg)
  /-- R102. 32-bit add, sign-extended. -/
  | addw (rd : XReg) (rs1 : XReg) (rs2 : XReg)
  /-- R102. 32-bit left shift by rs2[4:0], sign-extended. -/
  | sllw (rd : XReg) (rs1 : XReg) (rs2 : XReg)
  /-- R102. 32-bit logical right shift, sign-extended. -/
  | srlw (rd : XReg) (rs1 : XReg) (rs2 : XReg)
  /-- R102. 32-bit subtract, sign-extended. -/
  | subw (rd : XReg) (rs1 : XReg) (rs2 : XReg)
  /-- R102. 32-bit arithmetic right shift, sign-extended. -/
  | sraw (rd : XReg) (rs1 : XReg) (rs2 : XReg)
  /-- R103. 32-bit multiply, sign-extended. -/
  | mulw (rd : XReg) (rs1 : XReg) (rs2 : XReg)
  /-- R104. 32-bit signed divide, written 24 cycles after issue. -/
  | divw (rd : XReg) (rs1 : XReg) (rs2 : XReg)
  /-- R104. 32-bit unsigned divide as a long-latency producer. -/
  | divuw (rd : XReg) (rs1 : XReg) (rs2 : XReg)
  /-- R104. 32-bit signed remainder as a long-latency producer. -/
  | remw (rd : XReg) (rs1 : XReg) (rs2 : XReg)
  /-- R104. 32-bit unsigned remainder as a long-latency producer. -/
  | remuw (rd : XReg) (rs1 : XReg) (rs2 : XReg)
  /-- R105. Branches if rs1 equals rs2. -/
  | beq (rs1 : XReg) (rs2 : XReg) (off : BitVec 12)
  /-- R105. Branches if rs1 differs from rs2. -/
  | bne (rs1 : XReg) (rs2 : XReg) (off : BitVec 12)
  /-- R105. Branches if rs1 is signed-less than rs2. -/
  | blt (rs1 : XReg) (rs2 : XReg) (off : BitVec 12)
  /-- R105. Branches if rs1 is signed-greater or equal. -/
  | bge (rs1 : XReg) (rs2 : XReg) (off : BitVec 12)
  /-- R105. Branches if rs1 is unsigned-less than rs2. -/
  | bltu (rs1 : XReg) (rs2 : XReg) (off : BitVec 12)
  /-- R105. Branches if rs1 is unsigned-greater or equal. -/
  | bgeu (rs1 : XReg) (rs2 : XReg) (off : BitVec 12)
  /-- R105. Writes PC+4 to rd and jumps PC-relative. -/
  | jal (rd : XReg) (off : BitVec 20)
  /-- R105. Writes PC+4 to rd and jumps to rs1+imm with bit 0 cleared. -/
  | jalr (rd : XReg) (rs1 : XReg) (imm : BitVec 12)
  /-- R102. Loads a sign-extended upper immediate. -/
  | lui (rd : XReg) (imm : BitVec 20)
  /-- R102. Adds a sign-extended upper immediate to the PC. -/
  | auipc (rd : XReg) (imm : BitVec 20)
  /-- R68. Acts as PFENCE with wait field 11; fm, pred, succ, rs1 and rd ignored. -/
  | fence (fm : BitVec 4) (pred : BitVec 4) (succ : BitVec 4) (rs1 : BitVec 5) (rd : BitVec 5)
  /-- R124. Slot 0 waits for its stores to its own DRAM, then discards prefetched lines of the tile. -/
  | fenceI
  /-- R122. Raises the environment-call trap for the current mode. -/
  | ecall
  /-- R122. Raises the breakpoint trap with the PC as trap value. -/
  | ebreak
  /-- R121. Returns from an S-mode trap in slot 0. -/
  | sret
  /-- R121. Returns from an M-mode trap in slot 0. -/
  | mret
  /-- R123. Slot 0 forfeits its turns until an enabled interrupt is pending. -/
  | wfi
  /-- R325. Waits as pfence 3, invalidates TLB entries across the partition and waits for acknowledgements. -/
  | sfenceVma (rs1 : XReg) (rs2 : XReg)
  /-- R117. Atomically reads a CSR and writes rs1 into it. -/
  | csrrw (rd : XReg) (csr : BitVec 12) (rs1 : XReg)
  /-- R117. Atomically reads a CSR and sets the bits of rs1. -/
  | csrrs (rd : XReg) (csr : BitVec 12) (rs1 : XReg)
  /-- R117. Atomically reads a CSR and clears the bits of rs1. -/
  | csrrc (rd : XReg) (csr : BitVec 12) (rs1 : XReg)
  /-- R117. Reads a CSR and writes a 5-bit immediate. -/
  | csrrwi (rd : XReg) (csr : BitVec 12) (uimm : BitVec 5)
  /-- R117. Reads a CSR and sets immediate bits. -/
  | csrrsi (rd : XReg) (csr : BitVec 12) (uimm : BitVec 5)
  /-- R117. Reads a CSR and clears immediate bits. -/
  | csrrci (rd : XReg) (csr : BitVec 12) (uimm : BitVec 5)
  /-- R136. Loads a word into an f register, boxed, or pushes it to a bound output stream. -/
  | flw (fd : FReg) (rs1 : XReg) (imm : BitVec 12)
  /-- R136. Loads a doubleword into an f register. -/
  | fld (fd : FReg) (rs1 : XReg) (imm : BitVec 12)
  /-- R136. Stores fs2[31:0] without a boxing check. -/
  | fsw (rs1 : XReg) (fs2 : FReg) (imm : BitVec 12)
  /-- R136. Stores fs2. -/
  | fsd (rs1 : XReg) (fs2 : FReg) (imm : BitVec 12)
  /-- R128. FP32 fused a*b+c, rounded once. -/
  | fmaddS (fd : FReg) (fs1 : FReg) (fs2 : FReg) (fs3 : FReg) (rm : BitVec 3)
  /-- R128. FP64 fused a*b+c, rounded once. -/
  | fmaddD (fd : FReg) (fs1 : FReg) (fs2 : FReg) (fs3 : FReg) (rm : BitVec 3)
  /-- R128. FP32 fused a*b-c. -/
  | fmsubS (fd : FReg) (fs1 : FReg) (fs2 : FReg) (fs3 : FReg) (rm : BitVec 3)
  /-- R128. FP64 fused a*b-c. -/
  | fmsubD (fd : FReg) (fs1 : FReg) (fs2 : FReg) (fs3 : FReg) (rm : BitVec 3)
  /-- R128. FP32 fused -(a*b)+c. -/
  | fnmsubS (fd : FReg) (fs1 : FReg) (fs2 : FReg) (fs3 : FReg) (rm : BitVec 3)
  /-- R128. FP64 fused -(a*b)+c. -/
  | fnmsubD (fd : FReg) (fs1 : FReg) (fs2 : FReg) (fs3 : FReg) (rm : BitVec 3)
  /-- R128. FP32 fused -(a*b)-c. -/
  | fnmaddS (fd : FReg) (fs1 : FReg) (fs2 : FReg) (fs3 : FReg) (rm : BitVec 3)
  /-- R128. FP64 fused -(a*b)-c. -/
  | fnmaddD (fd : FReg) (fs1 : FReg) (fs2 : FReg) (fs3 : FReg) (rm : BitVec 3)
  /-- R128. FP32 addition rounded once. -/
  | faddS (fd : FReg) (fs1 : FReg) (fs2 : FReg) (rm : BitVec 3)
  /-- R128. FP64 addition rounded once. -/
  | faddD (fd : FReg) (fs1 : FReg) (fs2 : FReg) (rm : BitVec 3)
  /-- R128. FP32 subtraction. -/
  | fsubS (fd : FReg) (fs1 : FReg) (fs2 : FReg) (rm : BitVec 3)
  /-- R128. FP64 subtraction. -/
  | fsubD (fd : FReg) (fs1 : FReg) (fs2 : FReg) (rm : BitVec 3)
  /-- R128. FP32 multiplication. -/
  | fmulS (fd : FReg) (fs1 : FReg) (fs2 : FReg) (rm : BitVec 3)
  /-- R128. FP64 multiplication. -/
  | fmulD (fd : FReg) (fs1 : FReg) (fs2 : FReg) (rm : BitVec 3)
  /-- R129. FP32 division; fd empty until written 40 cycles after issue. -/
  | fdivS (fd : FReg) (fs1 : FReg) (fs2 : FReg) (rm : BitVec 3)
  /-- R129. FP64 division; fd written 72 cycles after issue. -/
  | fdivD (fd : FReg) (fs1 : FReg) (fs2 : FReg) (rm : BitVec 3)
  /-- R129. FP32 square root as a long-latency producer. -/
  | fsqrtS (fd : FReg) (fs1 : FReg) (rm : BitVec 3)
  /-- R129. FP64 square root as a long-latency producer. -/
  | fsqrtD (fd : FReg) (fs1 : FReg) (rm : BitVec 3)
  /-- R130. Copies fs1 with fs2's sign, FP32. -/
  | fsgnjS (fd : FReg) (fs1 : FReg) (fs2 : FReg)
  /-- R130. Copies fs1 with fs2's sign, FP64. -/
  | fsgnjD (fd : FReg) (fs1 : FReg) (fs2 : FReg)
  /-- R130. Copies fs1 with the inverse of fs2's sign, FP32. -/
  | fsgnjnS (fd : FReg) (fs1 : FReg) (fs2 : FReg)
  /-- R130. Copies fs1 with the inverse of fs2's sign, FP64. -/
  | fsgnjnD (fd : FReg) (fs1 : FReg) (fs2 : FReg)
  /-- R130. Copies fs1 with the XOR of the signs, FP32. -/
  | fsgnjxS (fd : FReg) (fs1 : FReg) (fs2 : FReg)
  /-- R130. Copies fs1 with the XOR of the signs, FP64. -/
  | fsgnjxD (fd : FReg) (fs1 : FReg) (fs2 : FReg)
  /-- R130. FP32 minimum under R52. -/
  | fminS (fd : FReg) (fs1 : FReg) (fs2 : FReg)
  /-- R130. FP64 minimum under R52. -/
  | fminD (fd : FReg) (fs1 : FReg) (fs2 : FReg)
  /-- R130. FP32 maximum under R52. -/
  | fmaxS (fd : FReg) (fs1 : FReg) (fs2 : FReg)
  /-- R130. FP64 maximum under R52. -/
  | fmaxD (fd : FReg) (fs1 : FReg) (fs2 : FReg)
  /-- R131. Writes 1 to rd if fs1 <= fs2, FP32. -/
  | fleS (rd : XReg) (fs1 : FReg) (fs2 : FReg)
  /-- R131. Writes 1 to rd if fs1 <= fs2, FP64. -/
  | fleD (rd : XReg) (fs1 : FReg) (fs2 : FReg)
  /-- R131. Writes 1 to rd if fs1 < fs2, FP32. -/
  | fltS (rd : XReg) (fs1 : FReg) (fs2 : FReg)
  /-- R131. Writes 1 to rd if fs1 < fs2, FP64. -/
  | fltD (rd : XReg) (fs1 : FReg) (fs2 : FReg)
  /-- R131. Writes 1 to rd if fs1 equals fs2, FP32. -/
  | feqS (rd : XReg) (fs1 : FReg) (fs2 : FReg)
  /-- R131. Writes 1 to rd if fs1 equals fs2, FP64. -/
  | feqD (rd : XReg) (fs1 : FReg) (fs2 : FReg)
  /-- R132. Converts FP64 to FP32 under rm. -/
  | fcvtSD (fd : FReg) (fs1 : FReg) (rm : BitVec 3)
  /-- R132. Converts FP32 to FP64 exactly. -/
  | fcvtDS (fd : FReg) (fs1 : FReg) (rm : BitVec 3)
  /-- R132. Converts FP16 to FP32 exactly. -/
  | fcvtSH (fd : FReg) (fs1 : FReg) (rm : BitVec 3)
  /-- R132. Converts BF16 to FP32 exactly. -/
  | fcvtSBf (fd : FReg) (fs1 : FReg) (rm : BitVec 3)
  /-- R132. Converts E4M3 to FP32 exactly. -/
  | fcvtSE4 (fd : FReg) (fs1 : FReg) (rm : BitVec 3)
  /-- R132. Converts E5M2 to FP32 exactly. -/
  | fcvtSE5 (fd : FReg) (fs1 : FReg) (rm : BitVec 3)
  /-- R132. Converts FP16 to FP64 exactly. -/
  | fcvtDH (fd : FReg) (fs1 : FReg) (rm : BitVec 3)
  /-- R132. Converts BF16 to FP64 exactly. -/
  | fcvtDBf (fd : FReg) (fs1 : FReg) (rm : BitVec 3)
  /-- R132. Converts E4M3 to FP64 exactly. -/
  | fcvtDE4 (fd : FReg) (fs1 : FReg) (rm : BitVec 3)
  /-- R132. Converts E5M2 to FP64 exactly. -/
  | fcvtDE5 (fd : FReg) (fs1 : FReg) (rm : BitVec 3)
  /-- R132. Narrows FP32 to FP16 under rm, sat bit selecting saturation. -/
  | fcvtHS (fd : FReg) (fs1 : FReg) (rm : BitVec 3) (sat : Bool)
  /-- R132. Narrows FP64 to FP16. -/
  | fcvtHD (fd : FReg) (fs1 : FReg) (rm : BitVec 3) (sat : Bool)
  /-- R132. Narrows FP32 to BF16. -/
  | fcvtBfS (fd : FReg) (fs1 : FReg) (rm : BitVec 3) (sat : Bool)
  /-- R132. Narrows FP64 to BF16. -/
  | fcvtBfD (fd : FReg) (fs1 : FReg) (rm : BitVec 3) (sat : Bool)
  /-- R132. Narrows FP32 to E4M3, always saturating. -/
  | fcvtE4S (fd : FReg) (fs1 : FReg) (rm : BitVec 3) (sat : Bool)
  /-- R132. Narrows FP64 to E4M3, always saturating. -/
  | fcvtE4D (fd : FReg) (fs1 : FReg) (rm : BitVec 3) (sat : Bool)
  /-- R132. Narrows FP32 to E5M2. -/
  | fcvtE5S (fd : FReg) (fs1 : FReg) (rm : BitVec 3) (sat : Bool)
  /-- R132. Narrows FP64 to E5M2. -/
  | fcvtE5D (fd : FReg) (fs1 : FReg) (rm : BitVec 3) (sat : Bool)
  /-- R133. Converts FP32 to a signed 32-bit integer under R48. -/
  | fcvtWS (rd : XReg) (fs1 : FReg) (rm : BitVec 3) (sat : Bool)
  /-- R133. Converts FP32 to an unsigned 32-bit integer. -/
  | fcvtWuS (rd : XReg) (fs1 : FReg) (rm : BitVec 3) (sat : Bool)
  /-- R133. Converts FP32 to a signed 64-bit integer. -/
  | fcvtLS (rd : XReg) (fs1 : FReg) (rm : BitVec 3) (sat : Bool)
  /-- R133. Converts FP32 to an unsigned 64-bit integer. -/
  | fcvtLuS (rd : XReg) (fs1 : FReg) (rm : BitVec 3) (sat : Bool)
  /-- R133. Converts FP64 to a signed 32-bit integer. -/
  | fcvtWD (rd : XReg) (fs1 : FReg) (rm : BitVec 3) (sat : Bool)
  /-- R133. Converts FP64 to an unsigned 32-bit integer. -/
  | fcvtWuD (rd : XReg) (fs1 : FReg) (rm : BitVec 3) (sat : Bool)
  /-- R133. Converts FP64 to a signed 64-bit integer. -/
  | fcvtLD (rd : XReg) (fs1 : FReg) (rm : BitVec 3) (sat : Bool)
  /-- R133. Converts FP64 to an unsigned 64-bit integer. -/
  | fcvtLuD (rd : XReg) (fs1 : FReg) (rm : BitVec 3) (sat : Bool)
  /-- R134. Converts a signed 32-bit integer to FP32. -/
  | fcvtSW (fd : FReg) (rs1 : XReg) (rm : BitVec 3)
  /-- R134. Converts an unsigned 32-bit integer to FP32. -/
  | fcvtSWu (fd : FReg) (rs1 : XReg) (rm : BitVec 3)
  /-- R134. Converts a signed 64-bit integer to FP32. -/
  | fcvtSL (fd : FReg) (rs1 : XReg) (rm : BitVec 3)
  /-- R134. Converts an unsigned 64-bit integer to FP32. -/
  | fcvtSLu (fd : FReg) (rs1 : XReg) (rm : BitVec 3)
  /-- R134. Converts a signed 32-bit integer to FP64. -/
  | fcvtDW (fd : FReg) (rs1 : XReg) (rm : BitVec 3)
  /-- R134. Converts an unsigned 32-bit integer to FP64. -/
  | fcvtDWu (fd : FReg) (rs1 : XReg) (rm : BitVec 3)
  /-- R134. Converts a signed 64-bit integer to FP64. -/
  | fcvtDL (fd : FReg) (rs1 : XReg) (rm : BitVec 3)
  /-- R134. Converts an unsigned 64-bit integer to FP64. -/
  | fcvtDLu (fd : FReg) (rs1 : XReg) (rm : BitVec 3)
  /-- R130. Moves fs1[31:0], sign-extended, to rd without boxing check. -/
  | fmvXW (rd : XReg) (fs1 : FReg)
  /-- R130. Moves fs1 to rd. -/
  | fmvXD (rd : XReg) (fs1 : FReg)
  /-- R131. Writes the one-hot class mask of an FP32 value. -/
  | fclassS (rd : XReg) (fs1 : FReg)
  /-- R131. Writes the one-hot class mask of an FP64 value. -/
  | fclassD (rd : XReg) (fs1 : FReg)
  /-- R130. Moves rs1[31:0] boxed into fd. -/
  | fmvWX (fd : FReg) (rs1 : XReg)
  /-- R130. Moves rs1 into fd. -/
  | fmvDX (fd : FReg) (rs1 : XReg)
  /-- R51. FP32 reciprocal estimate rounded to 12 significant bits. -/
  | frecipS (fd : FReg) (fs1 : FReg) (rm : BitVec 3)
  /-- R51. FP64 reciprocal estimate. -/
  | frecipD (fd : FReg) (fs1 : FReg) (rm : BitVec 3)
  /-- R51. FP16 reciprocal estimate. -/
  | frecipH (fd : FReg) (fs1 : FReg) (rm : BitVec 3)
  /-- R51. BF16 reciprocal estimate. -/
  | frecipBf (fd : FReg) (fs1 : FReg) (rm : BitVec 3)
  /-- R51. FP32 reciprocal-square-root estimate. -/
  | frsqrtS (fd : FReg) (fs1 : FReg) (rm : BitVec 3)
  /-- R51. FP64 reciprocal-square-root estimate. -/
  | frsqrtD (fd : FReg) (fs1 : FReg) (rm : BitVec 3)
  /-- R51. FP16 reciprocal-square-root estimate. -/
  | frsqrtH (fd : FReg) (fs1 : FReg) (rm : BitVec 3)
  /-- R51. BF16 reciprocal-square-root estimate. -/
  | frsqrtBf (fd : FReg) (fs1 : FReg) (rm : BitVec 3)
  /-- R157. Witnessed signed byte load honouring a presented witness and wait field. -/
  | lbW (rd : XReg) (rs1 : XReg) (rs2 : XReg) (wt : BitVec 2)
  /-- R157. Witnessed signed halfword load. -/
  | lhW (rd : XReg) (rs1 : XReg) (rs2 : XReg) (wt : BitVec 2)
  /-- R157. Witnessed signed word load. -/
  | lwW (rd : XReg) (rs1 : XReg) (rs2 : XReg) (wt : BitVec 2)
  /-- R157. Witnessed doubleword load. -/
  | ldW (rd : XReg) (rs1 : XReg) (rs2 : XReg) (wt : BitVec 2)
  /-- R157. Witnessed unsigned byte load. -/
  | lbuW (rd : XReg) (rs1 : XReg) (rs2 : XReg) (wt : BitVec 2)
  /-- R157. Witnessed unsigned halfword load. -/
  | lhuW (rd : XReg) (rs1 : XReg) (rs2 : XReg) (wt : BitVec 2)
  /-- R157. Witnessed unsigned word load. -/
  | lwuW (rd : XReg) (rs1 : XReg) (rs2 : XReg) (wt : BitVec 2)
  /-- R158. Witnessed byte store returning its witness in rd. -/
  | sbW (rd : XReg) (rs1 : XReg) (rs2 : XReg) (wt : BitVec 2)
  /-- R158. Witnessed halfword store returning its witness. -/
  | shW (rd : XReg) (rs1 : XReg) (rs2 : XReg) (wt : BitVec 2)
  /-- R158. Witnessed word store returning its witness. -/
  | swW (rd : XReg) (rs1 : XReg) (rs2 : XReg) (wt : BitVec 2)
  /-- R158. Witnessed doubleword store returning its witness. -/
  | sdW (rd : XReg) (rs1 : XReg) (rs2 : XReg) (wt : BitVec 2)
  /-- R115. Reads a doubleword without migrating, proxied if remote, as a long-latency producer. -/
  | ldrem (rd : XReg) (rs1 : XReg) (wt : BitVec 2)
  /-- R114. Moves the context to the tile owning rs1 without accessing memory. -/
  | migrate (rs1 : XReg)
  /-- R113. Translates rs1 and reports its class, space, rank and bank. -/
  | home (rd : XReg) (rs1 : XReg)
  /-- R112. Adds an offset to a pointer's 52-bit address, keeping bits 63:52. -/
  | padd (rd : XReg) (rs1 : XReg) (rs2 : XReg)
  /-- R149. Joins two witnesses into one covering both. -/
  | wjoin (rd : XReg) (rs1 : XReg) (rs2 : XReg)
  /-- R160. Parks until a witness is satisfied, probing if needed; traps on poison. -/
  | wwait (rs1 : XReg)
  /-- R161. Reports a witness as outstanding, satisfied or poison without waiting. -/
  | wtest (rd : XReg) (rs1 : XReg)
  /-- R159. Returns the join of the own-store table and overflow. -/
  | wself (rd : XReg)
  /-- R149. Turns a pair witness into a tick witness. -/
  | wcoarsen (rd : XReg) (rs1 : XReg)
  /-- R162. Waits as its wait field selects, then retires. -/
  | pfence (wt : BitVec 2)
  /-- R163. Posted atomic add at the home, returning a witness. -/
  | aaddP (rd : XReg) (rs1 : XReg) (rs2 : XReg) (wt : BitVec 2)
  /-- R163. Posted atomic AND. -/
  | aandP (rd : XReg) (rs1 : XReg) (rs2 : XReg) (wt : BitVec 2)
  /-- R163. Posted atomic OR. -/
  | aorP (rd : XReg) (rs1 : XReg) (rs2 : XReg) (wt : BitVec 2)
  /-- R163. Posted atomic XOR. -/
  | axorP (rd : XReg) (rs1 : XReg) (rs2 : XReg) (wt : BitVec 2)
  /-- R163. Posted atomic signed minimum. -/
  | aminP (rd : XReg) (rs1 : XReg) (rs2 : XReg) (wt : BitVec 2)
  /-- R163. Posted atomic signed maximum. -/
  | amaxP (rd : XReg) (rs1 : XReg) (rs2 : XReg) (wt : BitVec 2)
  /-- R163. Posted atomic unsigned minimum. -/
  | aminuP (rd : XReg) (rs1 : XReg) (rs2 : XReg) (wt : BitVec 2)
  /-- R163. Posted atomic unsigned maximum. -/
  | amaxuP (rd : XReg) (rs1 : XReg) (rs2 : XReg) (wt : BitVec 2)
  /-- R163. Posted atomic FP64 add rounded by RNE at the home. -/
  | afaddP (rd : XReg) (rs1 : XReg) (rs2 : XReg) (wt : BitVec 2)
  /-- R164. Returning atomic add yielding the old value. -/
  | aadd (rd : XReg) (rs1 : XReg) (rs2 : XReg) (wt : BitVec 2)
  /-- R164. Returning atomic swap. -/
  | aswap (rd : XReg) (rs1 : XReg) (rs2 : XReg) (wt : BitVec 2)
  /-- R164. Returning compare-and-swap using old rd as comparand. -/
  | acas (rd : XReg) (rs1 : XReg) (rs2 : XReg) (wt : BitVec 2)
  /-- R179. Posted decrement of a task counter yielding a witness. -/
  | tdec (rd : XReg) (rs1 : XReg) (wt : BitVec 2)
  /-- R171. Posts a frame increment, pushes the parent continuation and starts the child in the slot. -/
  | spawn (rs1 : XReg) (rs2 : XReg)
  /-- R173. Waits at the frame's home until count is 0 and fwit is satisfied. -/
  | join (rs1 : XReg)
  /-- R172. Posts a frame exit with WSELF and ends the context, resuming a deque entry if any. -/
  | exit (rs1 : XReg)
  /-- R174. Packs the context onto the tail of its own arrival queue when work waits. -/
  | yield
  /-- R180. Slot 0 starts a context from a start block in a free slot. -/
  | tstart (rd : XReg) (rs1 : XReg) (rs2 : XReg)
  /-- R181. Slot 0's non-waiting join, returning the count or 0. -/
  | treap (rd : XReg) (rs1 : XReg)
  /-- R182. Slot 0 makes the context in a slot exit. -/
  | tkill (rs1 : XReg)
  /-- R178. Arms a task counter with n as a returning-atomic access. -/
  | tarm (rs1 : XReg) (rs2 : XReg)
  /-- R97. Sets pinning until UNPIN. -/
  | pin
  /-- R97. Clears pinning. -/
  | unpin
  /-- R116. Reads a topology value chosen by the selector. -/
  | gtopo (rd : XReg) (uimm : BitVec 5)
  /-- R337. Waits as pfence 3 and sends a software interrupt to a rank's slot 0. -/
  | irqsend (rs1 : XReg) (rs2 : XReg)
  /-- R260. Returns from the copy-completion handler to uiepc. -/
  | uiret
  /-- R377. Creates a kind 1 trace record with a tag and rs1. -/
  | tracemark (rs1 : XReg) (uimm : BitVec 5)
  /-- R330. Slot 0 reads a word of a context packet, trap record or refusal entry. -/
  | ctxread (rd : XReg) (rs1 : XReg) (uimm : BitVec 5)
  /-- R330. Slot 0 writes a trapped context's packet word or acknowledges a refusal entry. -/
  | ctxwrite (rs1 : XReg) (rs2 : XReg) (uimm : BitVec 5)
  /-- R339. Closes the arrival gate and spills every light context and arrival packet. -/
  | preempt
  /-- R332. Resumes or forwards a trapped context, or restores the spill area. -/
  | resume (rs1 : XReg)
  /-- R186. Creates a group at its record's home, returning the generation. -/
  | gcreate (rd : XReg) (rs1 : XReg)
  /-- R186. Adds a member to an open group. -/
  | gjoin (rs1 : XReg)
  /-- R186. Removes a member, possibly completing the phase. -/
  | gleave (rs1 : XReg)
  /-- R189. Arrives at the group and waits for the phase and its pwit. -/
  | gsync (rs1 : XReg)
  /-- R186. Returns doubleword 0 of the group record. -/
  | gcount (rd : XReg) (rs1 : XReg)
  /-- R186. Dissolves a group, leaving as GLEAVE. -/
  | gdissolve (rs1 : XReg)
  /-- R194. Makes a barrier slot live with an expected count and phase. -/
  | binit (rs1 : XReg) (rs2 : XReg)
  /-- R195. Counts one arrival and returns the phase token. -/
  | barrive (rd : XReg) (rs1 : XReg)
  /-- R196. Waits until the barrier phase differs from the token. -/
  | bwait (rs1 : XReg) (rs2 : XReg)
  /-- R196. Reports whether the barrier phase is over. -/
  | btest (rd : XReg) (rs1 : XReg) (rs2 : XReg)
  /-- R197. Adds announced bytes to pending. -/
  | bexpect (rs1 : XReg) (rs2 : XReg)
  /-- R197. Removes landed bytes from pending. -/
  | bcomplete (rs1 : XReg) (rs2 : XReg)
  /-- R199. Returns a quiescent barrier slot to plain data. -/
  | bretire (rs1 : XReg)
  /-- R201. Forms or leaves a matrix gang on the wire. -/
  | gang (rs1 : XReg) (rs2 : XReg)
  /-- R222. Takes a full bridge register and empties it. -/
  | bget (rd : XReg) (bn : BitVec 4)
  /-- R222. Fills an empty bridge register. -/
  | bput (rs1 : XReg) (bn : BitVec 4)
  /-- R224. Binds the tile's furrow port to the context. -/
  | furrow (rs1 : XReg) (rs2 : XReg)
  /-- R226. Drains the outbound queue and unbinds the furrow port. -/
  | unfurrow
  /-- R213. Element-wise add over streams. -/
  | vfadd (fd : FReg) (fs1 : FReg) (fs2 : FReg) (et : BitVec 2)
  /-- R213. Element-wise subtract. -/
  | vfsub (fd : FReg) (fs1 : FReg) (fs2 : FReg) (et : BitVec 2)
  /-- R213. Element-wise multiply. -/
  | vfmul (fd : FReg) (fs1 : FReg) (fs2 : FReg) (et : BitVec 2)
  /-- R213. Element-wise fused Y_old*A+B. -/
  | vfma (fd : FReg) (fs1 : FReg) (fs2 : FReg) (et : BitVec 2)
  /-- R213. Element-wise minimum. -/
  | vfmin (fd : FReg) (fs1 : FReg) (fs2 : FReg) (et : BitVec 2)
  /-- R213. Element-wise maximum. -/
  | vfmax (fd : FReg) (fs1 : FReg) (fs2 : FReg) (et : BitVec 2)
  /-- R213. Element-wise division. -/
  | vfdiv (fd : FReg) (fs1 : FReg) (fs2 : FReg) (et : BitVec 2)
  /-- R213. Element-wise square root. -/
  | vfsqrt (fd : FReg) (fs1 : FReg) (et : BitVec 2)
  /-- R213. Converts stream elements straight to the computing type. fs2 names nothing: a well-formed VCVT holds 0 there. -/
  | vcvt (fd : FReg) (fs1 : FReg) (fs2 : FReg) (et : BitVec 2)
  /-- R213. Fills the output stream with a scalar. -/
  | vfill (fd : FReg) (fs1 : FReg) (et : BitVec 2)
  /-- R213. Copies stream A to Y. -/
  | vmov (fd : FReg) (fs1 : FReg) (et : BitVec 2)
  /-- R213. Fused A*B+Y_old in place. -/
  | vaxpy (fd : FReg) (fs1 : FReg) (fs2 : FReg) (et : BitVec 2)
  /-- R213. Scales Y in place by A. -/
  | vscal (fd : FReg) (fs1 : FReg) (et : BitVec 2)
  /-- R216. Dot product reduction into fd in fixed lane order. -/
  | vdot (fd : FReg) (fs1 : FReg) (fs2 : FReg) (et : BitVec 2)
  /-- R216. Sum reduction into fd. -/
  | vsum (fd : FReg) (fs1 : FReg) (et : BitVec 2)
  /-- R216. Maximum reduction into fd. -/
  | vmaxr (fd : FReg) (fs1 : FReg) (et : BitVec 2)
  /-- R215. Element-wise integer add in the width given by et. -/
  | viadd (fd : FReg) (fs1 : FReg) (fs2 : FReg) (et : BitVec 2)
  /-- R217. Gathers elements of B's walk indexed by A. -/
  | vgather (fd : FReg) (fs1 : FReg) (fs2 : FReg) (et : BitVec 2)
  /-- R207. Binds f4-f7 to a stream described in scratchpad. -/
  | scfg (fd : FReg) (rs1 : XReg)
  /-- R209. Unbinds a stream or seeks it to a position. -/
  | sen (fd : FReg) (rs1 : XReg)
  /-- R210. Reads a stream's binding, direction and position. -/
  | spos (rd : XReg) (fs1 : FReg)
  /-- R220. Waits for all vector commands of the context; traps on a pending stop. -/
  | vwait
  /-- R221. Reads the vector status of the context. -/
  | vstat (rd : XReg)
  /-- R234. Checks and enqueues a matrix operation, returning a ticket. -/
  | mxop (rd : XReg) (rs1 : XReg)
  /-- R235. Enqueues a gang member's part of a joint matrix operation. -/
  | mxg (rd : XReg) (rs1 : XReg)
  /-- R236. Reads status, witness or counters of the tile's engine. -/
  | mxstat (rd : XReg) (rs1 : XReg)
  /-- R238. Ends the matrix operation named by a ticket. -/
  | mxcancel (rs1 : XReg)
  /-- R253. Checks and enqueues a copy request from a0-a3, waiting for FIFO room. -/
  | cpyq (rd : XReg)
  /-- R253. As CPYQ but returns all ones instead of waiting on a full FIFO. -/
  | cpyqNb (rd : XReg)
  /-- R257. Reads a transfer's write pointer, status or output witness. -/
  | cwptr (rd : XReg) (rs1 : XReg)
  /-- R258. Waits for a transfer to end and optionally for its output witness. -/
  | cwait (rs1 : XReg)
  /-- R367. Posts a link work record to a LINK queue through its bridge. -/
  | lpost (rd : XReg) (rs1 : XReg) (rs2 : XReg)
  /-- R364. Arms or disarms a landing region. -/
  | larm (rd : XReg) (rs1 : XReg) (rs2 : XReg)
  /-- R367. Reads a LINK queue's pending count and fire index. -/
  | lcnt (rd : XReg) (rs1 : XReg)
  /-- R299. Appends a kernel record, sends a report, or restarts a halted window. -/
  | kappend (rd : XReg) (rs1 : XReg)
  /-- R311. Waits as pfence 3 and sends a capability wake to a bridge. -/
  | qwake (rs1 : XReg) (rs2 : XReg)
  /-- R314. Mill loads 16 bytes and their tag through a capability. -/
  | hld (rd : XReg) (rs1 : XReg)
  /-- R314. Mill stores 128 bits and a tag through a capability. -/
  | hst (rs1 : XReg) (rs2 : XReg)
  /-- R314. Narrows a capability's bounds. -/
  | hnarrow (rd : XReg) (rs1 : XReg) (rs2 : XReg)
  /-- R314. Clears permission bits of a capability, or moves it with x0. -/
  | hdrop (rd : XReg) (rs1 : XReg) (rs2 : XReg)
  /-- R314. Moves a capability's cursor. -/
  | hseek (rd : XReg) (rs1 : XReg) (rs2 : XReg)
  /-- R314. Locks a capability with a class in M mode. -/
  | hlock (rd : XReg) (rs1 : XReg) (uimm : BitVec 5)
  /-- R314. Opens a locked capability of the given class in M mode. -/
  | hopen (rd : XReg) (rs1 : XReg) (uimm : BitVec 5)
  /-- R314. Reads a field of a capability. -/
  | hinfo (rd : XReg) (rs1 : XReg) (uimm : BitVec 5)
  /-- R314. Mints a new capability in M mode. -/
  | hmint (rd : XReg) (rs1 : XReg) (rs2 : XReg)
  /-- R392. Reset input: mill verifies firmware, starts the tick grid, self-tests tiles and assigns ranks. -/
  | moduleReset (fw : Bool) (failed : List Nat)
  /-- R345. A tile's self-test ends and it becomes ranked, spare or bad. -/
  | selfTestEnd (t : Nat) (pass : Bool)
  /-- R355. The first voted edge starts FTIME without raising TICK. -/
  | startEdge (f : Nat)
  /-- R354. A voted 1 MHz edge raises TICK and resets FTIME in a field. -/
  | tickEdge (f : Nat)
  /-- R354. A grid wire disagreeing for 8 edges is reported by the mill. -/
  | gridWireDisagree (f w : Nat)
  /-- R354. A field losing two wires stops counting and heartbeating. -/
  | fieldGridLoss (f : Nat)
  /-- R346. A stalled rotation counter for 1,024 ticks or an uncorrectable core error clears core-alive. -/
  | coreAliveLoss (t : Nat)
  /-- R347. After 8 missed or dead heartbeats a neighbour reports the tile to the mill. -/
  | suspectReport (t n : Nat)
  /-- R348. The mill counts a suspect report and decides the vote. -/
  | suspectVote (m : Nat)
  /-- R345. 16 ticks after the first report an undecided suspect returns or is retired on the watchdog. n below 1,024 names the tile;
  n = tile + 1,024 * c is the mill's own order to retire the tile with cause c. -/
  | suspectWindowExpiry (n : Nat)
  /-- R351. When a spare becomes available the mill adopts the stood-in rank. -/
  | standInAdoption (k : Nat)
  /-- R350. A 64 KiB range of the retired tile is copied to the adopter and held accesses released. -/
  | evacuationRange (t : Nat) (ok : Bool)
  /-- R350. The mill's new rank-to-coordinate entry reaches a tile. -/
  | mapEntryUpdate (m : Nat)
  /-- R95. A sender receives the adopter's notice and updates its map. -/
  | ownerMovedNotice (m : Nat)
  /-- R336. A journal entry unsettled for 16,384 ticks writes a record and raises a machine check. -/
  | drainWatchdog (t idx : Nat)
  /-- R15. The mill lowers an island's operating point for power or heat. -/
  | lowerOperatingPoint (i : Nat)
  /-- R395. At 105 °C junction the mill stops every field until reset. -/
  | junctionOvertemp
  /-- R356. Every 2^20 ticks the mill rewrites the latency page. -/
  | latencyPageRefresh (p : Nat)
  /-- R376. At each edge with TICK mod p = 0 each tile writes a sample record per context. -/
  | sample (t : Nat)
  /-- R84. A freed light slot is given to the arrival queue head, the run list or TSTART. -/
  | slotAssign (t c : Nat)
  /-- R91. A departing context whose registers are all full is packed and sent. -/
  | departure (t c : Nat)
  /-- R91. A migration packet is accepted or refused at its destination. -/
  | migrationArrival (m : Nat)
  /-- R88. The source frees the slot of an accepted context. -/
  | acceptanceNotice (m : Nat)
  /-- R93. A refused context returns to its slot to back off or is proxied at the eighth refusal. -/
  | refusalNotice (m : Nat)
  /-- R93. The back-off timer expires and the packet is resent. -/
  | backoffExpiry (t c : Nat)
  /-- R151. An unpacked context's own-store entries are satisfied and the migrating instruction performs. -/
  | arrivalCheck (t c : Nat)
  /-- R94. An owner's shell serves a proxied access once its own-store entry is satisfied. -/
  | proxyRequest (m : Nat)
  /-- R94. A proxy reply fills the destination register or traps the context. -/
  | proxyReply (m : Nat)
  /-- R143. A posted store or posted atomic is applied or refused at its home and settled in sequence. -/
  | postedStoreArrival (m : Nat)
  /-- R109. A settlement notice releases a journal entry and lowers the class count. -/
  | settlementNotice (m : Nat)
  /-- R333. A refusal notice enters or merges into the issuing tile's refusal table. -/
  | refusalEntryFill (m : Nat)
  /-- R334. The home compares the acknowledged sequence and clears or keeps its mark. -/
  | refusalAckArrival (m : Nat)
  /-- R334. The issuing tile frees the entry or clears ackpend. -/
  | refusalAckAnswer (m : Nat)
  /-- R412. A held access performs once its holding condition clears. -/
  | heldAccessPerform (t : Nat)
  /-- R101. A home-cache line fill completes and replayed instructions may issue. -/
  | cacheFill (t : Nat)
  /-- R322. A page walk ends, filling the TLBs or faulting. -/
  | walkComplete (f i : Nat)
  /-- R145. A wait probe is held by dst's shell until satisfied or poison. -/
  | waitProbe (m : Nat)
  /-- R145. A test probe is answered at once. -/
  | testProbe (m : Nat)
  /-- R145. A held wait probe is answered when its witness, phase or slot condition is met. -/
  | waitProbeAnswer (t : Nat)
  /-- R145. A probe answer reaches the checker, waking or filling the waiting context. -/
  | probeAnswer (m : Nat)
  /-- R104. An integer divide writes its result and fills rd. -/
  | divideResult (t c : Nat)
  /-- R129. FDIV or FSQRT writes fd and ORs its flags. -/
  | fdivFsqrtResult (t c : Nat)
  /-- R108. A space-2 read reply over CXL fills the destination register. -/
  | hostReadReply (t c : Nat) (w : Word)
  /-- R146. The host port's completion settles a space-2 posted store. -/
  | hostWriteCompletion (i : Nat)
  /-- R172. The home decrements the frame count and joins fwit. -/
  | frameExitArrival (m : Nat)
  /-- R177. A task counter is decremented at its home and may queue a descriptor. -/
  | tdecArrival (m : Nat)
  /-- R175. An idle tile resumes its bottom deque entry in a free slot. -/
  | dequeResume (t : Nat)
  /-- R175. An idle tile with an empty deque reserves a slot and requests from a neighbour. -/
  | stealRound (t : Nat)
  /-- R175. A victim's shell sends its top deque entry or answers empty. -/
  | stealRequest (m : Nat)
  /-- R175. A steal answer resumes the entry or moves to the next neighbour. -/
  | stealAnswer (m : Nat)
  /-- R175. After 256 idle cycles a tile starts a new steal round. -/
  | stealRetryExpiry (t : Nat)
  /-- R186. A group instruction performs at the record's home under the state table. -/
  | groupRequest (m : Nat)
  /-- R192. A proxied barrier instruction performs at a space-0 slot's home. -/
  | barrierRequest (m : Nat)
  /-- R198. An engine removes landed bytes from a barrier slot's pending count. -/
  | engineDecrement (t : Nat)
  /-- R201. All members have executed GANG and the wire forms the gang or traps on disagreement. -/
  | gangFormed (t : Nat)
  /-- R202. The wire delivers an arrival to a member's completion slot. -/
  | gangWireArrival (t : Nat)
  /-- R239. A queued operation's input witness is found satisfied or poison. -/
  | mxeWinSatisfied (t i : Nat)
  /-- R243. A free engine selects the highest effective-priority queued operation. -/
  | mxeSelect (t : Nat)
  /-- R244. A k-step ends; overtaking, cancel and aborts are decided. -/
  | mxeKstepBoundary (t : Nat)
  /-- R245. A joint operation starts on all members once all are ready. -/
  | gangOpStart (t : Nat)
  /-- R240. A block's output performs and done advances. -/
  | mxeBlockWritten (t : Nat)
  /-- R240. An operation ends with final status and counters updated. -/
  | mxeOpEnd (t : Nat)
  /-- R236. MXSTAT's delayed value is written into rd. -/
  | mxstatResult (t c : Nat)
  /-- R255. The FIFO hands a request to a free copy channel. -/
  | channelStart (t : Nat)
  /-- R255. The transfer's effective input witness is satisfied or poison. -/
  | channelWinSatisfied (t i : Nat)
  /-- R255. A channel reads source bytes and issues a write of up to 64 bytes. -/
  | channelWrite (t i : Nat) (host : List Byte)
  /-- R259. A pending completion interrupt is delivered to its ready context. -/
  | copyCompletionInterrupt (t c : Nat)
  /-- R211. The stream unit fetches an input element ahead of its pop. -/
  | streamElementFetch (t c r : Nat)
  /-- R211. A buffered output element performs at the scratchpad. -/
  | streamOutputPerform (t c r : Nat)
  /-- R219. A vector command completes, writing its reduction result and flags. -/
  | vectorCommandComplete (t c : Nat)
  /-- R225. A word leaves the outbound queue for a bound downstream port with room. -/
  | furrowWordTransfer (t : Nat)
  /-- R263. A record reaches the window's append queue and is assigned a position. -/
  | kappendArrival (m : Nat)
  /-- R300. The window's reply fills KAPPEND's rd. -/
  | kappendReply (m : Nat)
  /-- R269. The next stream position is decoded and renamed. -/
  | windowDecode (p : Nat)
  /-- R273. The oldest ready entry issues, updating writer tables and writing task records. -/
  | windowIssue (p : Nat)
  /-- R298. A tile's complete or fault report for an entry is accepted or refused. -/
  | report (m : Nat)
  /-- R277. Up to four completed entries retire from the oldest end. -/
  | windowRetire (p : Nat)
  /-- R278. The oldest faulted entry squashes younger ones, rewinds and halts the window. -/
  | windowFault (p : Nat)
  /-- R296. A squash notice marks inbox places squashed and raises the interrupt. -/
  | squashNotice (m : Nat)
  /-- R288. A window kind completes once its input witness is satisfied. -/
  | windowKindComplete (p k : Nat)
  /-- R289. KBIND's 16-byte write performs and the entry completes. -/
  | kbindWrite (p k : Nat)
  /-- R290. At retirement KSIGNAL writes its completion record once all witnesses are satisfied. -/
  | ksignalWrite (p : Nat)
  /-- R291. Each tick KWAIT reads its word and completes when the condition holds. -/
  | kwaitRead (p k : Nat) (w : Word)
  /-- R292. KFENCE completes when every older output witness is satisfied. -/
  | kfenceComplete (p k : Nat)
  /-- R308. A host wake write is checked against its queue record. -/
  | wakeWrite (port off : Nat) (bytes : List Byte)
  /-- R308. A QWAKE message is checked at its bridge. -/
  | qwakeArrival (m : Nat)
  /-- R309. After earlier port writes are issued the bridge posts the doorbell. -/
  | doorbellStore (i : Nat)
  /-- R309. After the doorbell performs, the notify rank's doorbell interrupt is raised. -/
  | doorbellInterrupt (i : Nat)
  /-- R388. An EVENT doorbell store performs and the host is signalled by MSI-X. -/
  | eventMsix (i : Nat)
  /-- R363. An arriving write packet is placed in an armed landing region or NACKed. -/
  | lftWrite (b : Nat) (frame : List Byte)
  /-- R363. An arriving read request is served from a landing region. -/
  | lftReadRequest (b : Nat) (frame : List Byte)
  /-- R368. Read-reply data land at the requester. -/
  | lftReadReply (b : Nat) (frame : List Byte) (ref : Nat)
  /-- R363. An arriving posted atomic is performed in a landing region. -/
  | lftPostedAtomic (b : Nat) (frame : List Byte)
  /-- R363. An arriving returning atomic is performed and answered. -/
  | lftReturningAtomic (b : Nat) (frame : List Byte)
  /-- R365. An atomic reply fills the issuing context's register. -/
  | lftAtomicReply (b : Nat) (frame : List Byte) (ref : Nat)
  /-- R368. A trigger packet is checked as a wake and raises a LINK queue's fire index. -/
  | lftTrigger (b : Nat) (frame : List Byte)
  /-- R368. An ack settles stores and may end a record, writing its completion word. -/
  | lftAck (b : Nat) (frame : List Byte)
  /-- R368. A bitmap, refused or stale NACK triggers resends or ends a record. -/
  | lftNack (b : Nat) (frame : List Byte)
  /-- R362. A set-up exchange opens a connection and records the TICK difference. -/
  | lftSetup (b : Nat) (frame : List Byte)
  /-- R368. A gap open for 16 ticks sends a bitmap NACK. -/
  | classSGapTimeout (key : Nat)
  /-- R368. After 256 ticks without progress the sender resends everything unacknowledged. -/
  | classSProgressTimeout (q serial : Nat)
  /-- R368. An unacknowledged packet is resent after 128 ticks; 16 resends break the connection. -/
  | classMResendTimeout (key : Nat)
  /-- R362. Every 2^20 ticks the set-up exchange is repeated. -/
  | connectionSetupRefresh (key : Nat)
  /-- R368. A pending record fires when pidx reaches its serial and starts sending. -/
  | linkRecordFire (q : Nat)
  /-- R367. The bridge checks and applies an LPOST, LARM or LCNT request. -/
  | linkBridgeRequest (m : Nat)
  /-- R367. The bridge's reply fills LPOST, LARM or LCNT's rd. -/
  | linkBridgeReply (m : Nat)
  /-- R388. A CXL.mem write becomes a posted store to its home. -/
  | hostMemWrite (port addr : Nat) (bytes : List Byte)
  /-- R388. A CXL.mem read is proxied to its home and returns data or poison. -/
  | hostMemRead (port addr n : Nat)
  /-- R383. A host write to a register-region location with no behaviour of its own. -/
  | registerWrite (x off : Nat) (bytes : List Byte)
  /-- R386. Forms a partition, its arena, rings, tables and STREAM queue. -/
  | form (x : Nat)
  /-- R386. Kills the partition's contexts, revokes queues and frees its fields. -/
  | dissolve (x : Nat)
  /-- R393. Verifies and distributes a container and starts slot 0 of each rank. -/
  | load (x : Nat) (host : List Byte)
  /-- R386. Creates a queue record and mints its capability. -/
  | qcreate (x : Nat)
  /-- R307. Resets a faulted queue record. -/
  | qreset (x : Nat)
  /-- R307. Revokes a queue record. -/
  | qrevoke (x : Nat)
  /-- R352. Readmits a fallow tile into self-test. -/
  | readmit (x : Nat)
  /-- R376. Sets the partition's sample period. -/
  | observeSamplePeriod (x : Nat)
  /-- R378. Sets or clears a breakpoint table entry. -/
  | observeBreakpoint (x : Nat)
  /-- R379. Sets a watchpoint table entry. -/
  | observeWatchpoint (x : Nat)
  /-- R361. Sets the module's endpoint identifier. -/
  | endpoint (x : Nat)
  /-- R361. Writes one routing-table entry. -/
  | route (x : Nat)
  /-- R394. Returns a signed attestation report over the nonce. -/
  | attest (x : Nat)
  /-- R387. Installs an LMS public key in a key slot. -/
  | keyinstall (x : Nat)
  /-- R385. Mints a new service capability over the management connector. -/
  | svccap (x : Nat)
  /-- R387. Empties a key slot. -/
  | keyremove (x : Nat)
  /-- R386. Zeroes ranges with fresh checks and clears their poison entries. -/
  | unpoison (x : Nat)
  /-- R386. Writes or clears an entry of a shell's admission list. -/
  | admitRange (x : Nat)
  /-- R386. Returns a tile's state, rank and the map generation. -/
  | tilequery (x : Nat)
  /-- R337. An IRQSEND message sets a software-interrupt bit in the target's mip. -/
  | irqMessageArrival (m : Nat)
  /-- R121. Slot 0 takes a pending enabled interrupt at its turn. -/
  | interruptTake (t : Nat)
  /-- R123. A slot 0 in WFI resumes when an enabled interrupt becomes pending. -/
  | wfiWake (t : Nat)
  /-- R335. A fault record is sequenced and written into the fault ring and interrupt 20 raised. -/
  | faultRecordArrival (m : Nat)
  /-- R375. A trace record is sequenced and written into the trace ring. -/
  | traceRecordArrival (m : Nat)
  /-- R325. A TLB receives an SFENCE selection, invalidates and drains before acknowledging. -/
  | sfenceSelection (m : Nat)
  /-- R325. An acknowledgement reaches the fencing slot 0. -/
  | sfenceAck (m : Nat)
  /-- R328. A CSR write sets or clears read-write pending bits, raising interrupts. -/
  | mipWrite (t : Nat) (w : Word)
  /-- R316. A satp write with a valid mode changes the tile's translation root. -/
  | satpWrite (t : Nat) (w : Word)
  /-- R92. An arrcfg write clamps depth and pin threshold. -/
  | arrcfgWrite (t : Nat) (w : Word)
  /-- R137. A CSR access to fflags, frm or fcsr waits for outstanding float and vector work. -/
  | fcsrAccess (t c : Nat) (w : Word)
  /-- R74. An instruction word with an illegal major opcode, an unassigned function field or a reserved field raises a precise illegal-instruction trap before any effect. -/
  | illegalInstruction (w : Word32)
  /-- R413. A tile loses its supply, shell included, and from then on nothing answers for it and it stops heartbeating. -/
  | tileSupplyLoss (t : Nat)
  /-- R323. An uncorrectable error arises in a DRAM range or a scratchpad line, and the range is marked poisoned or the line left uncorrectable. -/
  | uncorrectableError (t : Nat) (spad : Bool) (off : Nat)
  /-- R381. A CXL.cache snoop from the host arrives and the device answers it as a miss. -/
  | cxlSnoop (port : Nat)
deriving DecidableEq, Repr

end Sys2Proof
end

