-- ==== Sys2Proof/WellFormed.lean ====
section
/-! DEFINITION. The well-formed instructions: those R64 to R74 give an encoding. -/
namespace Sys2Proof

/-- The rounding-mode codes R42 allows in an rm field: all but 101 and 110 (R74 item 7). -/
def roundingCode (rm : BitVec 3) : Bool := rm != 5#3 && rm != 6#3

/-- An instruction some legal word stands for: an encoded instruction whose rm field is legal (R42; FRECIP and
FRSQRT ignore theirs, R69) and whose GTOPO selector is assigned (R116). -/
def Instr.wf : Instr → Bool
  | .lb _ _ _ => true
  | .lh _ _ _ => true
  | .lw _ _ _ => true
  | .ld _ _ _ => true
  | .lbu _ _ _ => true
  | .lhu _ _ _ => true
  | .lwu _ _ _ => true
  | .sb _ _ _ => true
  | .sh _ _ _ => true
  | .sw _ _ _ => true
  | .sd _ _ _ => true
  | .addi _ _ _ => true
  | .slti _ _ _ => true
  | .sltiu _ _ _ => true
  | .xori _ _ _ => true
  | .ori _ _ _ => true
  | .andi _ _ _ => true
  | .slli _ _ _ => true
  | .srli _ _ _ => true
  | .srai _ _ _ => true
  | .clz _ _ => true
  | .ctz _ _ => true
  | .cpop _ _ => true
  | .rev8 _ _ => true
  | .addiw _ _ _ => true
  | .slliw _ _ _ => true
  | .srliw _ _ _ => true
  | .sraiw _ _ _ => true
  | .add _ _ _ => true
  | .sll _ _ _ => true
  | .slt _ _ _ => true
  | .sltu _ _ _ => true
  | .xor _ _ _ => true
  | .srl _ _ _ => true
  | .or _ _ _ => true
  | .and _ _ _ => true
  | .sub _ _ _ => true
  | .sra _ _ _ => true
  | .mul _ _ _ => true
  | .mulh _ _ _ => true
  | .mulhsu _ _ _ => true
  | .mulhu _ _ _ => true
  | .div _ _ _ => true
  | .divu _ _ _ => true
  | .rem _ _ _ => true
  | .remu _ _ _ => true
  | .sh1add _ _ _ => true
  | .sh2add _ _ _ => true
  | .sh3add _ _ _ => true
  | .min _ _ _ => true
  | .minu _ _ _ => true
  | .max _ _ _ => true
  | .maxu _ _ _ => true
  | .addw _ _ _ => true
  | .sllw _ _ _ => true
  | .srlw _ _ _ => true
  | .subw _ _ _ => true
  | .sraw _ _ _ => true
  | .mulw _ _ _ => true
  | .divw _ _ _ => true
  | .divuw _ _ _ => true
  | .remw _ _ _ => true
  | .remuw _ _ _ => true
  | .beq _ _ _ => true
  | .bne _ _ _ => true
  | .blt _ _ _ => true
  | .bge _ _ _ => true
  | .bltu _ _ _ => true
  | .bgeu _ _ _ => true
  | .jal _ _ => true
  | .jalr _ _ _ => true
  | .lui _ _ => true
  | .auipc _ _ => true
  | .fence _ _ _ _ _ => true
  | .fenceI => true
  | .ecall => true
  | .ebreak => true
  | .sret => true
  | .mret => true
  | .wfi => true
  | .sfenceVma _ _ => true
  | .csrrw _ _ _ => true
  | .csrrs _ _ _ => true
  | .csrrc _ _ _ => true
  | .csrrwi _ _ _ => true
  | .csrrsi _ _ _ => true
  | .csrrci _ _ _ => true
  | .flw _ _ _ => true
  | .fld _ _ _ => true
  | .fsw _ _ _ => true
  | .fsd _ _ _ => true
  | .fmaddS _ _ _ _ rm => roundingCode rm
  | .fmaddD _ _ _ _ rm => roundingCode rm
  | .fmsubS _ _ _ _ rm => roundingCode rm
  | .fmsubD _ _ _ _ rm => roundingCode rm
  | .fnmsubS _ _ _ _ rm => roundingCode rm
  | .fnmsubD _ _ _ _ rm => roundingCode rm
  | .fnmaddS _ _ _ _ rm => roundingCode rm
  | .fnmaddD _ _ _ _ rm => roundingCode rm
  | .faddS _ _ _ rm => roundingCode rm
  | .faddD _ _ _ rm => roundingCode rm
  | .fsubS _ _ _ rm => roundingCode rm
  | .fsubD _ _ _ rm => roundingCode rm
  | .fmulS _ _ _ rm => roundingCode rm
  | .fmulD _ _ _ rm => roundingCode rm
  | .fdivS _ _ _ rm => roundingCode rm
  | .fdivD _ _ _ rm => roundingCode rm
  | .fsqrtS _ _ rm => roundingCode rm
  | .fsqrtD _ _ rm => roundingCode rm
  | .fsgnjS _ _ _ => true
  | .fsgnjD _ _ _ => true
  | .fsgnjnS _ _ _ => true
  | .fsgnjnD _ _ _ => true
  | .fsgnjxS _ _ _ => true
  | .fsgnjxD _ _ _ => true
  | .fminS _ _ _ => true
  | .fminD _ _ _ => true
  | .fmaxS _ _ _ => true
  | .fmaxD _ _ _ => true
  | .fleS _ _ _ => true
  | .fleD _ _ _ => true
  | .fltS _ _ _ => true
  | .fltD _ _ _ => true
  | .feqS _ _ _ => true
  | .feqD _ _ _ => true
  | .fcvtSD _ _ rm => roundingCode rm
  | .fcvtDS _ _ rm => roundingCode rm
  | .fcvtSH _ _ rm => roundingCode rm
  | .fcvtSBf _ _ rm => roundingCode rm
  | .fcvtSE4 _ _ rm => roundingCode rm
  | .fcvtSE5 _ _ rm => roundingCode rm
  | .fcvtDH _ _ rm => roundingCode rm
  | .fcvtDBf _ _ rm => roundingCode rm
  | .fcvtDE4 _ _ rm => roundingCode rm
  | .fcvtDE5 _ _ rm => roundingCode rm
  | .fcvtHS _ _ rm _ => roundingCode rm
  | .fcvtHD _ _ rm _ => roundingCode rm
  | .fcvtBfS _ _ rm _ => roundingCode rm
  | .fcvtBfD _ _ rm _ => roundingCode rm
  | .fcvtE4S _ _ rm _ => roundingCode rm
  | .fcvtE4D _ _ rm _ => roundingCode rm
  | .fcvtE5S _ _ rm _ => roundingCode rm
  | .fcvtE5D _ _ rm _ => roundingCode rm
  | .fcvtWS _ _ rm _ => roundingCode rm
  | .fcvtWuS _ _ rm _ => roundingCode rm
  | .fcvtLS _ _ rm _ => roundingCode rm
  | .fcvtLuS _ _ rm _ => roundingCode rm
  | .fcvtWD _ _ rm _ => roundingCode rm
  | .fcvtWuD _ _ rm _ => roundingCode rm
  | .fcvtLD _ _ rm _ => roundingCode rm
  | .fcvtLuD _ _ rm _ => roundingCode rm
  | .fcvtSW _ _ rm => roundingCode rm
  | .fcvtSWu _ _ rm => roundingCode rm
  | .fcvtSL _ _ rm => roundingCode rm
  | .fcvtSLu _ _ rm => roundingCode rm
  | .fcvtDW _ _ rm => roundingCode rm
  | .fcvtDWu _ _ rm => roundingCode rm
  | .fcvtDL _ _ rm => roundingCode rm
  | .fcvtDLu _ _ rm => roundingCode rm
  | .fmvXW _ _ => true
  | .fmvXD _ _ => true
  | .fclassS _ _ => true
  | .fclassD _ _ => true
  | .fmvWX _ _ => true
  | .fmvDX _ _ => true
  | .frecipS _ _ _ => true
  | .frecipD _ _ _ => true
  | .frecipH _ _ _ => true
  | .frecipBf _ _ _ => true
  | .frsqrtS _ _ _ => true
  | .frsqrtD _ _ _ => true
  | .frsqrtH _ _ _ => true
  | .frsqrtBf _ _ _ => true
  | .lbW _ _ _ _ => true
  | .lhW _ _ _ _ => true
  | .lwW _ _ _ _ => true
  | .ldW _ _ _ _ => true
  | .lbuW _ _ _ _ => true
  | .lhuW _ _ _ _ => true
  | .lwuW _ _ _ _ => true
  | .sbW _ _ _ _ => true
  | .shW _ _ _ _ => true
  | .swW _ _ _ _ => true
  | .sdW _ _ _ _ => true
  | .ldrem _ _ _ => true
  | .migrate _ => true
  | .home _ _ => true
  | .padd _ _ _ => true
  | .wjoin _ _ _ => true
  | .wwait _ => true
  | .wtest _ _ => true
  | .wself _ => true
  | .wcoarsen _ _ => true
  | .pfence _ => true
  | .aaddP _ _ _ _ => true
  | .aandP _ _ _ _ => true
  | .aorP _ _ _ _ => true
  | .axorP _ _ _ _ => true
  | .aminP _ _ _ _ => true
  | .amaxP _ _ _ _ => true
  | .aminuP _ _ _ _ => true
  | .amaxuP _ _ _ _ => true
  | .afaddP _ _ _ _ => true
  | .aadd _ _ _ _ => true
  | .aswap _ _ _ _ => true
  | .acas _ _ _ _ => true
  | .tdec _ _ _ => true
  | .spawn _ _ => true
  | .join _ => true
  | .exit _ => true
  | .yield => true
  | .tstart _ _ _ => true
  | .treap _ _ => true
  | .tkill _ => true
  | .tarm _ _ => true
  | .pin => true
  | .unpin => true
  | .gtopo _ uimm => decide (uimm.toNat < 20)
  | .irqsend _ _ => true
  | .uiret => true
  | .tracemark _ _ => true
  | .ctxread _ _ _ => true
  | .ctxwrite _ _ _ => true
  | .preempt => true
  | .resume _ => true
  | .gcreate _ _ => true
  | .gjoin _ => true
  | .gleave _ => true
  | .gsync _ => true
  | .gcount _ _ => true
  | .gdissolve _ => true
  | .binit _ _ => true
  | .barrive _ _ => true
  | .bwait _ _ => true
  | .btest _ _ _ => true
  | .bexpect _ _ => true
  | .bcomplete _ _ => true
  | .bretire _ => true
  | .gang _ _ => true
  | .bget _ _ => true
  | .bput _ _ => true
  | .furrow _ _ => true
  | .unfurrow => true
  | .vfadd _ _ _ _ => true
  | .vfsub _ _ _ _ => true
  | .vfmul _ _ _ _ => true
  | .vfma _ _ _ _ => true
  | .vfmin _ _ _ _ => true
  | .vfmax _ _ _ _ => true
  | .vfdiv _ _ _ _ => true
  | .vfsqrt _ _ _ => true
  | .vcvt _ _ fs2 _ => fs2 == 0
  | .vfill _ _ _ => true
  | .vmov _ _ _ => true
  | .vaxpy _ _ _ _ => true
  | .vscal _ _ _ => true
  | .vdot _ _ _ _ => true
  | .vsum _ _ _ => true
  | .vmaxr _ _ _ => true
  | .viadd _ _ _ _ => true
  | .vgather _ _ _ _ => true
  | .scfg _ _ => true
  | .sen _ _ => true
  | .spos _ _ => true
  | .vwait => true
  | .vstat _ => true
  | .mxop _ _ => true
  | .mxg _ _ => true
  | .mxstat _ _ => true
  | .mxcancel _ => true
  | .cpyq _ => true
  | .cpyqNb _ => true
  | .cwptr _ _ => true
  | .cwait _ => true
  | .lpost _ _ _ => true
  | .larm _ _ _ => true
  | .lcnt _ _ => true
  | .kappend _ _ => true
  | .qwake _ _ => true
  | .hld _ _ => true
  | .hst _ _ => true
  | .hnarrow _ _ _ => true
  | .hdrop _ _ _ => true
  | .hseek _ _ _ => true
  | .hlock _ _ _ => true
  | .hopen _ _ _ => true
  | .hinfo _ _ _ => true
  | .hmint _ _ _ => true
  | .moduleReset _ _ => false
  | .selfTestEnd _ _ => false
  | .startEdge _ => false
  | .tickEdge _ => false
  | .gridWireDisagree _ _ => false
  | .fieldGridLoss _ => false
  | .coreAliveLoss _ => false
  | .suspectReport _ _ => false
  | .suspectVote _ => false
  | .suspectWindowExpiry _ => false
  | .standInAdoption _ => false
  | .evacuationRange _ _ => false
  | .mapEntryUpdate _ => false
  | .ownerMovedNotice _ => false
  | .drainWatchdog _ _ => false
  | .lowerOperatingPoint _ => false
  | .junctionOvertemp => false
  | .latencyPageRefresh _ => false
  | .sample _ => false
  | .slotAssign _ _ => false
  | .departure _ _ => false
  | .migrationArrival _ => false
  | .acceptanceNotice _ => false
  | .refusalNotice _ => false
  | .backoffExpiry _ _ => false
  | .arrivalCheck _ _ => false
  | .proxyRequest _ => false
  | .proxyReply _ => false
  | .postedStoreArrival _ => false
  | .settlementNotice _ => false
  | .refusalEntryFill _ => false
  | .refusalAckArrival _ => false
  | .refusalAckAnswer _ => false
  | .heldAccessPerform _ => false
  | .cacheFill _ => false
  | .walkComplete _ _ => false
  | .waitProbe _ => false
  | .testProbe _ => false
  | .waitProbeAnswer _ => false
  | .probeAnswer _ => false
  | .divideResult _ _ => false
  | .fdivFsqrtResult _ _ => false
  | .hostReadReply _ _ _ => false
  | .hostWriteCompletion _ => false
  | .frameExitArrival _ => false
  | .tdecArrival _ => false
  | .dequeResume _ => false
  | .stealRound _ => false
  | .stealRequest _ => false
  | .stealAnswer _ => false
  | .stealRetryExpiry _ => false
  | .groupRequest _ => false
  | .barrierRequest _ => false
  | .engineDecrement _ => false
  | .gangFormed _ => false
  | .gangWireArrival _ => false
  | .mxeWinSatisfied _ _ => false
  | .mxeSelect _ => false
  | .mxeKstepBoundary _ => false
  | .gangOpStart _ => false
  | .mxeBlockWritten _ => false
  | .mxeOpEnd _ => false
  | .mxstatResult _ _ => false
  | .channelStart _ => false
  | .channelWinSatisfied _ _ => false
  | .channelWrite _ _ _ => false
  | .copyCompletionInterrupt _ _ => false
  | .streamElementFetch _ _ _ => false
  | .streamOutputPerform _ _ _ => false
  | .vectorCommandComplete _ _ => false
  | .furrowWordTransfer _ => false
  | .kappendArrival _ => false
  | .kappendReply _ => false
  | .windowDecode _ => false
  | .windowIssue _ => false
  | .report _ => false
  | .windowRetire _ => false
  | .windowFault _ => false
  | .squashNotice _ => false
  | .windowKindComplete _ _ => false
  | .kbindWrite _ _ => false
  | .ksignalWrite _ => false
  | .kwaitRead _ _ _ => false
  | .kfenceComplete _ _ => false
  | .wakeWrite _ _ _ => false
  | .qwakeArrival _ => false
  | .doorbellStore _ => false
  | .doorbellInterrupt _ => false
  | .eventMsix _ => false
  | .lftWrite _ _ => false
  | .lftReadRequest _ _ => false
  | .lftReadReply _ _ _ => false
  | .lftPostedAtomic _ _ => false
  | .lftReturningAtomic _ _ => false
  | .lftAtomicReply _ _ _ => false
  | .lftTrigger _ _ => false
  | .lftAck _ _ => false
  | .lftNack _ _ => false
  | .lftSetup _ _ => false
  | .classSGapTimeout _ => false
  | .classSProgressTimeout _ _ => false
  | .classMResendTimeout _ => false
  | .connectionSetupRefresh _ => false
  | .linkRecordFire _ => false
  | .linkBridgeRequest _ => false
  | .linkBridgeReply _ => false
  | .hostMemWrite _ _ _ => false
  | .hostMemRead _ _ _ => false
  | .registerWrite _ _ _ => false
  | .form _ => false
  | .dissolve _ => false
  | .load _ _ => false
  | .qcreate _ => false
  | .qreset _ => false
  | .qrevoke _ => false
  | .readmit _ => false
  | .observeSamplePeriod _ => false
  | .observeBreakpoint _ => false
  | .observeWatchpoint _ => false
  | .endpoint _ => false
  | .route _ => false
  | .attest _ => false
  | .keyinstall _ => false
  | .svccap _ => false
  | .keyremove _ => false
  | .unpoison _ => false
  | .admitRange _ => false
  | .tilequery _ => false
  | .irqMessageArrival _ => false
  | .interruptTake _ => false
  | .wfiWake _ => false
  | .faultRecordArrival _ => false
  | .traceRecordArrival _ => false
  | .sfenceSelection _ => false
  | .sfenceAck _ => false
  | .mipWrite _ _ => false
  | .satpWrite _ _ => false
  | .arrcfgWrite _ _ => false
  | .fcsrAccess _ _ _ => false
  | .illegalInstruction _ => false
  | .tileSupplyLoss _ => false
  | .uncorrectableError _ _ _ => false
  | .cxlSnoop _ => false

end Sys2Proof
end

