-- ==== Sys2Proof/Decode.lean ====
section
/-! DEFINITION. The decoder: total on any 32-bit word, rejecting by name what R74 makes illegal in every slot
(03_encoding.md R64 to R74), and after it the encoder, written from the same tables. What depends on the slot,
the mode, frm or the register's role (R74 items 5, 7 to 11) is checked when the instruction executes.

The definitions that build an Instr are marked noncomputable for one reason only: Lean's compiled code has room for
244 constructors with fields, and the opcode table has more rows. Lean's kernel evaluates them. -/
namespace Sys2Proof

/-- Why a word is no instruction (R74). -/
inductive DecodeError where
  /-- Item 2 (and item 1: every opcode whose low bits are not 11 is in no row of R66). -/
  | majorOpcode
  /-- Item 3: an unassigned funct field or selector. -/
  | function
  /-- Item 4: a nonzero reserved field. -/
  | reservedField
  /-- Item 6: an f-register field of 8 or more. -/
  | fRegister
  /-- Item 7: an rm code of 101 or 110. -/
  | roundingMode
deriving DecidableEq, Repr

/-- What the decoder answers. -/
inductive Decoded where
  | ok (i : Instr)
  | reject (e : DecodeError)
deriving DecidableEq, Repr

/-- The six fields of format R (R65). They partition the word; every other format regroups them. -/
structure Fields where
  f7 : BitVec 7
  rs2 : BitVec 5
  rs1 : BitVec 5
  f3 : BitVec 3
  rd : BitVec 5
  op : BitVec 7
deriving DecidableEq, Repr

/-- The fields of a word (R65). -/
def Fields.ofWord (w : Word32) : Fields :=
  ⟨w.extractLsb' 25 7, w.extractLsb' 20 5, w.extractLsb' 15 5, w.extractLsb' 12 3, w.extractLsb' 7 5, w.extractLsb' 0 7⟩

/-- The word with these fields (R65). -/
def Fields.toWord (F : Fields) : Word32 := F.f7 ++ F.rs2 ++ F.rs1 ++ F.f3 ++ F.rd ++ F.op

/-- Bits 31:27: funct5, or rs3 of format Q. -/
def Fields.f5 (F : Fields) : BitVec 5 := F.f7.extractLsb' 2 5
/-- Bits 26:25: fmt, wt or et. -/
def Fields.lo2 (F : Fields) : BitVec 2 := F.f7.extractLsb' 0 2
/-- Bits 31:26, beside the six-bit shift amount. -/
def Fields.f6 (F : Fields) : BitVec 6 := F.f7.extractLsb' 1 6
/-- Bits 25:20: the six-bit shift amount. -/
def Fields.shamt6 (F : Fields) : BitVec 6 := F.f7.extractLsb' 0 1 ++ F.rs2
/-- Bits 31:20: the I immediate, a CSR number. -/
def Fields.immI (F : Fields) : BitVec 12 := F.f7 ++ F.rs2
/-- Bits 31:25 and 11:7: the S immediate. -/
def Fields.immS (F : Fields) : BitVec 12 := F.f7 ++ F.rd
/-- imm[12:1] of format B. -/
def Fields.immB (F : Fields) : BitVec 12 :=
  F.f7.extractLsb' 6 1 ++ F.rd.extractLsb' 0 1 ++ F.f7.extractLsb' 0 6 ++ F.rd.extractLsb' 1 4
/-- imm[31:12] of format U. -/
def Fields.immU (F : Fields) : BitVec 20 := F.f7 ++ F.rs2 ++ F.rs1 ++ F.f3
/-- imm[20:1] of format J. -/
def Fields.immJ (F : Fields) : BitVec 20 :=
  F.f7.extractLsb' 6 1 ++ F.rs1 ++ F.f3 ++ F.rs2.extractLsb' 0 1 ++ F.f7.extractLsb' 0 6 ++ F.rs2.extractLsb' 1 4
/-- Bit 24: the saturate selector (R69). -/
def Fields.sat (F : Fields) : Bool := F.rs2.getLsbD 4
/-- Bit 24, where it is reserved (BGET, R71). -/
def Fields.bit24 (F : Fields) : BitVec 1 := F.rs2.extractLsb' 4 1
/-- Bits 23:20: the type selectors of a conversion. -/
def Fields.rs2lo (F : Fields) : BitVec 4 := F.rs2.extractLsb' 0 4
/-- Bits 23:20: the bridge register of BGET (R71). -/
def Fields.bnGet (F : Fields) : BitVec 4 := F.rs2.extractLsb' 0 4
/-- Bit 11, reserved in BPUT (R71). -/
def Fields.bit11 (F : Fields) : BitVec 1 := F.rd.extractLsb' 4 1
/-- Bits 10:7: the bridge register of BPUT (R71). -/
def Fields.bnPut (F : Fields) : BitVec 4 := F.rd.extractLsb' 0 4
/-- Bits 31:28: fm of FENCE. -/
def Fields.fm (F : Fields) : BitVec 4 := F.f7.extractLsb' 3 4
/-- Bits 27:24: pred of FENCE. -/
def Fields.pred (F : Fields) : BitVec 4 := F.f7.extractLsb' 0 3 ++ F.rs2.extractLsb' 4 1
/-- Bits 23:20: succ of FENCE. -/
def Fields.succ (F : Fields) : BitVec 4 := F.rs2.extractLsb' 0 4

/-- A reserved field must be zero (R74 item 4). -/
def Decoded.zero {n : Nat} (x : BitVec n) (k : Decoded) : Decoded := if x = 0 then k else .reject .reservedField

/-- An f-register field must be below 8 (R74 item 6). -/
def Decoded.freg (r : BitVec 5) (k : FReg → Decoded) : Decoded :=
  if r.extractLsb' 3 2 = 0 then k (r.extractLsb' 0 3) else .reject .fRegister

/-- An rm field must not be 101 or 110 (R74 item 7, R42). -/
def Decoded.rounding (rm : BitVec 3) (k : Decoded) : Decoded :=
  if roundingCode rm then k else .reject .roundingMode

/-- A selector must be below its bound (R74 item 3). -/
def Decoded.selector (u : BitVec 5) (bound : Nat) (k : Decoded) : Decoded :=
  if u.toNat < bound then k else .reject .function


/-- LOAD words (R67). -/
def decodeLoad (F : Fields) : Decoded :=
  match F.f3 with
  | 0#3 => .ok (.lb F.rd F.rs1 F.immI)
  | 1#3 => .ok (.lh F.rd F.rs1 F.immI)
  | 2#3 => .ok (.lw F.rd F.rs1 F.immI)
  | 3#3 => .ok (.ld F.rd F.rs1 F.immI)
  | 4#3 => .ok (.lbu F.rd F.rs1 F.immI)
  | 5#3 => .ok (.lhu F.rd F.rs1 F.immI)
  | 6#3 => .ok (.lwu F.rd F.rs1 F.immI)
  | _ => .reject .function

/-- LOAD-FP words (R69). -/
def decodeLoadFp (F : Fields) : Decoded :=
  match F.f3 with
  | 2#3 => Decoded.freg F.rd fun fd => .ok (.flw fd F.rs1 F.immI)
  | 3#3 => Decoded.freg F.rd fun fd => .ok (.fld fd F.rs1 F.immI)
  | _ => .reject .function

/-- custom-0 words, format W (R70). -/
def decodeCustom0 (F : Fields) : Decoded :=
  match F.f5, F.f3 with
  | 0#5, 0#3 => .ok (.lbW F.rd F.rs1 F.rs2 F.lo2)
  | 0#5, 1#3 => .ok (.lhW F.rd F.rs1 F.rs2 F.lo2)
  | 0#5, 2#3 => .ok (.lwW F.rd F.rs1 F.rs2 F.lo2)
  | 0#5, 3#3 => .ok (.ldW F.rd F.rs1 F.rs2 F.lo2)
  | 0#5, 4#3 => .ok (.lbuW F.rd F.rs1 F.rs2 F.lo2)
  | 0#5, 5#3 => .ok (.lhuW F.rd F.rs1 F.rs2 F.lo2)
  | 0#5, 6#3 => .ok (.lwuW F.rd F.rs1 F.rs2 F.lo2)
  | 1#5, 0#3 => .ok (.sbW F.rd F.rs1 F.rs2 F.lo2)
  | 1#5, 1#3 => .ok (.shW F.rd F.rs1 F.rs2 F.lo2)
  | 1#5, 2#3 => .ok (.swW F.rd F.rs1 F.rs2 F.lo2)
  | 1#5, 3#3 => .ok (.sdW F.rd F.rs1 F.rs2 F.lo2)
  | 2#5, 0#3 => Decoded.zero F.rs2 <| .ok (.ldrem F.rd F.rs1 F.lo2)
  | 2#5, 1#3 => Decoded.zero F.lo2 <| Decoded.zero F.rs2 <| Decoded.zero F.rd <| .ok (.migrate F.rs1)
  | 2#5, 2#3 => Decoded.zero F.lo2 <| Decoded.zero F.rs2 <| .ok (.home F.rd F.rs1)
  | 2#5, 3#3 => Decoded.zero F.lo2 <| .ok (.padd F.rd F.rs1 F.rs2)
  | 3#5, 0#3 => Decoded.zero F.lo2 <| .ok (.wjoin F.rd F.rs1 F.rs2)
  | 3#5, 1#3 => Decoded.zero F.lo2 <| Decoded.zero F.rs2 <| Decoded.zero F.rd <| .ok (.wwait F.rs1)
  | 3#5, 2#3 => Decoded.zero F.lo2 <| Decoded.zero F.rs2 <| .ok (.wtest F.rd F.rs1)
  | 3#5, 3#3 => Decoded.zero F.lo2 <| Decoded.zero F.rs2 <| Decoded.zero F.rs1 <| .ok (.wself F.rd)
  | 3#5, 4#3 => Decoded.zero F.lo2 <| Decoded.zero F.rs2 <| .ok (.wcoarsen F.rd F.rs1)
  | 3#5, 5#3 => Decoded.zero F.rs2 <| Decoded.zero F.rs1 <| Decoded.zero F.rd <| .ok (.pfence F.lo2)
  | 4#5, 0#3 => .ok (.aaddP F.rd F.rs1 F.rs2 F.lo2)
  | 4#5, 1#3 => .ok (.aandP F.rd F.rs1 F.rs2 F.lo2)
  | 4#5, 2#3 => .ok (.aorP F.rd F.rs1 F.rs2 F.lo2)
  | 4#5, 3#3 => .ok (.axorP F.rd F.rs1 F.rs2 F.lo2)
  | 4#5, 4#3 => .ok (.aminP F.rd F.rs1 F.rs2 F.lo2)
  | 4#5, 5#3 => .ok (.amaxP F.rd F.rs1 F.rs2 F.lo2)
  | 4#5, 6#3 => .ok (.aminuP F.rd F.rs1 F.rs2 F.lo2)
  | 4#5, 7#3 => .ok (.amaxuP F.rd F.rs1 F.rs2 F.lo2)
  | 5#5, 0#3 => .ok (.afaddP F.rd F.rs1 F.rs2 F.lo2)
  | 6#5, 0#3 => .ok (.aadd F.rd F.rs1 F.rs2 F.lo2)
  | 6#5, 1#3 => .ok (.aswap F.rd F.rs1 F.rs2 F.lo2)
  | 6#5, 2#3 => .ok (.acas F.rd F.rs1 F.rs2 F.lo2)
  | 7#5, 0#3 => Decoded.zero F.rs2 <| .ok (.tdec F.rd F.rs1 F.lo2)
  | _, _ => .reject .function

/-- MISC-MEM words (R68). -/
def decodeMiscMem (F : Fields) : Decoded :=
  match F.f3 with
  | 0#3 => .ok (.fence F.fm F.pred F.succ F.rs1 F.rd)
  | 1#3 => Decoded.zero F.immI <| Decoded.zero F.rs1 <| Decoded.zero F.rd <| .ok .fenceI
  | _ => .reject .function

/-- OP-IMM words (R67). -/
def decodeOpImm (F : Fields) : Decoded :=
  match F.f3 with
  | 0#3 => .ok (.addi F.rd F.rs1 F.immI)
  | 2#3 => .ok (.slti F.rd F.rs1 F.immI)
  | 3#3 => .ok (.sltiu F.rd F.rs1 F.immI)
  | 4#3 => .ok (.xori F.rd F.rs1 F.immI)
  | 6#3 => .ok (.ori F.rd F.rs1 F.immI)
  | 7#3 => .ok (.andi F.rd F.rs1 F.immI)
  | 1#3 =>
    match F.f6 with
    | 0#6 => .ok (.slli F.rd F.rs1 F.shamt6)
    | _ =>
      match F.immI with
      | 1536#12 => .ok (.clz F.rd F.rs1)
      | 1537#12 => .ok (.ctz F.rd F.rs1)
      | 1538#12 => .ok (.cpop F.rd F.rs1)
      | _ => .reject .function
  | 5#3 =>
    match F.f6 with
    | 0#6 => .ok (.srli F.rd F.rs1 F.shamt6)
    | 16#6 => .ok (.srai F.rd F.rs1 F.shamt6)
    | _ =>
      match F.immI with
      | 1720#12 => .ok (.rev8 F.rd F.rs1)
      | _ => .reject .function

/-- OP-IMM-32 words (R67). -/
def decodeOpImm32 (F : Fields) : Decoded :=
  match F.f3 with
  | 0#3 => .ok (.addiw F.rd F.rs1 F.immI)
  | 1#3 =>
    match F.f7 with
    | 0#7 => .ok (.slliw F.rd F.rs1 F.rs2)
    | _ => .reject .function
  | 5#3 =>
    match F.f7 with
    | 0#7 => .ok (.srliw F.rd F.rs1 F.rs2)
    | 32#7 => .ok (.sraiw F.rd F.rs1 F.rs2)
    | _ => .reject .function
  | _ => .reject .function

/-- STORE words (R67). -/
def decodeStore (F : Fields) : Decoded :=
  match F.f3 with
  | 0#3 => .ok (.sb F.rs1 F.rs2 F.immS)
  | 1#3 => .ok (.sh F.rs1 F.rs2 F.immS)
  | 2#3 => .ok (.sw F.rs1 F.rs2 F.immS)
  | 3#3 => .ok (.sd F.rs1 F.rs2 F.immS)
  | _ => .reject .function

/-- STORE-FP words (R69). -/
def decodeStoreFp (F : Fields) : Decoded :=
  match F.f3 with
  | 2#3 => Decoded.freg F.rs2 fun fs2 => .ok (.fsw F.rs1 fs2 F.immS)
  | 3#3 => Decoded.freg F.rs2 fun fs2 => .ok (.fsd F.rs1 fs2 F.immS)
  | _ => .reject .function

/-- custom-1 words, formats R, K and KS (R71). -/
def decodeCustom1 (F : Fields) : Decoded :=
  match F.f3, F.f7 with
  | 0#3, 0#7 => Decoded.zero F.rd <| .ok (.spawn F.rs1 F.rs2)
  | 0#3, 1#7 => Decoded.zero F.rs2 <| Decoded.zero F.rd <| .ok (.join F.rs1)
  | 0#3, 2#7 => Decoded.zero F.rs2 <| Decoded.zero F.rd <| .ok (.exit F.rs1)
  | 0#3, 3#7 => Decoded.zero F.rs2 <| Decoded.zero F.rs1 <| Decoded.zero F.rd <| .ok (.yield)
  | 0#3, 4#7 => .ok (.tstart F.rd F.rs1 F.rs2)
  | 0#3, 5#7 => Decoded.zero F.rs2 <| .ok (.treap F.rd F.rs1)
  | 0#3, 6#7 => Decoded.zero F.rs2 <| Decoded.zero F.rd <| .ok (.tkill F.rs1)
  | 0#3, 7#7 => Decoded.zero F.rd <| .ok (.tarm F.rs1 F.rs2)
  | 0#3, 8#7 => Decoded.zero F.rs2 <| Decoded.zero F.rs1 <| Decoded.zero F.rd <| .ok (.pin)
  | 0#3, 9#7 => Decoded.zero F.rs2 <| Decoded.zero F.rs1 <| Decoded.zero F.rd <| .ok (.unpin)
  | 0#3, 10#7 => Decoded.zero F.rs1 <| Decoded.selector F.rs2 20 <| .ok (.gtopo F.rd F.rs2)
  | 0#3, 11#7 => Decoded.zero F.rd <| .ok (.irqsend F.rs1 F.rs2)
  | 0#3, 12#7 => Decoded.zero F.rs2 <| Decoded.zero F.rs1 <| Decoded.zero F.rd <| .ok (.uiret)
  | 0#3, 13#7 => Decoded.zero F.rd <| .ok (.tracemark F.rs1 F.rs2)
  | 1#3, 0#7 => .ok (.ctxread F.rd F.rs1 F.rs2)
  | 1#3, 1#7 => .ok (.ctxwrite F.rs1 F.rs2 F.rd)
  | 1#3, 2#7 => Decoded.zero F.rs2 <| Decoded.zero F.rs1 <| Decoded.zero F.rd <| .ok (.preempt)
  | 1#3, 3#7 => Decoded.zero F.rs2 <| Decoded.zero F.rd <| .ok (.resume F.rs1)
  | 2#3, 0#7 => Decoded.zero F.rs2 <| .ok (.gcreate F.rd F.rs1)
  | 2#3, 1#7 => Decoded.zero F.rs2 <| Decoded.zero F.rd <| .ok (.gjoin F.rs1)
  | 2#3, 2#7 => Decoded.zero F.rs2 <| Decoded.zero F.rd <| .ok (.gleave F.rs1)
  | 2#3, 3#7 => Decoded.zero F.rs2 <| Decoded.zero F.rd <| .ok (.gsync F.rs1)
  | 2#3, 4#7 => Decoded.zero F.rs2 <| .ok (.gcount F.rd F.rs1)
  | 2#3, 5#7 => Decoded.zero F.rs2 <| Decoded.zero F.rd <| .ok (.gdissolve F.rs1)
  | 3#3, 0#7 => Decoded.zero F.rd <| .ok (.binit F.rs1 F.rs2)
  | 3#3, 1#7 => Decoded.zero F.rs2 <| .ok (.barrive F.rd F.rs1)
  | 3#3, 2#7 => Decoded.zero F.rd <| .ok (.bwait F.rs1 F.rs2)
  | 3#3, 3#7 => .ok (.btest F.rd F.rs1 F.rs2)
  | 3#3, 4#7 => Decoded.zero F.rd <| .ok (.bexpect F.rs1 F.rs2)
  | 3#3, 5#7 => Decoded.zero F.rd <| .ok (.bcomplete F.rs1 F.rs2)
  | 3#3, 6#7 => Decoded.zero F.rs2 <| Decoded.zero F.rd <| .ok (.bretire F.rs1)
  | 3#3, 7#7 => Decoded.zero F.rd <| .ok (.gang F.rs1 F.rs2)
  | 4#3, 0#7 => Decoded.zero F.rs1 <| Decoded.zero F.bit24 <| .ok (.bget F.rd F.bnGet)
  | 4#3, 1#7 => Decoded.zero F.rs2 <| Decoded.zero F.bit11 <| .ok (.bput F.rs1 F.bnPut)
  | 4#3, 2#7 => Decoded.zero F.rd <| .ok (.furrow F.rs1 F.rs2)
  | 4#3, 3#7 => Decoded.zero F.rs2 <| Decoded.zero F.rs1 <| Decoded.zero F.rd <| .ok (.unfurrow)
  | _, _ => .reject .function

/-- OP words (R67). -/
def decodeOp (F : Fields) : Decoded :=
  match F.f7, F.f3 with
  | 0#7, 0#3 => .ok (.add F.rd F.rs1 F.rs2)
  | 0#7, 1#3 => .ok (.sll F.rd F.rs1 F.rs2)
  | 0#7, 2#3 => .ok (.slt F.rd F.rs1 F.rs2)
  | 0#7, 3#3 => .ok (.sltu F.rd F.rs1 F.rs2)
  | 0#7, 4#3 => .ok (.xor F.rd F.rs1 F.rs2)
  | 0#7, 5#3 => .ok (.srl F.rd F.rs1 F.rs2)
  | 0#7, 6#3 => .ok (.or F.rd F.rs1 F.rs2)
  | 0#7, 7#3 => .ok (.and F.rd F.rs1 F.rs2)
  | 32#7, 0#3 => .ok (.sub F.rd F.rs1 F.rs2)
  | 32#7, 5#3 => .ok (.sra F.rd F.rs1 F.rs2)
  | 1#7, 0#3 => .ok (.mul F.rd F.rs1 F.rs2)
  | 1#7, 1#3 => .ok (.mulh F.rd F.rs1 F.rs2)
  | 1#7, 2#3 => .ok (.mulhsu F.rd F.rs1 F.rs2)
  | 1#7, 3#3 => .ok (.mulhu F.rd F.rs1 F.rs2)
  | 1#7, 4#3 => .ok (.div F.rd F.rs1 F.rs2)
  | 1#7, 5#3 => .ok (.divu F.rd F.rs1 F.rs2)
  | 1#7, 6#3 => .ok (.rem F.rd F.rs1 F.rs2)
  | 1#7, 7#3 => .ok (.remu F.rd F.rs1 F.rs2)
  | 16#7, 2#3 => .ok (.sh1add F.rd F.rs1 F.rs2)
  | 16#7, 4#3 => .ok (.sh2add F.rd F.rs1 F.rs2)
  | 16#7, 6#3 => .ok (.sh3add F.rd F.rs1 F.rs2)
  | 5#7, 4#3 => .ok (.min F.rd F.rs1 F.rs2)
  | 5#7, 5#3 => .ok (.minu F.rd F.rs1 F.rs2)
  | 5#7, 6#3 => .ok (.max F.rd F.rs1 F.rs2)
  | 5#7, 7#3 => .ok (.maxu F.rd F.rs1 F.rs2)
  | _, _ => .reject .function

/-- OP-32 words (R67). -/
def decodeOp32 (F : Fields) : Decoded :=
  match F.f7, F.f3 with
  | 0#7, 0#3 => .ok (.addw F.rd F.rs1 F.rs2)
  | 0#7, 1#3 => .ok (.sllw F.rd F.rs1 F.rs2)
  | 0#7, 5#3 => .ok (.srlw F.rd F.rs1 F.rs2)
  | 32#7, 0#3 => .ok (.subw F.rd F.rs1 F.rs2)
  | 32#7, 5#3 => .ok (.sraw F.rd F.rs1 F.rs2)
  | 1#7, 0#3 => .ok (.mulw F.rd F.rs1 F.rs2)
  | 1#7, 4#3 => .ok (.divw F.rd F.rs1 F.rs2)
  | 1#7, 5#3 => .ok (.divuw F.rd F.rs1 F.rs2)
  | 1#7, 6#3 => .ok (.remw F.rd F.rs1 F.rs2)
  | 1#7, 7#3 => .ok (.remuw F.rd F.rs1 F.rs2)
  | _, _ => .reject .function

/-- FMADD words, format Q (R69). -/
def decodeFmadd (F : Fields) : Decoded :=
  match F.lo2 with
  | 0#2 => Decoded.freg F.rd fun fd => Decoded.freg F.rs1 fun fs1 => Decoded.freg F.rs2 fun fs2 => Decoded.freg F.f5 fun fs3 => Decoded.rounding F.f3 <| .ok (.fmaddS fd fs1 fs2 fs3 F.f3)
  | 1#2 => Decoded.freg F.rd fun fd => Decoded.freg F.rs1 fun fs1 => Decoded.freg F.rs2 fun fs2 => Decoded.freg F.f5 fun fs3 => Decoded.rounding F.f3 <| .ok (.fmaddD fd fs1 fs2 fs3 F.f3)
  | _ => .reject .function

/-- FMSUB words, format Q (R69). -/
def decodeFmsub (F : Fields) : Decoded :=
  match F.lo2 with
  | 0#2 => Decoded.freg F.rd fun fd => Decoded.freg F.rs1 fun fs1 => Decoded.freg F.rs2 fun fs2 => Decoded.freg F.f5 fun fs3 => Decoded.rounding F.f3 <| .ok (.fmsubS fd fs1 fs2 fs3 F.f3)
  | 1#2 => Decoded.freg F.rd fun fd => Decoded.freg F.rs1 fun fs1 => Decoded.freg F.rs2 fun fs2 => Decoded.freg F.f5 fun fs3 => Decoded.rounding F.f3 <| .ok (.fmsubD fd fs1 fs2 fs3 F.f3)
  | _ => .reject .function

/-- FNMSUB words, format Q (R69). -/
def decodeFnmsub (F : Fields) : Decoded :=
  match F.lo2 with
  | 0#2 => Decoded.freg F.rd fun fd => Decoded.freg F.rs1 fun fs1 => Decoded.freg F.rs2 fun fs2 => Decoded.freg F.f5 fun fs3 => Decoded.rounding F.f3 <| .ok (.fnmsubS fd fs1 fs2 fs3 F.f3)
  | 1#2 => Decoded.freg F.rd fun fd => Decoded.freg F.rs1 fun fs1 => Decoded.freg F.rs2 fun fs2 => Decoded.freg F.f5 fun fs3 => Decoded.rounding F.f3 <| .ok (.fnmsubD fd fs1 fs2 fs3 F.f3)
  | _ => .reject .function

/-- FNMADD words, format Q (R69). -/
def decodeFnmadd (F : Fields) : Decoded :=
  match F.lo2 with
  | 0#2 => Decoded.freg F.rd fun fd => Decoded.freg F.rs1 fun fs1 => Decoded.freg F.rs2 fun fs2 => Decoded.freg F.f5 fun fs3 => Decoded.rounding F.f3 <| .ok (.fnmaddS fd fs1 fs2 fs3 F.f3)
  | 1#2 => Decoded.freg F.rd fun fd => Decoded.freg F.rs1 fun fs1 => Decoded.freg F.rs2 fun fs2 => Decoded.freg F.f5 fun fs3 => Decoded.rounding F.f3 <| .ok (.fnmaddD fd fs1 fs2 fs3 F.f3)
  | _ => .reject .function

/-- OP-FP words (R69). -/
def decodeOpFp (F : Fields) : Decoded :=
  match F.f5, F.lo2 with
  | 0#5, 0#2 => Decoded.freg F.rd fun fd => Decoded.freg F.rs1 fun fs1 => Decoded.freg F.rs2 fun fs2 => Decoded.rounding F.f3 <| .ok (.faddS fd fs1 fs2 F.f3)
  | 0#5, 1#2 => Decoded.freg F.rd fun fd => Decoded.freg F.rs1 fun fs1 => Decoded.freg F.rs2 fun fs2 => Decoded.rounding F.f3 <| .ok (.faddD fd fs1 fs2 F.f3)
  | 1#5, 0#2 => Decoded.freg F.rd fun fd => Decoded.freg F.rs1 fun fs1 => Decoded.freg F.rs2 fun fs2 => Decoded.rounding F.f3 <| .ok (.fsubS fd fs1 fs2 F.f3)
  | 1#5, 1#2 => Decoded.freg F.rd fun fd => Decoded.freg F.rs1 fun fs1 => Decoded.freg F.rs2 fun fs2 => Decoded.rounding F.f3 <| .ok (.fsubD fd fs1 fs2 F.f3)
  | 2#5, 0#2 => Decoded.freg F.rd fun fd => Decoded.freg F.rs1 fun fs1 => Decoded.freg F.rs2 fun fs2 => Decoded.rounding F.f3 <| .ok (.fmulS fd fs1 fs2 F.f3)
  | 2#5, 1#2 => Decoded.freg F.rd fun fd => Decoded.freg F.rs1 fun fs1 => Decoded.freg F.rs2 fun fs2 => Decoded.rounding F.f3 <| .ok (.fmulD fd fs1 fs2 F.f3)
  | 3#5, 0#2 => Decoded.freg F.rd fun fd => Decoded.freg F.rs1 fun fs1 => Decoded.freg F.rs2 fun fs2 => Decoded.rounding F.f3 <| .ok (.fdivS fd fs1 fs2 F.f3)
  | 3#5, 1#2 => Decoded.freg F.rd fun fd => Decoded.freg F.rs1 fun fs1 => Decoded.freg F.rs2 fun fs2 => Decoded.rounding F.f3 <| .ok (.fdivD fd fs1 fs2 F.f3)
  | 4#5, 0#2 =>
    match F.f3 with
    | 0#3 => Decoded.freg F.rd fun fd => Decoded.freg F.rs1 fun fs1 => Decoded.freg F.rs2 fun fs2 => .ok (.fsgnjS fd fs1 fs2)
    | 1#3 => Decoded.freg F.rd fun fd => Decoded.freg F.rs1 fun fs1 => Decoded.freg F.rs2 fun fs2 => .ok (.fsgnjnS fd fs1 fs2)
    | 2#3 => Decoded.freg F.rd fun fd => Decoded.freg F.rs1 fun fs1 => Decoded.freg F.rs2 fun fs2 => .ok (.fsgnjxS fd fs1 fs2)
    | _ => .reject .function
  | 4#5, 1#2 =>
    match F.f3 with
    | 0#3 => Decoded.freg F.rd fun fd => Decoded.freg F.rs1 fun fs1 => Decoded.freg F.rs2 fun fs2 => .ok (.fsgnjD fd fs1 fs2)
    | 1#3 => Decoded.freg F.rd fun fd => Decoded.freg F.rs1 fun fs1 => Decoded.freg F.rs2 fun fs2 => .ok (.fsgnjnD fd fs1 fs2)
    | 2#3 => Decoded.freg F.rd fun fd => Decoded.freg F.rs1 fun fs1 => Decoded.freg F.rs2 fun fs2 => .ok (.fsgnjxD fd fs1 fs2)
    | _ => .reject .function
  | 5#5, 0#2 =>
    match F.f3 with
    | 0#3 => Decoded.freg F.rd fun fd => Decoded.freg F.rs1 fun fs1 => Decoded.freg F.rs2 fun fs2 => .ok (.fminS fd fs1 fs2)
    | 1#3 => Decoded.freg F.rd fun fd => Decoded.freg F.rs1 fun fs1 => Decoded.freg F.rs2 fun fs2 => .ok (.fmaxS fd fs1 fs2)
    | _ => .reject .function
  | 5#5, 1#2 =>
    match F.f3 with
    | 0#3 => Decoded.freg F.rd fun fd => Decoded.freg F.rs1 fun fs1 => Decoded.freg F.rs2 fun fs2 => .ok (.fminD fd fs1 fs2)
    | 1#3 => Decoded.freg F.rd fun fd => Decoded.freg F.rs1 fun fs1 => Decoded.freg F.rs2 fun fs2 => .ok (.fmaxD fd fs1 fs2)
    | _ => .reject .function
  | 8#5, 0#2 =>
    match F.rs2 with
    | 1#5 => Decoded.freg F.rd fun fd => Decoded.freg F.rs1 fun fs1 => Decoded.rounding F.f3 <| .ok (.fcvtSD fd fs1 F.f3)
    | 4#5 => Decoded.freg F.rd fun fd => Decoded.freg F.rs1 fun fs1 => Decoded.rounding F.f3 <| .ok (.fcvtSH fd fs1 F.f3)
    | 5#5 => Decoded.freg F.rd fun fd => Decoded.freg F.rs1 fun fs1 => Decoded.rounding F.f3 <| .ok (.fcvtSBf fd fs1 F.f3)
    | 6#5 => Decoded.freg F.rd fun fd => Decoded.freg F.rs1 fun fs1 => Decoded.rounding F.f3 <| .ok (.fcvtSE4 fd fs1 F.f3)
    | 7#5 => Decoded.freg F.rd fun fd => Decoded.freg F.rs1 fun fs1 => Decoded.rounding F.f3 <| .ok (.fcvtSE5 fd fs1 F.f3)
    | _ => .reject .function
  | 8#5, 1#2 =>
    match F.rs2 with
    | 0#5 => Decoded.freg F.rd fun fd => Decoded.freg F.rs1 fun fs1 => Decoded.rounding F.f3 <| .ok (.fcvtDS fd fs1 F.f3)
    | 4#5 => Decoded.freg F.rd fun fd => Decoded.freg F.rs1 fun fs1 => Decoded.rounding F.f3 <| .ok (.fcvtDH fd fs1 F.f3)
    | 5#5 => Decoded.freg F.rd fun fd => Decoded.freg F.rs1 fun fs1 => Decoded.rounding F.f3 <| .ok (.fcvtDBf fd fs1 F.f3)
    | 6#5 => Decoded.freg F.rd fun fd => Decoded.freg F.rs1 fun fs1 => Decoded.rounding F.f3 <| .ok (.fcvtDE4 fd fs1 F.f3)
    | 7#5 => Decoded.freg F.rd fun fd => Decoded.freg F.rs1 fun fs1 => Decoded.rounding F.f3 <| .ok (.fcvtDE5 fd fs1 F.f3)
    | _ => .reject .function
  | 8#5, 2#2 =>
    match F.rs2lo with
    | 0#4 => Decoded.freg F.rd fun fd => Decoded.freg F.rs1 fun fs1 => Decoded.rounding F.f3 <| .ok (.fcvtHS fd fs1 F.f3 F.sat)
    | 1#4 => Decoded.freg F.rd fun fd => Decoded.freg F.rs1 fun fs1 => Decoded.rounding F.f3 <| .ok (.fcvtHD fd fs1 F.f3 F.sat)
    | 4#4 => Decoded.freg F.rd fun fd => Decoded.freg F.rs1 fun fs1 => Decoded.rounding F.f3 <| .ok (.fcvtBfS fd fs1 F.f3 F.sat)
    | 5#4 => Decoded.freg F.rd fun fd => Decoded.freg F.rs1 fun fs1 => Decoded.rounding F.f3 <| .ok (.fcvtBfD fd fs1 F.f3 F.sat)
    | 8#4 => Decoded.freg F.rd fun fd => Decoded.freg F.rs1 fun fs1 => Decoded.rounding F.f3 <| .ok (.fcvtE4S fd fs1 F.f3 F.sat)
    | 9#4 => Decoded.freg F.rd fun fd => Decoded.freg F.rs1 fun fs1 => Decoded.rounding F.f3 <| .ok (.fcvtE4D fd fs1 F.f3 F.sat)
    | 12#4 => Decoded.freg F.rd fun fd => Decoded.freg F.rs1 fun fs1 => Decoded.rounding F.f3 <| .ok (.fcvtE5S fd fs1 F.f3 F.sat)
    | 13#4 => Decoded.freg F.rd fun fd => Decoded.freg F.rs1 fun fs1 => Decoded.rounding F.f3 <| .ok (.fcvtE5D fd fs1 F.f3 F.sat)
    | _ => .reject .function
  | 11#5, 0#2 =>
    match F.rs2 with
    | 0#5 => Decoded.freg F.rd fun fd => Decoded.freg F.rs1 fun fs1 => Decoded.rounding F.f3 <| .ok (.fsqrtS fd fs1 F.f3)
    | _ => .reject .function
  | 11#5, 1#2 =>
    match F.rs2 with
    | 0#5 => Decoded.freg F.rd fun fd => Decoded.freg F.rs1 fun fs1 => Decoded.rounding F.f3 <| .ok (.fsqrtD fd fs1 F.f3)
    | _ => .reject .function
  | 14#5, 0#2 =>
    match F.rs2 with
    | 0#5 => Decoded.freg F.rd fun fd => Decoded.freg F.rs1 fun fs1 => .ok (.frecipS fd fs1 F.f3)
    | 1#5 => Decoded.freg F.rd fun fd => Decoded.freg F.rs1 fun fs1 => .ok (.frsqrtS fd fs1 F.f3)
    | _ => .reject .function
  | 14#5, 1#2 =>
    match F.rs2 with
    | 0#5 => Decoded.freg F.rd fun fd => Decoded.freg F.rs1 fun fs1 => .ok (.frecipD fd fs1 F.f3)
    | 1#5 => Decoded.freg F.rd fun fd => Decoded.freg F.rs1 fun fs1 => .ok (.frsqrtD fd fs1 F.f3)
    | _ => .reject .function
  | 14#5, 2#2 =>
    match F.rs2 with
    | 0#5 => Decoded.freg F.rd fun fd => Decoded.freg F.rs1 fun fs1 => .ok (.frecipH fd fs1 F.f3)
    | 1#5 => Decoded.freg F.rd fun fd => Decoded.freg F.rs1 fun fs1 => .ok (.frsqrtH fd fs1 F.f3)
    | _ => .reject .function
  | 14#5, 3#2 =>
    match F.rs2 with
    | 0#5 => Decoded.freg F.rd fun fd => Decoded.freg F.rs1 fun fs1 => .ok (.frecipBf fd fs1 F.f3)
    | 1#5 => Decoded.freg F.rd fun fd => Decoded.freg F.rs1 fun fs1 => .ok (.frsqrtBf fd fs1 F.f3)
    | _ => .reject .function
  | 20#5, 0#2 =>
    match F.f3 with
    | 0#3 => Decoded.freg F.rs1 fun fs1 => Decoded.freg F.rs2 fun fs2 => .ok (.fleS F.rd fs1 fs2)
    | 1#3 => Decoded.freg F.rs1 fun fs1 => Decoded.freg F.rs2 fun fs2 => .ok (.fltS F.rd fs1 fs2)
    | 2#3 => Decoded.freg F.rs1 fun fs1 => Decoded.freg F.rs2 fun fs2 => .ok (.feqS F.rd fs1 fs2)
    | _ => .reject .function
  | 20#5, 1#2 =>
    match F.f3 with
    | 0#3 => Decoded.freg F.rs1 fun fs1 => Decoded.freg F.rs2 fun fs2 => .ok (.fleD F.rd fs1 fs2)
    | 1#3 => Decoded.freg F.rs1 fun fs1 => Decoded.freg F.rs2 fun fs2 => .ok (.fltD F.rd fs1 fs2)
    | 2#3 => Decoded.freg F.rs1 fun fs1 => Decoded.freg F.rs2 fun fs2 => .ok (.feqD F.rd fs1 fs2)
    | _ => .reject .function
  | 24#5, 0#2 =>
    match F.rs2lo with
    | 0#4 => Decoded.freg F.rs1 fun fs1 => Decoded.rounding F.f3 <| .ok (.fcvtWS F.rd fs1 F.f3 F.sat)
    | 1#4 => Decoded.freg F.rs1 fun fs1 => Decoded.rounding F.f3 <| .ok (.fcvtWuS F.rd fs1 F.f3 F.sat)
    | 2#4 => Decoded.freg F.rs1 fun fs1 => Decoded.rounding F.f3 <| .ok (.fcvtLS F.rd fs1 F.f3 F.sat)
    | 3#4 => Decoded.freg F.rs1 fun fs1 => Decoded.rounding F.f3 <| .ok (.fcvtLuS F.rd fs1 F.f3 F.sat)
    | _ => .reject .function
  | 24#5, 1#2 =>
    match F.rs2lo with
    | 0#4 => Decoded.freg F.rs1 fun fs1 => Decoded.rounding F.f3 <| .ok (.fcvtWD F.rd fs1 F.f3 F.sat)
    | 1#4 => Decoded.freg F.rs1 fun fs1 => Decoded.rounding F.f3 <| .ok (.fcvtWuD F.rd fs1 F.f3 F.sat)
    | 2#4 => Decoded.freg F.rs1 fun fs1 => Decoded.rounding F.f3 <| .ok (.fcvtLD F.rd fs1 F.f3 F.sat)
    | 3#4 => Decoded.freg F.rs1 fun fs1 => Decoded.rounding F.f3 <| .ok (.fcvtLuD F.rd fs1 F.f3 F.sat)
    | _ => .reject .function
  | 26#5, 0#2 =>
    match F.rs2 with
    | 0#5 => Decoded.freg F.rd fun fd => Decoded.rounding F.f3 <| .ok (.fcvtSW fd F.rs1 F.f3)
    | 1#5 => Decoded.freg F.rd fun fd => Decoded.rounding F.f3 <| .ok (.fcvtSWu fd F.rs1 F.f3)
    | 2#5 => Decoded.freg F.rd fun fd => Decoded.rounding F.f3 <| .ok (.fcvtSL fd F.rs1 F.f3)
    | 3#5 => Decoded.freg F.rd fun fd => Decoded.rounding F.f3 <| .ok (.fcvtSLu fd F.rs1 F.f3)
    | _ => .reject .function
  | 26#5, 1#2 =>
    match F.rs2 with
    | 0#5 => Decoded.freg F.rd fun fd => Decoded.rounding F.f3 <| .ok (.fcvtDW fd F.rs1 F.f3)
    | 1#5 => Decoded.freg F.rd fun fd => Decoded.rounding F.f3 <| .ok (.fcvtDWu fd F.rs1 F.f3)
    | 2#5 => Decoded.freg F.rd fun fd => Decoded.rounding F.f3 <| .ok (.fcvtDL fd F.rs1 F.f3)
    | 3#5 => Decoded.freg F.rd fun fd => Decoded.rounding F.f3 <| .ok (.fcvtDLu fd F.rs1 F.f3)
    | _ => .reject .function
  | 28#5, 0#2 =>
    match F.f3, F.rs2 with
    | 0#3, 0#5 => Decoded.freg F.rs1 fun fs1 => .ok (.fmvXW F.rd fs1)
    | 1#3, 0#5 => Decoded.freg F.rs1 fun fs1 => .ok (.fclassS F.rd fs1)
    | _, _ => .reject .function
  | 28#5, 1#2 =>
    match F.f3, F.rs2 with
    | 0#3, 0#5 => Decoded.freg F.rs1 fun fs1 => .ok (.fmvXD F.rd fs1)
    | 1#3, 0#5 => Decoded.freg F.rs1 fun fs1 => .ok (.fclassD F.rd fs1)
    | _, _ => .reject .function
  | 30#5, 0#2 =>
    match F.f3, F.rs2 with
    | 0#3, 0#5 => Decoded.freg F.rd fun fd => .ok (.fmvWX fd F.rs1)
    | _, _ => .reject .function
  | 30#5, 1#2 =>
    match F.f3, F.rs2 with
    | 0#3, 0#5 => Decoded.freg F.rd fun fd => .ok (.fmvDX fd F.rs1)
    | _, _ => .reject .function
  | _, _ => .reject .function

/-- custom-2 words, format V (R72). -/
noncomputable def decodeCustom2 (F : Fields) : Decoded :=
  match F.f3, F.f5 with
  | 0#3, 0#5 => Decoded.freg F.rd fun fd => Decoded.freg F.rs1 fun fs1 => Decoded.freg F.rs2 fun fs2 => .ok (.vfadd fd fs1 fs2 F.lo2)
  | 0#3, 1#5 => Decoded.freg F.rd fun fd => Decoded.freg F.rs1 fun fs1 => Decoded.freg F.rs2 fun fs2 => .ok (.vfsub fd fs1 fs2 F.lo2)
  | 0#3, 2#5 => Decoded.freg F.rd fun fd => Decoded.freg F.rs1 fun fs1 => Decoded.freg F.rs2 fun fs2 => .ok (.vfmul fd fs1 fs2 F.lo2)
  | 0#3, 3#5 => Decoded.freg F.rd fun fd => Decoded.freg F.rs1 fun fs1 => Decoded.freg F.rs2 fun fs2 => .ok (.vfma fd fs1 fs2 F.lo2)
  | 0#3, 4#5 => Decoded.freg F.rd fun fd => Decoded.freg F.rs1 fun fs1 => Decoded.freg F.rs2 fun fs2 => .ok (.vfmin fd fs1 fs2 F.lo2)
  | 0#3, 5#5 => Decoded.freg F.rd fun fd => Decoded.freg F.rs1 fun fs1 => Decoded.freg F.rs2 fun fs2 => .ok (.vfmax fd fs1 fs2 F.lo2)
  | 0#3, 6#5 => Decoded.freg F.rd fun fd => Decoded.freg F.rs1 fun fs1 => Decoded.freg F.rs2 fun fs2 => .ok (.vfdiv fd fs1 fs2 F.lo2)
  | 0#3, 7#5 => Decoded.zero F.rs2 <| Decoded.freg F.rd fun fd => Decoded.freg F.rs1 fun fs1 => .ok (.vfsqrt fd fs1 F.lo2)
  | 0#3, 8#5 => Decoded.zero F.rs2 <| Decoded.freg F.rd fun fd => Decoded.freg F.rs1 fun fs1 => .ok (.vcvt fd fs1 0#3 F.lo2)
  | 0#3, 9#5 => Decoded.zero F.rs2 <| Decoded.freg F.rd fun fd => Decoded.freg F.rs1 fun fs1 => .ok (.vfill fd fs1 F.lo2)
  | 0#3, 10#5 => Decoded.zero F.rs2 <| Decoded.freg F.rd fun fd => Decoded.freg F.rs1 fun fs1 => .ok (.vmov fd fs1 F.lo2)
  | 0#3, 11#5 => Decoded.freg F.rd fun fd => Decoded.freg F.rs1 fun fs1 => Decoded.freg F.rs2 fun fs2 => .ok (.vaxpy fd fs1 fs2 F.lo2)
  | 0#3, 12#5 => Decoded.zero F.rs2 <| Decoded.freg F.rd fun fd => Decoded.freg F.rs1 fun fs1 => .ok (.vscal fd fs1 F.lo2)
  | 0#3, 13#5 => Decoded.freg F.rd fun fd => Decoded.freg F.rs1 fun fs1 => Decoded.freg F.rs2 fun fs2 => .ok (.vdot fd fs1 fs2 F.lo2)
  | 0#3, 14#5 => Decoded.zero F.rs2 <| Decoded.freg F.rd fun fd => Decoded.freg F.rs1 fun fs1 => .ok (.vsum fd fs1 F.lo2)
  | 0#3, 15#5 => Decoded.zero F.rs2 <| Decoded.freg F.rd fun fd => Decoded.freg F.rs1 fun fs1 => .ok (.vmaxr fd fs1 F.lo2)
  | 0#3, 16#5 => Decoded.freg F.rd fun fd => Decoded.freg F.rs1 fun fs1 => Decoded.freg F.rs2 fun fs2 => .ok (.viadd fd fs1 fs2 F.lo2)
  | 0#3, 17#5 => Decoded.freg F.rd fun fd => Decoded.freg F.rs1 fun fs1 => Decoded.freg F.rs2 fun fs2 => .ok (.vgather fd fs1 fs2 F.lo2)
  | 1#3, 0#5 => Decoded.zero F.lo2 <| Decoded.zero F.rs2 <| Decoded.freg F.rd fun fd => .ok (.scfg fd F.rs1)
  | 1#3, 1#5 => Decoded.zero F.lo2 <| Decoded.zero F.rs2 <| Decoded.freg F.rd fun fd => .ok (.sen fd F.rs1)
  | 1#3, 2#5 => Decoded.zero F.lo2 <| Decoded.zero F.rs2 <| Decoded.freg F.rs1 fun fs1 => .ok (.spos F.rd fs1)
  | 2#3, 0#5 => Decoded.zero F.lo2 <| Decoded.zero F.rs2 <| Decoded.zero F.rs1 <| Decoded.zero F.rd <| .ok (.vwait)
  | 2#3, 1#5 => Decoded.zero F.lo2 <| Decoded.zero F.rs2 <| Decoded.zero F.rs1 <| .ok (.vstat F.rd)
  | _, _ => .reject .function

/-- BRANCH words (R67). -/
def decodeBranch (F : Fields) : Decoded :=
  match F.f3 with
  | 0#3 => .ok (.beq F.rs1 F.rs2 F.immB)
  | 1#3 => .ok (.bne F.rs1 F.rs2 F.immB)
  | 4#3 => .ok (.blt F.rs1 F.rs2 F.immB)
  | 5#3 => .ok (.bge F.rs1 F.rs2 F.immB)
  | 6#3 => .ok (.bltu F.rs1 F.rs2 F.immB)
  | 7#3 => .ok (.bgeu F.rs1 F.rs2 F.immB)
  | _ => .reject .function

/-- JALR words (R66). -/
def decodeJalr (F : Fields) : Decoded :=
  match F.f3 with
  | 0#3 => .ok (.jalr F.rd F.rs1 F.immI)
  | _ => .reject .function

/-- SYSTEM words (R68). -/
def decodeSystem (F : Fields) : Decoded :=
  match F.f3 with
  | 0#3 =>
    match F.f7 with
    | 9#7 => Decoded.zero F.rd <| .ok (.sfenceVma F.rs1 F.rs2)
    | _ => Decoded.zero F.rs1 <| Decoded.zero F.rd <|
      match F.immI with
      | 0#12 => .ok .ecall
      | 1#12 => .ok .ebreak
      | 258#12 => .ok .sret
      | 770#12 => .ok .mret
      | 261#12 => .ok .wfi
      | _ => .reject .function
  | 1#3 => .ok (.csrrw F.rd F.immI F.rs1)
  | 2#3 => .ok (.csrrs F.rd F.immI F.rs1)
  | 3#3 => .ok (.csrrc F.rd F.immI F.rs1)
  | 5#3 => .ok (.csrrwi F.rd F.immI F.rs1)
  | 6#3 => .ok (.csrrsi F.rd F.immI F.rs1)
  | 7#3 => .ok (.csrrci F.rd F.immI F.rs1)
  | _ => .reject .function

/-- custom-3 words, formats R and K (R73). -/
noncomputable def decodeCustom3 (F : Fields) : Decoded :=
  match F.f3, F.f7 with
  | 0#3, 0#7 => Decoded.zero F.rs2 <| .ok (.mxop F.rd F.rs1)
  | 0#3, 1#7 => Decoded.zero F.rs2 <| .ok (.mxg F.rd F.rs1)
  | 0#3, 2#7 => Decoded.zero F.rs2 <| .ok (.mxstat F.rd F.rs1)
  | 0#3, 3#7 => Decoded.zero F.rs2 <| Decoded.zero F.rd <| .ok (.mxcancel F.rs1)
  | 1#3, 0#7 => Decoded.zero F.rs2 <| Decoded.zero F.rs1 <| .ok (.cpyq F.rd)
  | 1#3, 1#7 => Decoded.zero F.rs2 <| Decoded.zero F.rs1 <| .ok (.cpyqNb F.rd)
  | 1#3, 2#7 => Decoded.zero F.rs2 <| .ok (.cwptr F.rd F.rs1)
  | 1#3, 3#7 => Decoded.zero F.rs2 <| Decoded.zero F.rd <| .ok (.cwait F.rs1)
  | 2#3, 0#7 => .ok (.lpost F.rd F.rs1 F.rs2)
  | 2#3, 1#7 => .ok (.larm F.rd F.rs1 F.rs2)
  | 2#3, 2#7 => Decoded.zero F.rs2 <| .ok (.lcnt F.rd F.rs1)
  | 2#3, 3#7 => Decoded.zero F.rs2 <| .ok (.kappend F.rd F.rs1)
  | 2#3, 4#7 => Decoded.zero F.rd <| .ok (.qwake F.rs1 F.rs2)
  | 7#3, 0#7 => Decoded.zero F.rs2 <| .ok (.hld F.rd F.rs1)
  | 7#3, 1#7 => Decoded.zero F.rd <| .ok (.hst F.rs1 F.rs2)
  | 7#3, 2#7 => .ok (.hnarrow F.rd F.rs1 F.rs2)
  | 7#3, 3#7 => .ok (.hdrop F.rd F.rs1 F.rs2)
  | 7#3, 4#7 => .ok (.hseek F.rd F.rs1 F.rs2)
  | 7#3, 5#7 => .ok (.hlock F.rd F.rs1 F.rs2)
  | 7#3, 6#7 => .ok (.hopen F.rd F.rs1 F.rs2)
  | 7#3, 7#7 => .ok (.hinfo F.rd F.rs1 F.rs2)
  | 7#3, 8#7 => .ok (.hmint F.rd F.rs1 F.rs2)
  | _, _ => .reject .function

/-- The major opcode map (R66); every opcode that is not listed is an illegal instruction. -/
noncomputable def decodeFields (F : Fields) : Decoded :=
  match F.op with
  | 3#7 => decodeLoad F
  | 7#7 => decodeLoadFp F
  | 11#7 => decodeCustom0 F
  | 15#7 => decodeMiscMem F
  | 19#7 => decodeOpImm F
  | 23#7 => .ok (.auipc F.rd F.immU)
  | 27#7 => decodeOpImm32 F
  | 35#7 => decodeStore F
  | 39#7 => decodeStoreFp F
  | 43#7 => decodeCustom1 F
  | 51#7 => decodeOp F
  | 55#7 => .ok (.lui F.rd F.immU)
  | 59#7 => decodeOp32 F
  | 67#7 => decodeFmadd F
  | 71#7 => decodeFmsub F
  | 75#7 => decodeFnmsub F
  | 79#7 => decodeFnmadd F
  | 83#7 => decodeOpFp F
  | 91#7 => decodeCustom2 F
  | 99#7 => decodeBranch F
  | 103#7 => decodeJalr F
  | 111#7 => .ok (.jal F.rd F.immJ)
  | 115#7 => decodeSystem F
  | 123#7 => decodeCustom3 F
  | _ => .reject .majorOpcode

/-- The fields of an encoded instruction's word, from the encoding tables R65 to R73; an event has no
word. -/
def fieldsOf : Instr → Option Fields
  | .lb rd rs1 imm => some ⟨(imm.extractLsb' 5 7), (imm.extractLsb' 0 5), rs1, 0#3, rd, 3#7⟩
  | .lh rd rs1 imm => some ⟨(imm.extractLsb' 5 7), (imm.extractLsb' 0 5), rs1, 1#3, rd, 3#7⟩
  | .lw rd rs1 imm => some ⟨(imm.extractLsb' 5 7), (imm.extractLsb' 0 5), rs1, 2#3, rd, 3#7⟩
  | .ld rd rs1 imm => some ⟨(imm.extractLsb' 5 7), (imm.extractLsb' 0 5), rs1, 3#3, rd, 3#7⟩
  | .lbu rd rs1 imm => some ⟨(imm.extractLsb' 5 7), (imm.extractLsb' 0 5), rs1, 4#3, rd, 3#7⟩
  | .lhu rd rs1 imm => some ⟨(imm.extractLsb' 5 7), (imm.extractLsb' 0 5), rs1, 5#3, rd, 3#7⟩
  | .lwu rd rs1 imm => some ⟨(imm.extractLsb' 5 7), (imm.extractLsb' 0 5), rs1, 6#3, rd, 3#7⟩
  | .sb rs1 rs2 imm => some ⟨(imm.extractLsb' 5 7), rs2, rs1, 0#3, (imm.extractLsb' 0 5), 35#7⟩
  | .sh rs1 rs2 imm => some ⟨(imm.extractLsb' 5 7), rs2, rs1, 1#3, (imm.extractLsb' 0 5), 35#7⟩
  | .sw rs1 rs2 imm => some ⟨(imm.extractLsb' 5 7), rs2, rs1, 2#3, (imm.extractLsb' 0 5), 35#7⟩
  | .sd rs1 rs2 imm => some ⟨(imm.extractLsb' 5 7), rs2, rs1, 3#3, (imm.extractLsb' 0 5), 35#7⟩
  | .addi rd rs1 imm => some ⟨(imm.extractLsb' 5 7), (imm.extractLsb' 0 5), rs1, 0#3, rd, 19#7⟩
  | .slti rd rs1 imm => some ⟨(imm.extractLsb' 5 7), (imm.extractLsb' 0 5), rs1, 2#3, rd, 19#7⟩
  | .sltiu rd rs1 imm => some ⟨(imm.extractLsb' 5 7), (imm.extractLsb' 0 5), rs1, 3#3, rd, 19#7⟩
  | .xori rd rs1 imm => some ⟨(imm.extractLsb' 5 7), (imm.extractLsb' 0 5), rs1, 4#3, rd, 19#7⟩
  | .ori rd rs1 imm => some ⟨(imm.extractLsb' 5 7), (imm.extractLsb' 0 5), rs1, 6#3, rd, 19#7⟩
  | .andi rd rs1 imm => some ⟨(imm.extractLsb' 5 7), (imm.extractLsb' 0 5), rs1, 7#3, rd, 19#7⟩
  | .slli rd rs1 shamt => some ⟨(0#6 ++ shamt.extractLsb' 5 1), (shamt.extractLsb' 0 5), rs1, 1#3, rd, 19#7⟩
  | .srli rd rs1 shamt => some ⟨(0#6 ++ shamt.extractLsb' 5 1), (shamt.extractLsb' 0 5), rs1, 5#3, rd, 19#7⟩
  | .srai rd rs1 shamt => some ⟨(16#6 ++ shamt.extractLsb' 5 1), (shamt.extractLsb' 0 5), rs1, 5#3, rd, 19#7⟩
  | .clz rd rs1 => some ⟨48#7, 0#5, rs1, 1#3, rd, 19#7⟩
  | .ctz rd rs1 => some ⟨48#7, 1#5, rs1, 1#3, rd, 19#7⟩
  | .cpop rd rs1 => some ⟨48#7, 2#5, rs1, 1#3, rd, 19#7⟩
  | .rev8 rd rs1 => some ⟨53#7, 24#5, rs1, 5#3, rd, 19#7⟩
  | .addiw rd rs1 imm => some ⟨(imm.extractLsb' 5 7), (imm.extractLsb' 0 5), rs1, 0#3, rd, 27#7⟩
  | .slliw rd rs1 shamt => some ⟨0#7, shamt, rs1, 1#3, rd, 27#7⟩
  | .srliw rd rs1 shamt => some ⟨0#7, shamt, rs1, 5#3, rd, 27#7⟩
  | .sraiw rd rs1 shamt => some ⟨32#7, shamt, rs1, 5#3, rd, 27#7⟩
  | .add rd rs1 rs2 => some ⟨0#7, rs2, rs1, 0#3, rd, 51#7⟩
  | .sll rd rs1 rs2 => some ⟨0#7, rs2, rs1, 1#3, rd, 51#7⟩
  | .slt rd rs1 rs2 => some ⟨0#7, rs2, rs1, 2#3, rd, 51#7⟩
  | .sltu rd rs1 rs2 => some ⟨0#7, rs2, rs1, 3#3, rd, 51#7⟩
  | .xor rd rs1 rs2 => some ⟨0#7, rs2, rs1, 4#3, rd, 51#7⟩
  | .srl rd rs1 rs2 => some ⟨0#7, rs2, rs1, 5#3, rd, 51#7⟩
  | .or rd rs1 rs2 => some ⟨0#7, rs2, rs1, 6#3, rd, 51#7⟩
  | .and rd rs1 rs2 => some ⟨0#7, rs2, rs1, 7#3, rd, 51#7⟩
  | .sub rd rs1 rs2 => some ⟨32#7, rs2, rs1, 0#3, rd, 51#7⟩
  | .sra rd rs1 rs2 => some ⟨32#7, rs2, rs1, 5#3, rd, 51#7⟩
  | .mul rd rs1 rs2 => some ⟨1#7, rs2, rs1, 0#3, rd, 51#7⟩
  | .mulh rd rs1 rs2 => some ⟨1#7, rs2, rs1, 1#3, rd, 51#7⟩
  | .mulhsu rd rs1 rs2 => some ⟨1#7, rs2, rs1, 2#3, rd, 51#7⟩
  | .mulhu rd rs1 rs2 => some ⟨1#7, rs2, rs1, 3#3, rd, 51#7⟩
  | .div rd rs1 rs2 => some ⟨1#7, rs2, rs1, 4#3, rd, 51#7⟩
  | .divu rd rs1 rs2 => some ⟨1#7, rs2, rs1, 5#3, rd, 51#7⟩
  | .rem rd rs1 rs2 => some ⟨1#7, rs2, rs1, 6#3, rd, 51#7⟩
  | .remu rd rs1 rs2 => some ⟨1#7, rs2, rs1, 7#3, rd, 51#7⟩
  | .sh1add rd rs1 rs2 => some ⟨16#7, rs2, rs1, 2#3, rd, 51#7⟩
  | .sh2add rd rs1 rs2 => some ⟨16#7, rs2, rs1, 4#3, rd, 51#7⟩
  | .sh3add rd rs1 rs2 => some ⟨16#7, rs2, rs1, 6#3, rd, 51#7⟩
  | .min rd rs1 rs2 => some ⟨5#7, rs2, rs1, 4#3, rd, 51#7⟩
  | .minu rd rs1 rs2 => some ⟨5#7, rs2, rs1, 5#3, rd, 51#7⟩
  | .max rd rs1 rs2 => some ⟨5#7, rs2, rs1, 6#3, rd, 51#7⟩
  | .maxu rd rs1 rs2 => some ⟨5#7, rs2, rs1, 7#3, rd, 51#7⟩
  | .addw rd rs1 rs2 => some ⟨0#7, rs2, rs1, 0#3, rd, 59#7⟩
  | .sllw rd rs1 rs2 => some ⟨0#7, rs2, rs1, 1#3, rd, 59#7⟩
  | .srlw rd rs1 rs2 => some ⟨0#7, rs2, rs1, 5#3, rd, 59#7⟩
  | .subw rd rs1 rs2 => some ⟨32#7, rs2, rs1, 0#3, rd, 59#7⟩
  | .sraw rd rs1 rs2 => some ⟨32#7, rs2, rs1, 5#3, rd, 59#7⟩
  | .mulw rd rs1 rs2 => some ⟨1#7, rs2, rs1, 0#3, rd, 59#7⟩
  | .divw rd rs1 rs2 => some ⟨1#7, rs2, rs1, 4#3, rd, 59#7⟩
  | .divuw rd rs1 rs2 => some ⟨1#7, rs2, rs1, 5#3, rd, 59#7⟩
  | .remw rd rs1 rs2 => some ⟨1#7, rs2, rs1, 6#3, rd, 59#7⟩
  | .remuw rd rs1 rs2 => some ⟨1#7, rs2, rs1, 7#3, rd, 59#7⟩
  | .beq rs1 rs2 off => some ⟨(off.extractLsb' 11 1 ++ off.extractLsb' 4 6), rs2, rs1, 0#3, (off.extractLsb' 0 4 ++ off.extractLsb' 10 1), 99#7⟩
  | .bne rs1 rs2 off => some ⟨(off.extractLsb' 11 1 ++ off.extractLsb' 4 6), rs2, rs1, 1#3, (off.extractLsb' 0 4 ++ off.extractLsb' 10 1), 99#7⟩
  | .blt rs1 rs2 off => some ⟨(off.extractLsb' 11 1 ++ off.extractLsb' 4 6), rs2, rs1, 4#3, (off.extractLsb' 0 4 ++ off.extractLsb' 10 1), 99#7⟩
  | .bge rs1 rs2 off => some ⟨(off.extractLsb' 11 1 ++ off.extractLsb' 4 6), rs2, rs1, 5#3, (off.extractLsb' 0 4 ++ off.extractLsb' 10 1), 99#7⟩
  | .bltu rs1 rs2 off => some ⟨(off.extractLsb' 11 1 ++ off.extractLsb' 4 6), rs2, rs1, 6#3, (off.extractLsb' 0 4 ++ off.extractLsb' 10 1), 99#7⟩
  | .bgeu rs1 rs2 off => some ⟨(off.extractLsb' 11 1 ++ off.extractLsb' 4 6), rs2, rs1, 7#3, (off.extractLsb' 0 4 ++ off.extractLsb' 10 1), 99#7⟩
  | .jal rd off => some ⟨(off.extractLsb' 19 1 ++ off.extractLsb' 4 6), (off.extractLsb' 0 4 ++ off.extractLsb' 10 1), (off.extractLsb' 14 5), (off.extractLsb' 11 3), rd, 111#7⟩
  | .jalr rd rs1 imm => some ⟨(imm.extractLsb' 5 7), (imm.extractLsb' 0 5), rs1, 0#3, rd, 103#7⟩
  | .lui rd imm => some ⟨(imm.extractLsb' 13 7), (imm.extractLsb' 8 5), (imm.extractLsb' 3 5), (imm.extractLsb' 0 3), rd, 55#7⟩
  | .auipc rd imm => some ⟨(imm.extractLsb' 13 7), (imm.extractLsb' 8 5), (imm.extractLsb' 3 5), (imm.extractLsb' 0 3), rd, 23#7⟩
  | .fence fm pred succ rs1 rd => some ⟨(fm ++ pred.extractLsb' 1 3), (pred.extractLsb' 0 1 ++ succ), rs1, 0#3, rd, 15#7⟩
  | .fenceI => some ⟨0#7, 0#5, 0#5, 1#3, 0#5, 15#7⟩
  | .ecall => some ⟨0#7, 0#5, 0#5, 0#3, 0#5, 115#7⟩
  | .ebreak => some ⟨0#7, 1#5, 0#5, 0#3, 0#5, 115#7⟩
  | .sret => some ⟨8#7, 2#5, 0#5, 0#3, 0#5, 115#7⟩
  | .mret => some ⟨24#7, 2#5, 0#5, 0#3, 0#5, 115#7⟩
  | .wfi => some ⟨8#7, 5#5, 0#5, 0#3, 0#5, 115#7⟩
  | .sfenceVma rs1 rs2 => some ⟨9#7, rs2, rs1, 0#3, 0#5, 115#7⟩
  | .csrrw rd csr rs1 => some ⟨(csr.extractLsb' 5 7), (csr.extractLsb' 0 5), rs1, 1#3, rd, 115#7⟩
  | .csrrs rd csr rs1 => some ⟨(csr.extractLsb' 5 7), (csr.extractLsb' 0 5), rs1, 2#3, rd, 115#7⟩
  | .csrrc rd csr rs1 => some ⟨(csr.extractLsb' 5 7), (csr.extractLsb' 0 5), rs1, 3#3, rd, 115#7⟩
  | .csrrwi rd csr uimm => some ⟨(csr.extractLsb' 5 7), (csr.extractLsb' 0 5), uimm, 5#3, rd, 115#7⟩
  | .csrrsi rd csr uimm => some ⟨(csr.extractLsb' 5 7), (csr.extractLsb' 0 5), uimm, 6#3, rd, 115#7⟩
  | .csrrci rd csr uimm => some ⟨(csr.extractLsb' 5 7), (csr.extractLsb' 0 5), uimm, 7#3, rd, 115#7⟩
  | .flw fd rs1 imm => some ⟨(imm.extractLsb' 5 7), (imm.extractLsb' 0 5), rs1, 2#3, (0#2 ++ fd), 7#7⟩
  | .fld fd rs1 imm => some ⟨(imm.extractLsb' 5 7), (imm.extractLsb' 0 5), rs1, 3#3, (0#2 ++ fd), 7#7⟩
  | .fsw rs1 fs2 imm => some ⟨(imm.extractLsb' 5 7), (0#2 ++ fs2), rs1, 2#3, (imm.extractLsb' 0 5), 39#7⟩
  | .fsd rs1 fs2 imm => some ⟨(imm.extractLsb' 5 7), (0#2 ++ fs2), rs1, 3#3, (imm.extractLsb' 0 5), 39#7⟩
  | .fmaddS fd fs1 fs2 fs3 rm => some ⟨((0#2 ++ fs3) ++ 0#2), (0#2 ++ fs2), (0#2 ++ fs1), rm, (0#2 ++ fd), 67#7⟩
  | .fmaddD fd fs1 fs2 fs3 rm => some ⟨((0#2 ++ fs3) ++ 1#2), (0#2 ++ fs2), (0#2 ++ fs1), rm, (0#2 ++ fd), 67#7⟩
  | .fmsubS fd fs1 fs2 fs3 rm => some ⟨((0#2 ++ fs3) ++ 0#2), (0#2 ++ fs2), (0#2 ++ fs1), rm, (0#2 ++ fd), 71#7⟩
  | .fmsubD fd fs1 fs2 fs3 rm => some ⟨((0#2 ++ fs3) ++ 1#2), (0#2 ++ fs2), (0#2 ++ fs1), rm, (0#2 ++ fd), 71#7⟩
  | .fnmsubS fd fs1 fs2 fs3 rm => some ⟨((0#2 ++ fs3) ++ 0#2), (0#2 ++ fs2), (0#2 ++ fs1), rm, (0#2 ++ fd), 75#7⟩
  | .fnmsubD fd fs1 fs2 fs3 rm => some ⟨((0#2 ++ fs3) ++ 1#2), (0#2 ++ fs2), (0#2 ++ fs1), rm, (0#2 ++ fd), 75#7⟩
  | .fnmaddS fd fs1 fs2 fs3 rm => some ⟨((0#2 ++ fs3) ++ 0#2), (0#2 ++ fs2), (0#2 ++ fs1), rm, (0#2 ++ fd), 79#7⟩
  | .fnmaddD fd fs1 fs2 fs3 rm => some ⟨((0#2 ++ fs3) ++ 1#2), (0#2 ++ fs2), (0#2 ++ fs1), rm, (0#2 ++ fd), 79#7⟩
  | .faddS fd fs1 fs2 rm => some ⟨0#7, (0#2 ++ fs2), (0#2 ++ fs1), rm, (0#2 ++ fd), 83#7⟩
  | .faddD fd fs1 fs2 rm => some ⟨1#7, (0#2 ++ fs2), (0#2 ++ fs1), rm, (0#2 ++ fd), 83#7⟩
  | .fsubS fd fs1 fs2 rm => some ⟨4#7, (0#2 ++ fs2), (0#2 ++ fs1), rm, (0#2 ++ fd), 83#7⟩
  | .fsubD fd fs1 fs2 rm => some ⟨5#7, (0#2 ++ fs2), (0#2 ++ fs1), rm, (0#2 ++ fd), 83#7⟩
  | .fmulS fd fs1 fs2 rm => some ⟨8#7, (0#2 ++ fs2), (0#2 ++ fs1), rm, (0#2 ++ fd), 83#7⟩
  | .fmulD fd fs1 fs2 rm => some ⟨9#7, (0#2 ++ fs2), (0#2 ++ fs1), rm, (0#2 ++ fd), 83#7⟩
  | .fdivS fd fs1 fs2 rm => some ⟨12#7, (0#2 ++ fs2), (0#2 ++ fs1), rm, (0#2 ++ fd), 83#7⟩
  | .fdivD fd fs1 fs2 rm => some ⟨13#7, (0#2 ++ fs2), (0#2 ++ fs1), rm, (0#2 ++ fd), 83#7⟩
  | .fsqrtS fd fs1 rm => some ⟨44#7, 0#5, (0#2 ++ fs1), rm, (0#2 ++ fd), 83#7⟩
  | .fsqrtD fd fs1 rm => some ⟨45#7, 0#5, (0#2 ++ fs1), rm, (0#2 ++ fd), 83#7⟩
  | .fsgnjS fd fs1 fs2 => some ⟨16#7, (0#2 ++ fs2), (0#2 ++ fs1), 0#3, (0#2 ++ fd), 83#7⟩
  | .fsgnjD fd fs1 fs2 => some ⟨17#7, (0#2 ++ fs2), (0#2 ++ fs1), 0#3, (0#2 ++ fd), 83#7⟩
  | .fsgnjnS fd fs1 fs2 => some ⟨16#7, (0#2 ++ fs2), (0#2 ++ fs1), 1#3, (0#2 ++ fd), 83#7⟩
  | .fsgnjnD fd fs1 fs2 => some ⟨17#7, (0#2 ++ fs2), (0#2 ++ fs1), 1#3, (0#2 ++ fd), 83#7⟩
  | .fsgnjxS fd fs1 fs2 => some ⟨16#7, (0#2 ++ fs2), (0#2 ++ fs1), 2#3, (0#2 ++ fd), 83#7⟩
  | .fsgnjxD fd fs1 fs2 => some ⟨17#7, (0#2 ++ fs2), (0#2 ++ fs1), 2#3, (0#2 ++ fd), 83#7⟩
  | .fminS fd fs1 fs2 => some ⟨20#7, (0#2 ++ fs2), (0#2 ++ fs1), 0#3, (0#2 ++ fd), 83#7⟩
  | .fminD fd fs1 fs2 => some ⟨21#7, (0#2 ++ fs2), (0#2 ++ fs1), 0#3, (0#2 ++ fd), 83#7⟩
  | .fmaxS fd fs1 fs2 => some ⟨20#7, (0#2 ++ fs2), (0#2 ++ fs1), 1#3, (0#2 ++ fd), 83#7⟩
  | .fmaxD fd fs1 fs2 => some ⟨21#7, (0#2 ++ fs2), (0#2 ++ fs1), 1#3, (0#2 ++ fd), 83#7⟩
  | .fleS rd fs1 fs2 => some ⟨80#7, (0#2 ++ fs2), (0#2 ++ fs1), 0#3, rd, 83#7⟩
  | .fleD rd fs1 fs2 => some ⟨81#7, (0#2 ++ fs2), (0#2 ++ fs1), 0#3, rd, 83#7⟩
  | .fltS rd fs1 fs2 => some ⟨80#7, (0#2 ++ fs2), (0#2 ++ fs1), 1#3, rd, 83#7⟩
  | .fltD rd fs1 fs2 => some ⟨81#7, (0#2 ++ fs2), (0#2 ++ fs1), 1#3, rd, 83#7⟩
  | .feqS rd fs1 fs2 => some ⟨80#7, (0#2 ++ fs2), (0#2 ++ fs1), 2#3, rd, 83#7⟩
  | .feqD rd fs1 fs2 => some ⟨81#7, (0#2 ++ fs2), (0#2 ++ fs1), 2#3, rd, 83#7⟩
  | .fcvtSD fd fs1 rm => some ⟨32#7, 1#5, (0#2 ++ fs1), rm, (0#2 ++ fd), 83#7⟩
  | .fcvtDS fd fs1 rm => some ⟨33#7, 0#5, (0#2 ++ fs1), rm, (0#2 ++ fd), 83#7⟩
  | .fcvtSH fd fs1 rm => some ⟨32#7, 4#5, (0#2 ++ fs1), rm, (0#2 ++ fd), 83#7⟩
  | .fcvtSBf fd fs1 rm => some ⟨32#7, 5#5, (0#2 ++ fs1), rm, (0#2 ++ fd), 83#7⟩
  | .fcvtSE4 fd fs1 rm => some ⟨32#7, 6#5, (0#2 ++ fs1), rm, (0#2 ++ fd), 83#7⟩
  | .fcvtSE5 fd fs1 rm => some ⟨32#7, 7#5, (0#2 ++ fs1), rm, (0#2 ++ fd), 83#7⟩
  | .fcvtDH fd fs1 rm => some ⟨33#7, 4#5, (0#2 ++ fs1), rm, (0#2 ++ fd), 83#7⟩
  | .fcvtDBf fd fs1 rm => some ⟨33#7, 5#5, (0#2 ++ fs1), rm, (0#2 ++ fd), 83#7⟩
  | .fcvtDE4 fd fs1 rm => some ⟨33#7, 6#5, (0#2 ++ fs1), rm, (0#2 ++ fd), 83#7⟩
  | .fcvtDE5 fd fs1 rm => some ⟨33#7, 7#5, (0#2 ++ fs1), rm, (0#2 ++ fd), 83#7⟩
  | .fcvtHS fd fs1 rm sat => some ⟨34#7, (BitVec.ofBool sat ++ 0#4), (0#2 ++ fs1), rm, (0#2 ++ fd), 83#7⟩
  | .fcvtHD fd fs1 rm sat => some ⟨34#7, (BitVec.ofBool sat ++ 1#4), (0#2 ++ fs1), rm, (0#2 ++ fd), 83#7⟩
  | .fcvtBfS fd fs1 rm sat => some ⟨34#7, (BitVec.ofBool sat ++ 4#4), (0#2 ++ fs1), rm, (0#2 ++ fd), 83#7⟩
  | .fcvtBfD fd fs1 rm sat => some ⟨34#7, (BitVec.ofBool sat ++ 5#4), (0#2 ++ fs1), rm, (0#2 ++ fd), 83#7⟩
  | .fcvtE4S fd fs1 rm sat => some ⟨34#7, (BitVec.ofBool sat ++ 8#4), (0#2 ++ fs1), rm, (0#2 ++ fd), 83#7⟩
  | .fcvtE4D fd fs1 rm sat => some ⟨34#7, (BitVec.ofBool sat ++ 9#4), (0#2 ++ fs1), rm, (0#2 ++ fd), 83#7⟩
  | .fcvtE5S fd fs1 rm sat => some ⟨34#7, (BitVec.ofBool sat ++ 12#4), (0#2 ++ fs1), rm, (0#2 ++ fd), 83#7⟩
  | .fcvtE5D fd fs1 rm sat => some ⟨34#7, (BitVec.ofBool sat ++ 13#4), (0#2 ++ fs1), rm, (0#2 ++ fd), 83#7⟩
  | .fcvtWS rd fs1 rm sat => some ⟨96#7, (BitVec.ofBool sat ++ 0#4), (0#2 ++ fs1), rm, rd, 83#7⟩
  | .fcvtWuS rd fs1 rm sat => some ⟨96#7, (BitVec.ofBool sat ++ 1#4), (0#2 ++ fs1), rm, rd, 83#7⟩
  | .fcvtLS rd fs1 rm sat => some ⟨96#7, (BitVec.ofBool sat ++ 2#4), (0#2 ++ fs1), rm, rd, 83#7⟩
  | .fcvtLuS rd fs1 rm sat => some ⟨96#7, (BitVec.ofBool sat ++ 3#4), (0#2 ++ fs1), rm, rd, 83#7⟩
  | .fcvtWD rd fs1 rm sat => some ⟨97#7, (BitVec.ofBool sat ++ 0#4), (0#2 ++ fs1), rm, rd, 83#7⟩
  | .fcvtWuD rd fs1 rm sat => some ⟨97#7, (BitVec.ofBool sat ++ 1#4), (0#2 ++ fs1), rm, rd, 83#7⟩
  | .fcvtLD rd fs1 rm sat => some ⟨97#7, (BitVec.ofBool sat ++ 2#4), (0#2 ++ fs1), rm, rd, 83#7⟩
  | .fcvtLuD rd fs1 rm sat => some ⟨97#7, (BitVec.ofBool sat ++ 3#4), (0#2 ++ fs1), rm, rd, 83#7⟩
  | .fcvtSW fd rs1 rm => some ⟨104#7, 0#5, rs1, rm, (0#2 ++ fd), 83#7⟩
  | .fcvtSWu fd rs1 rm => some ⟨104#7, 1#5, rs1, rm, (0#2 ++ fd), 83#7⟩
  | .fcvtSL fd rs1 rm => some ⟨104#7, 2#5, rs1, rm, (0#2 ++ fd), 83#7⟩
  | .fcvtSLu fd rs1 rm => some ⟨104#7, 3#5, rs1, rm, (0#2 ++ fd), 83#7⟩
  | .fcvtDW fd rs1 rm => some ⟨105#7, 0#5, rs1, rm, (0#2 ++ fd), 83#7⟩
  | .fcvtDWu fd rs1 rm => some ⟨105#7, 1#5, rs1, rm, (0#2 ++ fd), 83#7⟩
  | .fcvtDL fd rs1 rm => some ⟨105#7, 2#5, rs1, rm, (0#2 ++ fd), 83#7⟩
  | .fcvtDLu fd rs1 rm => some ⟨105#7, 3#5, rs1, rm, (0#2 ++ fd), 83#7⟩
  | .fmvXW rd fs1 => some ⟨112#7, 0#5, (0#2 ++ fs1), 0#3, rd, 83#7⟩
  | .fmvXD rd fs1 => some ⟨113#7, 0#5, (0#2 ++ fs1), 0#3, rd, 83#7⟩
  | .fclassS rd fs1 => some ⟨112#7, 0#5, (0#2 ++ fs1), 1#3, rd, 83#7⟩
  | .fclassD rd fs1 => some ⟨113#7, 0#5, (0#2 ++ fs1), 1#3, rd, 83#7⟩
  | .fmvWX fd rs1 => some ⟨120#7, 0#5, rs1, 0#3, (0#2 ++ fd), 83#7⟩
  | .fmvDX fd rs1 => some ⟨121#7, 0#5, rs1, 0#3, (0#2 ++ fd), 83#7⟩
  | .frecipS fd fs1 rm => some ⟨56#7, 0#5, (0#2 ++ fs1), rm, (0#2 ++ fd), 83#7⟩
  | .frecipD fd fs1 rm => some ⟨57#7, 0#5, (0#2 ++ fs1), rm, (0#2 ++ fd), 83#7⟩
  | .frecipH fd fs1 rm => some ⟨58#7, 0#5, (0#2 ++ fs1), rm, (0#2 ++ fd), 83#7⟩
  | .frecipBf fd fs1 rm => some ⟨59#7, 0#5, (0#2 ++ fs1), rm, (0#2 ++ fd), 83#7⟩
  | .frsqrtS fd fs1 rm => some ⟨56#7, 1#5, (0#2 ++ fs1), rm, (0#2 ++ fd), 83#7⟩
  | .frsqrtD fd fs1 rm => some ⟨57#7, 1#5, (0#2 ++ fs1), rm, (0#2 ++ fd), 83#7⟩
  | .frsqrtH fd fs1 rm => some ⟨58#7, 1#5, (0#2 ++ fs1), rm, (0#2 ++ fd), 83#7⟩
  | .frsqrtBf fd fs1 rm => some ⟨59#7, 1#5, (0#2 ++ fs1), rm, (0#2 ++ fd), 83#7⟩
  | .lbW rd rs1 rs2 wt => some ⟨(0#5 ++ wt), rs2, rs1, 0#3, rd, 11#7⟩
  | .lhW rd rs1 rs2 wt => some ⟨(0#5 ++ wt), rs2, rs1, 1#3, rd, 11#7⟩
  | .lwW rd rs1 rs2 wt => some ⟨(0#5 ++ wt), rs2, rs1, 2#3, rd, 11#7⟩
  | .ldW rd rs1 rs2 wt => some ⟨(0#5 ++ wt), rs2, rs1, 3#3, rd, 11#7⟩
  | .lbuW rd rs1 rs2 wt => some ⟨(0#5 ++ wt), rs2, rs1, 4#3, rd, 11#7⟩
  | .lhuW rd rs1 rs2 wt => some ⟨(0#5 ++ wt), rs2, rs1, 5#3, rd, 11#7⟩
  | .lwuW rd rs1 rs2 wt => some ⟨(0#5 ++ wt), rs2, rs1, 6#3, rd, 11#7⟩
  | .sbW rd rs1 rs2 wt => some ⟨(1#5 ++ wt), rs2, rs1, 0#3, rd, 11#7⟩
  | .shW rd rs1 rs2 wt => some ⟨(1#5 ++ wt), rs2, rs1, 1#3, rd, 11#7⟩
  | .swW rd rs1 rs2 wt => some ⟨(1#5 ++ wt), rs2, rs1, 2#3, rd, 11#7⟩
  | .sdW rd rs1 rs2 wt => some ⟨(1#5 ++ wt), rs2, rs1, 3#3, rd, 11#7⟩
  | .ldrem rd rs1 wt => some ⟨(2#5 ++ wt), 0#5, rs1, 0#3, rd, 11#7⟩
  | .migrate rs1 => some ⟨8#7, 0#5, rs1, 1#3, 0#5, 11#7⟩
  | .home rd rs1 => some ⟨8#7, 0#5, rs1, 2#3, rd, 11#7⟩
  | .padd rd rs1 rs2 => some ⟨8#7, rs2, rs1, 3#3, rd, 11#7⟩
  | .wjoin rd rs1 rs2 => some ⟨12#7, rs2, rs1, 0#3, rd, 11#7⟩
  | .wwait rs1 => some ⟨12#7, 0#5, rs1, 1#3, 0#5, 11#7⟩
  | .wtest rd rs1 => some ⟨12#7, 0#5, rs1, 2#3, rd, 11#7⟩
  | .wself rd => some ⟨12#7, 0#5, 0#5, 3#3, rd, 11#7⟩
  | .wcoarsen rd rs1 => some ⟨12#7, 0#5, rs1, 4#3, rd, 11#7⟩
  | .pfence wt => some ⟨(3#5 ++ wt), 0#5, 0#5, 5#3, 0#5, 11#7⟩
  | .aaddP rd rs1 rs2 wt => some ⟨(4#5 ++ wt), rs2, rs1, 0#3, rd, 11#7⟩
  | .aandP rd rs1 rs2 wt => some ⟨(4#5 ++ wt), rs2, rs1, 1#3, rd, 11#7⟩
  | .aorP rd rs1 rs2 wt => some ⟨(4#5 ++ wt), rs2, rs1, 2#3, rd, 11#7⟩
  | .axorP rd rs1 rs2 wt => some ⟨(4#5 ++ wt), rs2, rs1, 3#3, rd, 11#7⟩
  | .aminP rd rs1 rs2 wt => some ⟨(4#5 ++ wt), rs2, rs1, 4#3, rd, 11#7⟩
  | .amaxP rd rs1 rs2 wt => some ⟨(4#5 ++ wt), rs2, rs1, 5#3, rd, 11#7⟩
  | .aminuP rd rs1 rs2 wt => some ⟨(4#5 ++ wt), rs2, rs1, 6#3, rd, 11#7⟩
  | .amaxuP rd rs1 rs2 wt => some ⟨(4#5 ++ wt), rs2, rs1, 7#3, rd, 11#7⟩
  | .afaddP rd rs1 rs2 wt => some ⟨(5#5 ++ wt), rs2, rs1, 0#3, rd, 11#7⟩
  | .aadd rd rs1 rs2 wt => some ⟨(6#5 ++ wt), rs2, rs1, 0#3, rd, 11#7⟩
  | .aswap rd rs1 rs2 wt => some ⟨(6#5 ++ wt), rs2, rs1, 1#3, rd, 11#7⟩
  | .acas rd rs1 rs2 wt => some ⟨(6#5 ++ wt), rs2, rs1, 2#3, rd, 11#7⟩
  | .tdec rd rs1 wt => some ⟨(7#5 ++ wt), 0#5, rs1, 0#3, rd, 11#7⟩
  | .spawn rs1 rs2 => some ⟨0#7, rs2, rs1, 0#3, 0#5, 43#7⟩
  | .join rs1 => some ⟨1#7, 0#5, rs1, 0#3, 0#5, 43#7⟩
  | .exit rs1 => some ⟨2#7, 0#5, rs1, 0#3, 0#5, 43#7⟩
  | .yield => some ⟨3#7, 0#5, 0#5, 0#3, 0#5, 43#7⟩
  | .tstart rd rs1 rs2 => some ⟨4#7, rs2, rs1, 0#3, rd, 43#7⟩
  | .treap rd rs1 => some ⟨5#7, 0#5, rs1, 0#3, rd, 43#7⟩
  | .tkill rs1 => some ⟨6#7, 0#5, rs1, 0#3, 0#5, 43#7⟩
  | .tarm rs1 rs2 => some ⟨7#7, rs2, rs1, 0#3, 0#5, 43#7⟩
  | .pin => some ⟨8#7, 0#5, 0#5, 0#3, 0#5, 43#7⟩
  | .unpin => some ⟨9#7, 0#5, 0#5, 0#3, 0#5, 43#7⟩
  | .gtopo rd uimm => some ⟨10#7, uimm, 0#5, 0#3, rd, 43#7⟩
  | .irqsend rs1 rs2 => some ⟨11#7, rs2, rs1, 0#3, 0#5, 43#7⟩
  | .uiret => some ⟨12#7, 0#5, 0#5, 0#3, 0#5, 43#7⟩
  | .tracemark rs1 uimm => some ⟨13#7, uimm, rs1, 0#3, 0#5, 43#7⟩
  | .ctxread rd rs1 uimm => some ⟨0#7, uimm, rs1, 1#3, rd, 43#7⟩
  | .ctxwrite rs1 rs2 uimm => some ⟨1#7, rs2, rs1, 1#3, uimm, 43#7⟩
  | .preempt => some ⟨2#7, 0#5, 0#5, 1#3, 0#5, 43#7⟩
  | .resume rs1 => some ⟨3#7, 0#5, rs1, 1#3, 0#5, 43#7⟩
  | .gcreate rd rs1 => some ⟨0#7, 0#5, rs1, 2#3, rd, 43#7⟩
  | .gjoin rs1 => some ⟨1#7, 0#5, rs1, 2#3, 0#5, 43#7⟩
  | .gleave rs1 => some ⟨2#7, 0#5, rs1, 2#3, 0#5, 43#7⟩
  | .gsync rs1 => some ⟨3#7, 0#5, rs1, 2#3, 0#5, 43#7⟩
  | .gcount rd rs1 => some ⟨4#7, 0#5, rs1, 2#3, rd, 43#7⟩
  | .gdissolve rs1 => some ⟨5#7, 0#5, rs1, 2#3, 0#5, 43#7⟩
  | .binit rs1 rs2 => some ⟨0#7, rs2, rs1, 3#3, 0#5, 43#7⟩
  | .barrive rd rs1 => some ⟨1#7, 0#5, rs1, 3#3, rd, 43#7⟩
  | .bwait rs1 rs2 => some ⟨2#7, rs2, rs1, 3#3, 0#5, 43#7⟩
  | .btest rd rs1 rs2 => some ⟨3#7, rs2, rs1, 3#3, rd, 43#7⟩
  | .bexpect rs1 rs2 => some ⟨4#7, rs2, rs1, 3#3, 0#5, 43#7⟩
  | .bcomplete rs1 rs2 => some ⟨5#7, rs2, rs1, 3#3, 0#5, 43#7⟩
  | .bretire rs1 => some ⟨6#7, 0#5, rs1, 3#3, 0#5, 43#7⟩
  | .gang rs1 rs2 => some ⟨7#7, rs2, rs1, 3#3, 0#5, 43#7⟩
  | .bget rd bn => some ⟨0#7, (0#1 ++ bn), 0#5, 4#3, rd, 43#7⟩
  | .bput rs1 bn => some ⟨1#7, 0#5, rs1, 4#3, (0#1 ++ bn), 43#7⟩
  | .furrow rs1 rs2 => some ⟨2#7, rs2, rs1, 4#3, 0#5, 43#7⟩
  | .unfurrow => some ⟨3#7, 0#5, 0#5, 4#3, 0#5, 43#7⟩
  | .vfadd fd fs1 fs2 et => some ⟨(0#5 ++ et), (0#2 ++ fs2), (0#2 ++ fs1), 0#3, (0#2 ++ fd), 91#7⟩
  | .vfsub fd fs1 fs2 et => some ⟨(1#5 ++ et), (0#2 ++ fs2), (0#2 ++ fs1), 0#3, (0#2 ++ fd), 91#7⟩
  | .vfmul fd fs1 fs2 et => some ⟨(2#5 ++ et), (0#2 ++ fs2), (0#2 ++ fs1), 0#3, (0#2 ++ fd), 91#7⟩
  | .vfma fd fs1 fs2 et => some ⟨(3#5 ++ et), (0#2 ++ fs2), (0#2 ++ fs1), 0#3, (0#2 ++ fd), 91#7⟩
  | .vfmin fd fs1 fs2 et => some ⟨(4#5 ++ et), (0#2 ++ fs2), (0#2 ++ fs1), 0#3, (0#2 ++ fd), 91#7⟩
  | .vfmax fd fs1 fs2 et => some ⟨(5#5 ++ et), (0#2 ++ fs2), (0#2 ++ fs1), 0#3, (0#2 ++ fd), 91#7⟩
  | .vfdiv fd fs1 fs2 et => some ⟨(6#5 ++ et), (0#2 ++ fs2), (0#2 ++ fs1), 0#3, (0#2 ++ fd), 91#7⟩
  | .vfsqrt fd fs1 et => some ⟨(7#5 ++ et), 0#5, (0#2 ++ fs1), 0#3, (0#2 ++ fd), 91#7⟩
  | .vcvt fd fs1 fs2 et => some ⟨(8#5 ++ et), (0#2 ++ fs2), (0#2 ++ fs1), 0#3, (0#2 ++ fd), 91#7⟩
  | .vfill fd fs1 et => some ⟨(9#5 ++ et), 0#5, (0#2 ++ fs1), 0#3, (0#2 ++ fd), 91#7⟩
  | .vmov fd fs1 et => some ⟨(10#5 ++ et), 0#5, (0#2 ++ fs1), 0#3, (0#2 ++ fd), 91#7⟩
  | .vaxpy fd fs1 fs2 et => some ⟨(11#5 ++ et), (0#2 ++ fs2), (0#2 ++ fs1), 0#3, (0#2 ++ fd), 91#7⟩
  | .vscal fd fs1 et => some ⟨(12#5 ++ et), 0#5, (0#2 ++ fs1), 0#3, (0#2 ++ fd), 91#7⟩
  | .vdot fd fs1 fs2 et => some ⟨(13#5 ++ et), (0#2 ++ fs2), (0#2 ++ fs1), 0#3, (0#2 ++ fd), 91#7⟩
  | .vsum fd fs1 et => some ⟨(14#5 ++ et), 0#5, (0#2 ++ fs1), 0#3, (0#2 ++ fd), 91#7⟩
  | .vmaxr fd fs1 et => some ⟨(15#5 ++ et), 0#5, (0#2 ++ fs1), 0#3, (0#2 ++ fd), 91#7⟩
  | .viadd fd fs1 fs2 et => some ⟨(16#5 ++ et), (0#2 ++ fs2), (0#2 ++ fs1), 0#3, (0#2 ++ fd), 91#7⟩
  | .vgather fd fs1 fs2 et => some ⟨(17#5 ++ et), (0#2 ++ fs2), (0#2 ++ fs1), 0#3, (0#2 ++ fd), 91#7⟩
  | .scfg fd rs1 => some ⟨0#7, 0#5, rs1, 1#3, (0#2 ++ fd), 91#7⟩
  | .sen fd rs1 => some ⟨4#7, 0#5, rs1, 1#3, (0#2 ++ fd), 91#7⟩
  | .spos rd fs1 => some ⟨8#7, 0#5, (0#2 ++ fs1), 1#3, rd, 91#7⟩
  | .vwait => some ⟨0#7, 0#5, 0#5, 2#3, 0#5, 91#7⟩
  | .vstat rd => some ⟨4#7, 0#5, 0#5, 2#3, rd, 91#7⟩
  | .mxop rd rs1 => some ⟨0#7, 0#5, rs1, 0#3, rd, 123#7⟩
  | .mxg rd rs1 => some ⟨1#7, 0#5, rs1, 0#3, rd, 123#7⟩
  | .mxstat rd rs1 => some ⟨2#7, 0#5, rs1, 0#3, rd, 123#7⟩
  | .mxcancel rs1 => some ⟨3#7, 0#5, rs1, 0#3, 0#5, 123#7⟩
  | .cpyq rd => some ⟨0#7, 0#5, 0#5, 1#3, rd, 123#7⟩
  | .cpyqNb rd => some ⟨1#7, 0#5, 0#5, 1#3, rd, 123#7⟩
  | .cwptr rd rs1 => some ⟨2#7, 0#5, rs1, 1#3, rd, 123#7⟩
  | .cwait rs1 => some ⟨3#7, 0#5, rs1, 1#3, 0#5, 123#7⟩
  | .lpost rd rs1 rs2 => some ⟨0#7, rs2, rs1, 2#3, rd, 123#7⟩
  | .larm rd rs1 rs2 => some ⟨1#7, rs2, rs1, 2#3, rd, 123#7⟩
  | .lcnt rd rs1 => some ⟨2#7, 0#5, rs1, 2#3, rd, 123#7⟩
  | .kappend rd rs1 => some ⟨3#7, 0#5, rs1, 2#3, rd, 123#7⟩
  | .qwake rs1 rs2 => some ⟨4#7, rs2, rs1, 2#3, 0#5, 123#7⟩
  | .hld rd rs1 => some ⟨0#7, 0#5, rs1, 7#3, rd, 123#7⟩
  | .hst rs1 rs2 => some ⟨1#7, rs2, rs1, 7#3, 0#5, 123#7⟩
  | .hnarrow rd rs1 rs2 => some ⟨2#7, rs2, rs1, 7#3, rd, 123#7⟩
  | .hdrop rd rs1 rs2 => some ⟨3#7, rs2, rs1, 7#3, rd, 123#7⟩
  | .hseek rd rs1 rs2 => some ⟨4#7, rs2, rs1, 7#3, rd, 123#7⟩
  | .hlock rd rs1 uimm => some ⟨5#7, uimm, rs1, 7#3, rd, 123#7⟩
  | .hopen rd rs1 uimm => some ⟨6#7, uimm, rs1, 7#3, rd, 123#7⟩
  | .hinfo rd rs1 uimm => some ⟨7#7, uimm, rs1, 7#3, rd, 123#7⟩
  | .hmint rd rs1 rs2 => some ⟨8#7, rs2, rs1, 7#3, rd, 123#7⟩
  | .moduleReset _ _ => none
  | .selfTestEnd _ _ => none
  | .startEdge _ => none
  | .tickEdge _ => none
  | .gridWireDisagree _ _ => none
  | .fieldGridLoss _ => none
  | .coreAliveLoss _ => none
  | .suspectReport _ _ => none
  | .suspectVote _ => none
  | .suspectWindowExpiry _ => none
  | .standInAdoption _ => none
  | .evacuationRange _ _ => none
  | .mapEntryUpdate _ => none
  | .ownerMovedNotice _ => none
  | .drainWatchdog _ _ => none
  | .lowerOperatingPoint _ => none
  | .junctionOvertemp => none
  | .latencyPageRefresh _ => none
  | .sample _ => none
  | .slotAssign _ _ => none
  | .departure _ _ => none
  | .migrationArrival _ => none
  | .acceptanceNotice _ => none
  | .refusalNotice _ => none
  | .backoffExpiry _ _ => none
  | .arrivalCheck _ _ => none
  | .proxyRequest _ => none
  | .proxyReply _ => none
  | .postedStoreArrival _ => none
  | .settlementNotice _ => none
  | .refusalEntryFill _ => none
  | .refusalAckArrival _ => none
  | .refusalAckAnswer _ => none
  | .heldAccessPerform _ => none
  | .cacheFill _ => none
  | .walkComplete _ _ => none
  | .waitProbe _ => none
  | .testProbe _ => none
  | .waitProbeAnswer _ => none
  | .probeAnswer _ => none
  | .divideResult _ _ => none
  | .fdivFsqrtResult _ _ => none
  | .hostReadReply _ _ _ => none
  | .hostWriteCompletion _ => none
  | .frameExitArrival _ => none
  | .tdecArrival _ => none
  | .dequeResume _ => none
  | .stealRound _ => none
  | .stealRequest _ => none
  | .stealAnswer _ => none
  | .stealRetryExpiry _ => none
  | .groupRequest _ => none
  | .barrierRequest _ => none
  | .engineDecrement _ => none
  | .gangFormed _ => none
  | .gangWireArrival _ => none
  | .mxeWinSatisfied _ _ => none
  | .mxeSelect _ => none
  | .mxeKstepBoundary _ => none
  | .gangOpStart _ => none
  | .mxeBlockWritten _ => none
  | .mxeOpEnd _ => none
  | .mxstatResult _ _ => none
  | .channelStart _ => none
  | .channelWinSatisfied _ _ => none
  | .channelWrite _ _ _ => none
  | .copyCompletionInterrupt _ _ => none
  | .streamElementFetch _ _ _ => none
  | .streamOutputPerform _ _ _ => none
  | .vectorCommandComplete _ _ => none
  | .furrowWordTransfer _ => none
  | .kappendArrival _ => none
  | .kappendReply _ => none
  | .windowDecode _ => none
  | .windowIssue _ => none
  | .report _ => none
  | .windowRetire _ => none
  | .windowFault _ => none
  | .squashNotice _ => none
  | .windowKindComplete _ _ => none
  | .kbindWrite _ _ => none
  | .ksignalWrite _ => none
  | .kwaitRead _ _ _ => none
  | .kfenceComplete _ _ => none
  | .wakeWrite _ _ _ => none
  | .qwakeArrival _ => none
  | .doorbellStore _ => none
  | .doorbellInterrupt _ => none
  | .eventMsix _ => none
  | .lftWrite _ _ => none
  | .lftReadRequest _ _ => none
  | .lftReadReply _ _ _ => none
  | .lftPostedAtomic _ _ => none
  | .lftReturningAtomic _ _ => none
  | .lftAtomicReply _ _ _ => none
  | .lftTrigger _ _ => none
  | .lftAck _ _ => none
  | .lftNack _ _ => none
  | .lftSetup _ _ => none
  | .classSGapTimeout _ => none
  | .classSProgressTimeout _ _ => none
  | .classMResendTimeout _ => none
  | .connectionSetupRefresh _ => none
  | .linkRecordFire _ => none
  | .linkBridgeRequest _ => none
  | .linkBridgeReply _ => none
  | .hostMemWrite _ _ _ => none
  | .hostMemRead _ _ _ => none
  | .registerWrite _ _ _ => none
  | .form _ => none
  | .dissolve _ => none
  | .load _ _ => none
  | .qcreate _ => none
  | .qreset _ => none
  | .qrevoke _ => none
  | .readmit _ => none
  | .observeSamplePeriod _ => none
  | .observeBreakpoint _ => none
  | .observeWatchpoint _ => none
  | .endpoint _ => none
  | .route _ => none
  | .attest _ => none
  | .keyinstall _ => none
  | .svccap _ => none
  | .keyremove _ => none
  | .unpoison _ => none
  | .admitRange _ => none
  | .tilequery _ => none
  | .irqMessageArrival _ => none
  | .interruptTake _ => none
  | .wfiWake _ => none
  | .faultRecordArrival _ => none
  | .traceRecordArrival _ => none
  | .sfenceSelection _ => none
  | .sfenceAck _ => none
  | .mipWrite _ _ => none
  | .satpWrite _ _ => none
  | .arrcfgWrite _ _ => none
  | .fcsrAccess _ _ _ => none
  | .illegalInstruction _ => none
  | .tileSupplyLoss _ => none
  | .uncorrectableError _ _ _ => none
  | .cxlSnoop _ => none

/-- The instruction of a word (R64 to R74). -/
noncomputable def decode (w : Word32) : Decoded := decodeFields (Fields.ofWord w)

/-- The word of an encoded instruction (R65). -/
def encode (i : Instr) : Option Word32 := (fieldsOf i).map Fields.toWord

/-- The word of an instruction, 0 for an event: the trap value of R74. -/
def Instr.word (i : Instr) : Word32 := (encode i).getD 0

/-- A word from its bytes, the first at the lowest address (R64, R5: little-endian). -/
def wordOfBytes (b0 b1 b2 b3 : Byte) : Word32 := b3 ++ b2 ++ b1 ++ b0

/-- The bytes of a word, the first at the lowest address (R64). -/
def bytesOfWord (w : Word32) : List Byte :=
  [w.extractLsb' 0 8, w.extractLsb' 8 8, w.extractLsb' 16 8, w.extractLsb' 24 8]

/-- The instruction of four bytes as they stand in memory. -/
noncomputable def decodeBytes : List Byte → Decoded
  | [b0, b1, b2, b3] => decode (wordOfBytes b0 b1 b2 b3)
  | _ => .reject .majorOpcode

/-- The instruction this decoder reads from the word w, laid out in memory as R64 stores it. -/
noncomputable def decodeTableWord (nbits w : Nat) : Option Instr :=
  if nbits = 32 then
    match decodeBytes (bytesOfWord (BitVec.ofNat 32 w)) with
    | .ok i => some i
    | .reject _ => none
  else none

end Sys2Proof
end

