-- ==== Sys2Proof/Machine/Flags.lean ====
section
/-! DEFINITION. Rounding modes and the exception flags of floating arithmetic (02_numbers.md R42, R43). -/
namespace Sys2Proof.Machine

/-- The five flags of fcsr bits 4:0: NV DZ OF UF NX (R43). -/
abbrev Flags := BitVec 5

/-- Invalid operation. -/
def nv : Flags := 16#5
/-- Division by zero. -/
def dz : Flags := 8#5
/-- Overflow, always with NX (R42). -/
def ofNx : Flags := 5#5
/-- Underflow, raised when a tiny result is inexact (R42), so with NX. -/
def ufNx : Flags := 3#5
/-- Inexact. -/
def nx : Flags := 1#5

/-- A flag raised under a condition. -/
def Flags.when (b : Bool) (f : Flags) : Flags := if b then f else 0#5

/-- The rounding modes of R42. -/
inductive Rnd where
  | rne | rtz | rdn | rup | rmm
deriving DecidableEq, Repr

/-- The mode a 3-bit code names (R42); 101, 110 and 111 name none. -/
def Rnd.ofCode (c : BitVec 3) : Option Rnd :=
  match c with
  | 0#3 => some .rne
  | 1#3 => some .rtz
  | 2#3 => some .rdn
  | 3#3 => some .rup
  | 4#3 => some .rmm
  | _ => none

/-- The mode of an rm field: DYN (111) takes frm (R42). None: the instruction is illegal. -/
def Rnd.ofField (rm frm : BitVec 3) : Option Rnd :=
  if rm = 7#3 then Rnd.ofCode frm else Rnd.ofCode rm

end Sys2Proof.Machine
end

