-- ==== Sys2Proof/Machine/Float.lean ====
section
/-! DEFINITION. The numbers of 02_numbers.md: the formats, exact values, rounding, conversions, estimates and the
orders of arithmetic (R32 to R57). Every operation decodes its operands to exact rationals, computes exactly
and rounds once. -/
namespace Sys2Proof.Machine

/-- A binary floating-point format (R32): field widths, and whether it is E4M3, whose all-ones exponent is not
special (R33). -/
structure Fmt where
  width : Nat
  exp : Nat
  frac : Nat
  e4 : Bool
deriving DecidableEq, Repr

/-- FP64 (R32). -/
def fp64 : Fmt := ⟨64, 11, 52, false⟩
/-- FP32 (R32). -/
def fp32 : Fmt := ⟨32, 8, 23, false⟩
/-- FP16 (R32). -/
def fp16 : Fmt := ⟨16, 5, 10, false⟩
/-- BF16 (R32). -/
def bf16 : Fmt := ⟨16, 8, 7, false⟩
/-- FP8 E4M3 (R32, R35). -/
def e4m3 : Fmt := ⟨8, 4, 3, true⟩
/-- FP8 E5M2 (R32, R36). -/
def e5m2 : Fmt := ⟨8, 5, 2, false⟩

/-- The exponent bias (R32). -/
def Fmt.bias (F : Fmt) : Nat := 2 ^ (F.exp - 1) - 1
/-- The sign bit's weight. -/
def Fmt.signBit (F : Fmt) : Nat := 2 ^ (F.width - 1)
/-- The code of +infinity; for E4M3, which has none, the first code above 448's row. -/
def Fmt.infCode (F : Fmt) : Nat := (2 ^ F.exp - 1) * 2 ^ F.frac
/-- The code of the largest finite value (R32): 448 for E4M3. -/
def Fmt.maxCode (F : Fmt) : Nat := if F.e4 then 0x7E else F.infCode - 1
/-- The canonical NaN (R32). -/
def Fmt.canonicalNan (F : Fmt) : Nat := if F.e4 then 0x7F else F.infCode + 2 ^ (F.frac - 1)

/-- An exact value: NaN (quiet or signalling), infinity, or a signed rational num/den. -/
inductive FVal where
  | nan (signalling : Bool)
  | inf (neg : Bool)
  | fin (neg : Bool) (num den : Nat)
deriving DecidableEq, Repr

/-- The value of a code (R32, R33). -/
def Fmt.value (F : Fmt) (b : Nat) : FVal :=
  let neg := decide (F.signBit ≤ b % 2 ^ F.width)
  let e := b / 2 ^ F.frac % 2 ^ F.exp
  let f := b % 2 ^ F.frac
  if F.e4 && e == 15 && f == 7 then .nan false
  else if !F.e4 && e == 2 ^ F.exp - 1 then
    if f = 0 then .inf neg else .nan (decide (f < 2 ^ (F.frac - 1)))
  else
    let m := if e = 0 then f else f + 2 ^ F.frac
    let x := (if e = 0 then 1 else e)
    -- m * 2^(x - bias - frac)
    .fin neg (m * 2 ^ (x - (F.bias + F.frac))) (2 ^ (F.bias + F.frac - x))

def FVal.isNan : FVal → Bool
  | .nan _ => true
  | _ => false
def FVal.isSnan : FVal → Bool
  | .nan s => s
  | _ => false
def FVal.isInf : FVal → Bool
  | .inf _ => true
  | _ => false
def FVal.isZero : FVal → Bool
  | .fin _ n _ => n == 0
  | _ => false
def FVal.isNeg : FVal → Bool
  | .nan _ => false
  | .inf s => s
  | .fin s _ _ => s
/-- The value with its sign inverted. -/
def FVal.neg : FVal → FVal
  | .nan s => .nan s
  | .inf s => .inf (!s)
  | .fin s n d => .fin (!s) n d

/-- Whether a magnitude with quotient m, remainder r over divisor d is rounded up (R42). -/
def Rnd.up (rm : Rnd) (neg : Bool) (m r d : Nat) : Bool :=
  match rm with
  | .rne => decide (d < 2 * r) || (decide (2 * r = d) && m % 2 == 1)
  | .rtz => false
  | .rdn => neg && r != 0
  | .rup => !neg && r != 0
  | .rmm => r != 0 && decide (d ≤ 2 * r)

/-- A magnitude num/den divided by 2^(qp - qn), as quotient, remainder and divisor. -/
def scaled (num den qp qn : Nat) : Nat × Nat × Nat :=
  let n := num * 2 ^ qn
  let d := den * 2 ^ qp
  (n / d, n % d, d)

/-- The exponent of the leading bit of num/den, offset by 4096 to stay a natural number. -/
def leadExp (num den : Nat) : Nat :=
  let e := 4096 + Nat.log2 num - Nat.log2 den
  -- num/den lies in (2^(e-4096-1), 2^(e-4096+1))
  if num * 2 ^ (4096 - e) < den * 2 ^ (e - 4096) then e - 1 else e

/-- num/den rounded to an integer multiple of 2^(q - 4096). -/
def roundAt (rm : Rnd) (neg : Bool) (num den q : Nat) : Nat × Bool :=
  let (m, r, d) := scaled num den (q - 4096) (4096 - q)
  (m + (if rm.up neg m r d then 1 else 0), r != 0)

/-- The result of an overflow (R46, R47): the code without its sign. -/
def Fmt.overflowCode (F : Fmt) (rm : Rnd) (sat neg : Bool) : Nat :=
  let toInf := match rm with
    | .rne | .rmm => true
    | .rtz => false
    | .rdn => neg
    | .rup => !neg
  if toInf && !sat && !F.e4 then F.infCode else F.maxCode

/-- A code with its sign. -/
def Fmt.withSign (F : Fmt) (neg : Bool) (c : Nat) : Nat := if neg then F.signBit + c else c

/-- An exact finite value rounded once (R42, R45 to R47): the code and the flags. Tininess is detected after
rounding. -/
def Fmt.round (F : Fmt) (rm : Rnd) (sat neg : Bool) (num den : Nat) : Nat × Flags :=
  if num = 0 then (F.withSign neg 0, 0#5)
  else
    let e := leadExp num den
    let emin := 4097 - F.bias
    let q := max (e - F.frac) (emin - F.frac)
    let (m, inexact) := roundAt rm neg num den q
    let code := (q - (emin - F.frac)) * 2 ^ F.frac + m
    if F.maxCode < code then (F.withSign neg (F.overflowCode rm sat neg), ofNx)
    else
      let tiny := decide (e < emin) &&
        !(decide (e + 1 = emin) && (roundAt rm neg num den (e - F.frac)).1 == 2 ^ (F.frac + 1))
      (F.withSign neg code, if inexact then (if tiny then ufNx else nx) else 0#5)

/-- Conversion of an exact value to a float format (R45, R46, R47); NaNs become canonical (R33). -/
def Fmt.ofValue (F : Fmt) (rm : Rnd) (sat : Bool) (v : FVal) : Nat × Flags :=
  match v with
  | .nan s => (F.canonicalNan, Flags.when s nv)
  | .inf neg =>
    if F.e4 then (F.withSign neg F.maxCode, ofNx)
    else (F.withSign neg (if sat then F.maxCode else F.infCode), 0#5)
  | .fin neg num den => F.round rm sat neg num den

/-- A signed sum of magnitudes over one denominator. -/
def addMag (sa : Bool) (a : Nat) (sb : Bool) (b : Nat) : Bool × Nat :=
  if sa = sb then (sa, a + b) else if b ≤ a then (sa, a - b) else (sb, b - a)

/-- The exact sum, and the flags of an invalid one (R52, R128): an exact zero sum of unlike zeros or of opposite
numbers is -0 under RDN and +0 otherwise. -/
def FVal.add (rm : Rnd) (x y : FVal) : FVal × Flags :=
  let sig := Flags.when (x.isSnan || y.isSnan) nv
  match x, y with
  | .nan _, _ => (.nan false, sig)
  | _, .nan _ => (.nan false, sig)
  | .inf a, .inf b => if a = b then (.inf a, sig) else (.nan false, nv)
  | .inf a, .fin _ _ _ => (.inf a, sig)
  | .fin _ _ _, .inf b => (.inf b, sig)
  | .fin sa na da, .fin sb nb db =>
    let (s, n) := addMag sa (na * db) sb (nb * da)
    let s' := if n = 0 then (if sa = sb then sa else rm == .rdn) else s
    (.fin s' n (da * db), sig)

/-- The exact product (R52): 0 times infinity is invalid. -/
def FVal.mul (x y : FVal) : FVal × Flags :=
  let sig := Flags.when (x.isSnan || y.isSnan) nv
  match x, y with
  | .nan _, _ => (.nan false, sig)
  | _, .nan _ => (.nan false, sig)
  | .inf a, .inf b => (.inf (a != b), sig)
  | .inf a, .fin b n _ => if n = 0 then (.nan false, nv) else (.inf (a != b), sig)
  | .fin a n _, .inf b => if n = 0 then (.nan false, nv) else (.inf (a != b), sig)
  | .fin a na da, .fin b nb db => (.fin (a != b) (na * nb) (da * db), sig)

/-- The exact quotient (R128). -/
def FVal.div (x y : FVal) : FVal × Flags :=
  let sig := Flags.when (x.isSnan || y.isSnan) nv
  match x, y with
  | .nan _, _ => (.nan false, sig)
  | _, .nan _ => (.nan false, sig)
  | .inf _, .inf _ => (.nan false, nv)
  | .inf a, .fin b _ _ => (.inf (a != b), sig)
  | .fin a _ _, .inf b => (.fin (a != b) 0 1, sig)
  | .fin a na da, .fin b nb db =>
    if nb = 0 then (if na = 0 then (.nan false, nv) else (.inf (a != b), dz))
    else (.fin (a != b) (na * db) (da * nb), sig)

/-- One step of Newton's iteration for the integer square root, from above, on fuel. -/
def isqrtLoop : Nat → Nat → Nat → Nat
  | 0, _, x => x
  | k + 1, n, x =>
    let y := (x + n / x) / 2
    if y < x then isqrtLoop k n y else x

/-- The integer square root, rounded down. -/
def isqrt (n : Nat) : Nat := if n = 0 then 0 else isqrtLoop 64 n (2 ^ (Nat.log2 n / 2 + 1))

/-- A rational that rounds as the square root of num/den does, at any precision of R32: the exact root, or a value
strictly between the two neighbouring multiples of 2^-160 relative to it. -/
def sqrtRat (num den : Nat) : Nat × Nat :=
  let n := num * den * 4 ^ 160
  let r := isqrt n
  if r * r = n then (r, den * 2 ^ 160) else (2 * r + 1, den * 2 ^ 161)

/-- The square root (R128). -/
def FVal.sqrt (x : FVal) : FVal × Flags :=
  match x with
  | .nan s => (.nan false, Flags.when s nv)
  | .inf false => (.inf false, 0#5)
  | .inf true => (.nan false, nv)
  | .fin s 0 d => (.fin s 0 d, 0#5)
  | .fin true _ _ => (.nan false, nv)
  | .fin false n d => let (a, b) := sqrtRat n d; (.fin false a b, 0#5)

/-- An operation's exact value rounded to the format, its flags joined. -/
def Fmt.finish (F : Fmt) (rm : Rnd) (p : FVal × Flags) : Nat × Flags :=
  let (c, fl) := F.ofValue rm false p.1
  (c, p.2 ||| fl)

def Fmt.add (F : Fmt) (rm : Rnd) (a b : Nat) : Nat × Flags := F.finish rm ((F.value a).add rm (F.value b))
def Fmt.sub (F : Fmt) (rm : Rnd) (a b : Nat) : Nat × Flags := F.finish rm ((F.value a).add rm (F.value b).neg)
def Fmt.mul (F : Fmt) (rm : Rnd) (a b : Nat) : Nat × Flags := F.finish rm ((F.value a).mul (F.value b))
def Fmt.div (F : Fmt) (rm : Rnd) (a b : Nat) : Nat × Flags := F.finish rm ((F.value a).div (F.value b))
def Fmt.sqrt (F : Fmt) (rm : Rnd) (a : Nat) : Nat × Flags := F.finish rm (F.value a).sqrt

/-- The exact value of ±(a × b) ± c (R128), with the flags of the invalid cases: 0 times infinity is invalid even
when c is a quiet NaN. -/
def FVal.fma (rm : Rnd) (negP negC : Bool) (a b c : FVal) : FVal × Flags :=
  let (p, f1) := a.mul b
  let p := if negP then p.neg else p
  let c := if negC then c.neg else c
  let (v, f2) := p.add rm c
  (v, f1 ||| f2)

/-- The fused operations (R128): fmadd, fmsub, fnmsub and fnmadd by the two signs. -/
def Fmt.fma (F : Fmt) (rm : Rnd) (negP negC : Bool) (a b c : Nat) : Nat × Flags :=
  F.finish rm (FVal.fma rm negP negC (F.value a) (F.value b) (F.value c))

/-- Whether x < y among finite and infinite values, -0 equal to +0. -/
def FVal.lt : FVal → FVal → Bool
  | .nan _, _ => false
  | _, .nan _ => false
  | .inf a, .inf b => a && !b
  | .inf a, .fin _ _ _ => a
  | .fin _ _ _, .inf b => !b
  | .fin sa na da, .fin sb nb db =>
    let a := na * db
    let b := nb * da
    match sa, sb with
    | false, false => decide (a < b)
    | true, true => decide (b < a)
    | true, false => a != 0 || b != 0
    | false, true => false

/-- Whether x = y as numbers. -/
def FVal.eq : FVal → FVal → Bool
  | .inf a, .inf b => a == b
  | .fin sa na da, .fin sb nb db => na * db == nb * da && (sa == sb || na == 0)
  | _, _ => false

/-- Whether the minimum of two numbers is the first: -0 is less than +0 (R52). -/
def FVal.minFirst (x y : FVal) : Bool := x.lt y || (x.eq y && (x.isNeg || !y.isNeg))

/-- Minimum and maximum (R52): a NaN operand is missing; a signalling one raises NV. -/
def Fmt.minMax (F : Fmt) (isMax : Bool) (a b : Nat) : Nat × Flags :=
  let x := F.value a
  let y := F.value b
  let fl := Flags.when (x.isSnan || y.isSnan) nv
  if x.isNan then (if y.isNan then F.canonicalNan else b, fl)
  else if y.isNan then (a, fl)
  else (if x.minFirst y != isMax then a else b, fl)

/-- FEQ (R131): NV only for a signalling NaN. -/
def Fmt.feq (F : Fmt) (a b : Nat) : Bool × Flags :=
  let x := F.value a
  let y := F.value b
  (x.eq y, Flags.when (x.isSnan || y.isSnan) nv)

/-- FLT (R131): NV for any NaN. -/
def Fmt.flt (F : Fmt) (a b : Nat) : Bool × Flags :=
  let x := F.value a
  let y := F.value b
  (x.lt y, Flags.when (x.isNan || y.isNan) nv)

/-- FLE (R131): NV for any NaN. -/
def Fmt.fle (F : Fmt) (a b : Nat) : Bool × Flags :=
  let x := F.value a
  let y := F.value b
  (x.lt y || x.eq y, Flags.when (x.isNan || y.isNan) nv)

/-- The bit of FCLASS (R131). -/
def Fmt.classBit (F : Fmt) (b : Nat) : Nat :=
  match F.value b with
  | .nan true => 8
  | .nan false => 9
  | .inf true => 0
  | .inf false => 7
  | .fin s n _ =>
    let sub := decide (b / 2 ^ F.frac % 2 ^ F.exp = 0)
    if n = 0 then (if s then 3 else 4)
    else if sub then (if s then 2 else 5)
    else if s then 1 else 6

/-- A float code converted to another float format (R45 to R47). -/
def Fmt.convert (src dst : Fmt) (rm : Rnd) (sat : Bool) (b : Nat) : Nat × Flags := dst.ofValue rm sat (src.value b)

/-- A finite value rounded to an integer under a mode, and whether it was inexact. -/
def roundInt (rm : Rnd) (neg : Bool) (num den : Nat) : Int × Bool :=
  let m := num / den
  let r := num % den
  let m := m + (if rm.up neg m r den then 1 else 0)
  ((if neg then -(m : Int) else (m : Int)), r != 0)

/-- Conversion to an n-bit integer (R48): the n-bit pattern and the flags. -/
def FVal.toInt (rm : Rnd) (sat signed : Bool) (n : Nat) (v : FVal) : Nat × Flags :=
  let lo : Int := if signed then -(2 ^ (n - 1) : Int) else 0
  let hi : Int := if signed then 2 ^ (n - 1) - 1 else 2 ^ n - 1
  let pat (i : Int) : Nat := (i % (2 ^ n : Int)).toNat
  match v with
  | .nan _ => (0, nv)
  | .inf neg => (if sat then pat (if neg then lo else hi) else 0, nv)
  | .fin neg num den =>
    let (i, inexact) := roundInt rm neg num den
    let x := Flags.when inexact nx
    if lo ≤ i && i ≤ hi then (pat i, x)
    else (if sat then pat (if i < lo then lo else hi) else pat i, nv ||| x)

/-- An integer as an exact value; zero is +0 (R134). -/
def FVal.ofInt (i : Int) : FVal := .fin (decide (i < 0)) i.natAbs 1

/-- Conversion from an integer (R49). -/
def Fmt.ofInt (F : Fmt) (rm : Rnd) (sat : Bool) (i : Int) : Nat × Flags := F.ofValue rm sat (FVal.ofInt i)

/-- A finite magnitude rounded by RNE to p significant bits, still exact (R51 round_sig). -/
def roundSig (p num den : Nat) : Nat × Nat :=
  if num = 0 then (0, 1)
  else
    let q := leadExp num den - (p - 1)
    let (m, _) := roundAt .rne false num den q
    (m * 2 ^ (q - 4096), 2 ^ (4096 - q))

/-- The reciprocal estimate (R51, R135). -/
def Fmt.recip (F : Fmt) (b : Nat) : Nat × Flags :=
  match F.value b with
  | .nan s => (F.canonicalNan, Flags.when s nv)
  | .inf s => (F.withSign s 0, 0#5)
  | .fin s 0 _ => (F.withSign s F.infCode, dz)
  | .fin s n d =>
    -- y = d / n; the smallest normal is 2^(1 - bias)
    if d * 2 ^ (F.bias - 1) < n then (F.withSign s 0, ufNx)
    else
      let (a, c) := roundSig (min 12 (F.frac + 1)) d n
      let (code, fl) := F.round .rne false s a c
      if fl = ofNx then (F.withSign s F.infCode, ofNx) else (code, 0#5)

/-- The reciprocal-square-root estimate (R51, R135). -/
def Fmt.rsqrt (F : Fmt) (b : Nat) : Nat × Flags :=
  match F.value b with
  | .nan s => (F.canonicalNan, Flags.when s nv)
  | .fin s 0 _ => (F.withSign s F.infCode, dz)
  | .inf true => (F.canonicalNan, nv)
  | .inf false => (F.withSign false 0, 0#5)
  | .fin true _ _ => (F.canonicalNan, nv)
  | .fin false n d =>
    let (a, c) := sqrtRat d n
    let (x, y) := roundSig (min 12 (F.frac + 1)) a c
    ((F.round .rne false false x y).1, 0#5)

/-- The float formats of a pointer's format code (R27); none for plain, integer and block-scaled codes. -/
def Fmt.ofCode : Nat → Option Fmt
  | 1 => some fp64
  | 2 => some fp32
  | 3 => some fp16
  | 4 => some bf16
  | 5 => some e4m3
  | 6 => some e5m2
  | _ => none

/-- The table values of Q4N codes 0 to 15, as signed 32nds over 4 × 8 = 2^-7 units (R38): value = n / 128. -/
def q4nTable : List Int :=
  [-128, -92, -68, -50, -36, -24, -12, 0, 10, 20, 30, 42, 56, 72, 96, 128]

/-- The table value of a Q4N code (R38). -/
def q4nValue (c : Nat) : FVal :=
  let i := q4nTable.getD (c % 16) 0
  .fin (decide (i < 0)) i.natAbs 128

/-- The magnitude of an F4S code, in halves (R38). -/
def f4sHalves (c : Nat) : Nat := [0, 1, 2, 3, 4, 6, 8, 12].getD (c % 8) 0

/-- The table value of an F4S code (R38); code 8 is -0. -/
def f4sValue (c : Nat) : FVal := .fin (decide (8 ≤ c % 16)) (f4sHalves c) 2

/-- The block factor b (R40): an FP32 code, and NV where R40 raises it; the rounding of b raises nothing. -/
def blockFactor (s G : Nat) : Nat × Flags :=
  match fp32.value G with
  | .nan sig => (fp32.canonicalNan, Flags.when sig nv)
  | .inf neg => if s = 0 then (fp32.canonicalNan, nv) else (fp32.withSign neg fp32.infCode, 0#5)
  | .fin neg n d => ((fp32.round .rne false neg (s * n) (d * 255)).1, 0#5)

/-- The exact element t × b (R40): a zero table value gives a signed zero even for infinite b. -/
def scaleElement (t b : FVal) : FVal :=
  if b.isNan then .nan false
  else if t.isZero then .fin (t.isNeg != b.isNeg) 0 1
  else (t.mul b).1

/-- The signed multiple of 1/128 nearest to a quotient of magnitude num/den among a table, a tie to the code that
`tie` prefers; an index into the table. -/
def nearestCode (dist : Nat → Nat) (better : Nat → Nat → Bool) (n : Nat) : Nat :=
  (List.range n).foldl (fun best c => if dist c < dist best || (dist c == dist best && better c best) then c else best) 0

/-- Conversion to Q4N (R50): the code and the flags, for the block factor b. -/
def toQ4n (x b : FVal) : Nat × Flags :=
  if x.isNan || b.isNan then (7, nv)
  else if (b.isZero || b.isInf) && !x.isInf then (7, Flags.when (!x.isZero && b.isZero) nx)
  else if x.isInf then (if x.isNeg != b.isNeg then 0 else 15, ofNx)
  else match (x.div b).1 with
    | .fin neg n d =>
      if d < n then (if neg then 0 else 15, ofNx)
      else
        -- distance to code c in units of 1 / (128 d)
        let q : Int := if neg then -(128 * n : Nat) else (128 * n : Nat)
        let dist (c : Nat) : Nat := (q - q4nTable.getD c 0 * (d : Int)).natAbs
        let mag (c : Nat) : Nat := (q4nTable.getD c 0).natAbs
        let c := nearestCode dist (fun a b => decide (mag a < mag b)) 16
        (c, Flags.when (dist c != 0) nx)
    | _ => (7, 0#5)

/-- Conversion to F4S (R50) (log 12, DEDUCED). -/
def toF4s (x b : FVal) : Nat × Flags :=
  if x.isNan || b.isNan then (0, nv)
  else if (b.isZero || b.isInf) && !x.isInf then
    (if x.isNeg && !x.isZero then 8 else 0, Flags.when (!x.isZero && b.isZero) nx)
  else if x.isInf then (if x.isNeg != b.isNeg then 15 else 7, ofNx)
  else match (x.div b).1 with
    | .fin neg n d =>
      if 6 * d < n then (if neg then 15 else 7, ofNx)
      else
        let dist (c : Nat) : Nat := ((2 * n : Nat) - (f4sHalves c * d : Nat) : Int).natAbs
        let c := nearestCode dist (fun a _ => a % 2 == 0) 8
        -- a negative q that rounds to magnitude 0 gives code 8 (R50)
        (if neg && n != 0 then c + 8 else c, Flags.when (dist c != 0) nx)
    | _ => (0, 0#5)

end Sys2Proof.Machine
end

