-- ==== Sys2Proof/Config.lean ====
section
/-! DEFINITION. What the spec leaves open: the free values (log 2, DESIGN CHOICE, log 6, DESIGN CHOICE). Each is a constant with no body, applied
to a plain counter of State or to what the value depends on, so no proof can see it. -/
namespace Sys2Proof

/-- A free natural number, the n-th one taken: crossing times of 32 to 48 cycles (01_wafer.md R18), waits in
buffers (21_observe.md R372), FTIME between two edges (19_tile.md R355), what a replaced line is (R16). -/
opaque Config.freeNat : Nat → Nat

/-- A free doubleword, the n-th one taken: an unstated result. -/
opaque Config.freeWord : Nat → Word

/-- A free byte, the n-th one taken: what lost or uncorrectable data hold. -/
opaque Config.freeByte : Nat → Byte

/-- The n-th bytes of a kind that the spec leaves open: 0, the random key of a module reset (16_queue.md R303); others, a
signature of the service core (22_host.md R394) or the addresses in a port's frames (20_link.md R359). -/
opaque Config.freeBytes : Nat → Nat → List Byte

/-- The resident role of a container, or the mill's resident loop: its role index and start PC (22_host.md R393, which
gives neither the form of role names nor the loop). -/
opaque Config.residentStart : List Byte → Nat × Nat

/-- The first landing region of a partition and their count (20_link.md R363: no parameter gives them). -/
opaque Config.landing : Nat → Nat × Nat

/-- What a link acknowledgement's payload says (20_link.md R368, which gives no layout): for a Class S message or not,
the sequence up to which all is acknowledged, and the ones beyond it. -/
opaque Config.ackInfo : List Byte → Bool × Nat × List Nat

/-- What a NACK's payload says: for a Class S message or not, the code (0 bitmap, 1 refused, 2 stale), the message's
identifier or the packet's sequence, and the packets asked for. -/
opaque Config.nackInfo : List Byte → Bool × Nat × Nat × List Nat

/-- What an atomic's payload says: the operation's code, its value and the compare value. -/
opaque Config.atomicInfo : List Byte → Nat × Word × Word

/-- The class of reply that a read request's payload asks for (20_link.md R368 step 4): 0 S, 1 M. -/
opaque Config.requestClass : List Byte → Nat

/-- The payloads that say these things: of an acknowledgement, -/
opaque Config.ackBytes : Bool → Nat → List Nat → List Byte

/-- of a NACK, -/
opaque Config.nackBytes : Bool → Nat → Nat → List Nat → List Byte

/-- of an atomic, -/
opaque Config.atomicBytes : Nat → Word → Word → List Byte

/-- of a read request, -/
opaque Config.readBytes : Nat → List Byte

/-- and of a set-up packet. -/
opaque Config.setupBytes : Bool → Bool → Nat → List Byte

/-- What a set-up packet's payload says: whether it answers one, whether it opens a connection, and the peer's TICK. -/
opaque Config.setupInfo : List Byte → Bool × Bool × Nat

/-- How much later than the earliest field a tick edge reaches a field, in nanoseconds (19_tile.md R355). -/
opaque Config.edgeSkew : Nat → Fin 31

/-- Which set of the field TLB a page's entry lies in (17_page.md R321: the hash is not given). -/
opaque Config.tlbSet : Nat → Nat

end Sys2Proof
end

