-- ==== Sys2Proof/Machine/State.lean ====
section
/-! DEFINITION. The state of the whole module as plain data, and the module after its reset input.

Every field cites the rule that names it. Counts, sizes and indices are natural numbers; register contents,
pointers and witnesses are bit vectors. A finite map with a default is a table: a list of key and value pairs.
Fields marked "model's own" (log 1, DESIGN CHOICE, log 2, DESIGN CHOICE) hold no hardware state: they say what happens next and count the free
values taken. -/
namespace Sys2Proof.Machine

/-- A table: keys and values, keys rising (Machine/Table.lean gives its operations). -/
abbrev Tbl (α : Type) := List (Nat × α)

/-- Memory: the listed bytes, addresses rising; an unlisted byte reads 0 (log 4, DESIGN CHOICE). -/
abbrev Memory := List Host.Cell

/-- Why the machine stops. -/
inductive Fault where
  /-- Raised by step alone, when every field of the wafer has been stopped by heat (22_host.md R395) and nothing
  from outside is on the agenda: no clock runs, so no step exists. Safe: the hardware does nothing either. -/
  | moduleStopped
deriving DecidableEq, Repr

/-- Why an instruction has no meaning. -/
inductive Refusal where
  /-- Raised by an arm of exec that is not modelled yet. Safe. -/
  | notModelled (mnemonic : String)
deriving DecidableEq, Repr

/-- Who takes a turn: the barrel of a tile (04_context.md R82) or a core of the mill (16_queue.md R312). -/
inductive Agent where
  | tile (t : Nat)
  | mill (k : Nat)
deriving DecidableEq, Repr

/-- Privilege modes (03_encoding.md R58, 05_scalar.md R120). -/
inductive Mode where
  | u | s | m
deriving DecidableEq, Repr

/-- What holds a result back: the register a long-latency producer fills (03_encoding.md R59), a place in a
stream's write buffer (06_float.md R138, R140), or nothing (rd = x0). -/
inductive Dest where
  | none
  | x (r : XReg)
  | f (r : FReg)
  | stream (f : FReg) (place : Nat)
  /-- A reserved place of the furrow's outbound queue (11_stream.md R225). -/
  | furrow (place : Nat)
deriving DecidableEq, Repr

/-- How a value read from memory is widened (05_scalar.md R107, 06_float.md R136). -/
inductive Ext where
  | s8 | s16 | s32 | d64 | u8 | u16 | u32 | box32
deriving DecidableEq, Repr

/-- What an outstanding result waits for. -/
inductive ProdKind where
  /-- An integer divide: its value, written at a tile cycle (05_scalar.md R104). -/
  | divide (due : Nat) (value : Word)
  /-- A floating divide or root: its cycle, format code, value and flags (06_float.md R129). -/
  | float (due code : Nat) (value : Word) (flags : BitVec 5)
  /-- MXSTAT (12_matrix.md R236): the ticket, the selector and, for a form that does not wait, the cycle. -/
  | status (due : Option Nat) (ticket sel : Nat)
  /-- A reply from a home, a bridge or a window to a memory access: R94, R108, R115, R164. -/
  | access (ext : Ext)
  /-- A read of space 2 through the host port (05_scalar.md R108). -/
  | host (addr n : Nat) (ext : Ext)
  /-- A reply that is no access of memory: WTEST (07_witness.md R161), LPOST and the like. -/
  | answer
  /-- The window's reply to a KAPPEND (15_kernel_instructions.md R299). -/
  | append
  /-- A vector reduction's result (11_stream.md R216). -/
  | vector (cmd : Nat)
deriving DecidableEq, Repr

/-- What a long-latency access adds to its context's counts when its reply has come (04_context.md R96; log 92, DEDUCED): all of them,
run alone (05_scalar.md R115, 06_float.md R140), or nothing, for one that was counted at issue or that counts nothing. -/
inductive Counts where
  | all | run | none
deriving DecidableEq, Repr

/-- An outstanding long-latency result (03_encoding.md R59). A register is empty exactly while a producer in the
list claims it. -/
structure Producer where
  id : Nat
  dest : Dest
  /-- What its retirement counts when the result comes (04_context.md R96). -/
  counts : Counts
  /-- The register's value before issue, which a fault in the reply restores (18_fault.md R329). -/
  old : Word
  /-- The PC of the producing instruction (R329). -/
  pc : Word
  kind : ProdKind
  /-- The HOME class and bank of the access, for the delay accumulators (21_observe.md R373). -/
  acc : Nat
deriving DecidableEq, Repr

/-- What a probe asks of the shell that holds it (07_witness.md R145). -/
inductive ProbeKey where
  /-- A pair witness (R144). -/
  | wit (w : Word)
  /-- A group record's phase (09_group.md R189): rank, offset, the phase the arrival returned, the asking partition. -/
  | group (rank off phase : Nat) (part : Option Nat)
  /-- A barrier slot in space 0 (10_barrier.md R196): rank, offset, the token, the asking partition. -/
  | barrier (rank off : Nat) (token : Bool) (part : Option Nat)
deriving DecidableEq, Repr

/-- A probe's answer (R145, R189, R196). -/
inductive ProbeAns where
  | satisfied | outstanding | poison
  | value (w : Word)
  | fault (cause : Nat)
deriving DecidableEq, Repr

/-- A probe of a context and its answer when it has come. -/
structure Probe where
  id : Nat
  key : ProbeKey
  ans : Option ProbeAns
  /-- The delay accumulator that its answer enters (21_observe.md R373). -/
  acc : Nat
deriving DecidableEq, Repr

/-- A context's states in a slot, coded 0 to 9 (18_fault.md R331, 04_context.md R87). -/
inductive CState where
  | free | ready | parkedReg | parkedWit | parkedJoin | departing | inFlight | refused | admitted | trapped
deriving DecidableEq, Repr

/-- How far an instruction that waits in several steps has come (09_group.md R189, 08_frame.md R171, R173,
10_barrier.md R201, 17_page.md R325, 18_fault.md R339, 05_scalar.md R123). -/
inductive Stage where
  | none
  /-- JOIN at the home, count nonzero: the frame's tile offset (R173 step 2). -/
  | joinParked (off : Nat)
  /-- JOIN sent to another home (R173). -/
  | joinProxied
  /-- JOIN, count found 0: waits for fwit (R173 step 3). -/
  | joinWit (fwit : Word)
  /-- GSYNC, arrival sent (R189 step 1): the record's rank and offset. -/
  | gsyncSent (rank off : Nat)
  /-- GSYNC, waiting for the phase (R189 step 2). -/
  | gsyncPhase (rank off phase : Nat)
  /-- GSYNC, waiting for pwit (R189 step 3). -/
  | gsyncWit (pwit : Word)
  /-- A SPAWN of slot 0 whose increment is posted and that waits for a free slot (R171). -/
  | spawnWait (wit : Word)
  /-- GANG, waiting for the other members (R201): the size, this tile's position, the completion slot's offset and the
  instruction's word. -/
  | gang (m i slot : Nat) (w : Word32)
  /-- CWAIT, waiting for its transfer's output witness (13_channel.md R258). -/
  | drain (wit : Word)
  /-- SFENCE.VMA: the nodes whose acknowledgement is missing (R325). -/
  | sfence (tiles fields : List Nat)
  /-- PREEMPT: the gate is closed (R339). -/
  | preempt
  /-- WFI (R123). -/
  | wfi
deriving DecidableEq, Repr

/-- What a parked context waits for (04_context.md R88): the state it is parked in ends when this does. -/
inductive Wait where
  /-- An event ends the wait and makes the context ready. -/
  | event
  /-- A register that an instruction needs, empty (03_encoding.md R60). -/
  | reg (d : Dest)
  /-- Every register full (R61), and every access answered. -/
  | full
  /-- The reply to an access (04_context.md R94). -/
  | reply
  /-- A witness (07_witness.md R144 to R147). -/
  | wit (w : Word)
  /-- The class counts a wait field selects (R152), or the count C3 alone (R151). -/
  | counts (wt : BitVec 2)
  | c3
  /-- A free entry of the journal (05_scalar.md R109). -/
  | journal
  /-- An access to an offset of the tile's own rank that the home holds (07_witness.md R412). -/
  | held (off : Nat)
  /-- A range of another rank, read by a mill core, that is not yet copied (19_tile.md R350). -/
  | range (rank off : Nat)
  /-- A place for a rank in the tile's map. -/
  | map (rank : Nat)
  /-- A barrier slot of the tile's scratchpad at an offset: a phase other than the token's (10_barrier.md R196). -/
  | slot (off : Nat) (token : Bool)
  /-- A copy transfer's end, by its sequence (13_channel.md R258). -/
  | transfer (seq : Nat)
  /-- A register of another slot's packet (03_encoding.md R61): the slot and the doubleword. -/
  | word (c i : Nat)
  /-- The reply to the context's earlier KAPPEND (15_kernel_instructions.md R299). -/
  | append
deriving DecidableEq, Repr

/-- The trap record of a light slot (18_fault.md R331). -/
structure TrapRec where
  achk : Bool
  cause : Nat
  tval : Word
  epc : Word
  tick : Word
deriving DecidableEq, Repr

/-- What travels with a context (04_context.md R89, R90): the packet's fields. -/
structure Thread where
  gtid : Word
  pc : Word
  x : Vector Word 32
  f : Vector Word 8
  /-- fepol (03_encoding.md R62), in its CSR layout. -/
  fepol : Word
  /-- fcsr bits 7:0 (02_numbers.md R43). -/
  fcsr : BitVec 8
  pinned : Bool
  furrow : Bool
  pth : Nat
  bounce : Nat
  pcount : Nat
  run : Nat
  refuse : Nat
  /-- The own-store table (07_witness.md R150). -/
  own : Vector Word 4
  ownOver : Word
deriving DecidableEq, Repr

/-- A stream element as memory gave it: its bits, and for Q4N and F4S its scale code and group scale (11_stream.md
R206, R208). -/
structure Elem where
  raw : Nat
  code : Nat
  scale : Nat
deriving DecidableEq, Repr

/-- A stream state, one for each of f4 to f7 (11_stream.md R204 to R211). -/
structure Stream where
  /-- 0 unbound, 1 input, 2 output. -/
  dir : Nat
  /-- Format code and element width in bits (01_wafer.md R27, R205). -/
  fmt : Nat
  width : Nat
  base : Nat
  counts : List Nat
  strides : List Int
  /-- N of R206. -/
  total : Nat
  /-- Elements popped, pushed or claimed since binding or the last seek, and those of them performed (R210, R214). -/
  pos : Nat
  done : Nat
  sat : Bool
  scodes : Nat
  gscales : Nat
  /-- Input elements fetched ahead of their pop, by position (R211). -/
  fetched : Tbl Elem
  /-- Output places in push order, each with its number and its element's bits; none while a result is outstanding
  (06_float.md R138, R140). -/
  out : List (Nat × Option Nat)
  /-- The block whose scales a push has read: block, scale code, group scale (R208). -/
  blk : Option (Nat × Nat × Nat)
deriving DecidableEq, Repr

/-- A vector command queued or running (11_stream.md R213 to R219). -/
structure VCmd where
  id : Nat
  /-- funct5 and et. -/
  op : Nat
  et : Nat
  fd : FReg
  fs1 : FReg
  fs2 : FReg
  /-- Scalar operands as read at issue; none for a stream (R214). -/
  a : Option Word
  b : Option Word
  /-- The length, and the positions of A, B and Y at issue. -/
  n : Nat
  posA : Nat
  posB : Nat
  posY : Nat
  frm : BitVec 3
  /-- The tile cycle before which it does not complete (11_stream.md R219). -/
  due : Nat
  /-- The elements computed so far, their flags, and a reduction's lanes (R211, R216, 02_numbers.md R44, R56). -/
  next : Nat
  fl : BitVec 5
  acc : List (Option Nat)
deriving DecidableEq, Repr

/-- A slot and what it holds. -/
structure Ctx where
  th : Thread
  st : CState
  /-- What a parked state waits for (04_context.md R88). -/
  wait : Wait
  /-- True while the slot is reserved by a steal round (08_frame.md R175). -/
  reserved : Bool
  trap : TrapRec
  pend : List Producer
  probes : List Probe
  stage : Stage
  /-- Posted-store class counts (07_witness.md R152). -/
  c1 : Nat
  c2 : Nat
  c3 : Nat
  /-- A walk's fault for this slot's instruction (17_page.md R322): the page's address, and whether it is an access
  fault rather than a page fault. -/
  walkFault : Option (Nat × Bool)
  /-- The tile cycle of the first issue of a load that is being replayed (21_observe.md R373). -/
  replayFrom : Option Nat
  /-- That load has missed in the home cache (R373). -/
  missed : Bool
  /-- The migrating access as its source translated it: its pointer and the offset at the rank where the context has arrived
  (04_context.md R91, 17_page.md R324). -/
  carried : Option (Word × Nat)
  /-- The cycle at which a refused packet is resent (04_context.md R93). -/
  backoff : Option Nat
  /-- The packet was forwarded by slot 0 (18_fault.md R332): refused without limit, never proxied. -/
  forwarded : Bool
  /-- The rank the packet under way goes to, and whether MIGRATE sends it, so that bounce stays (R91). -/
  target : Nat
  explicit : Bool
  /-- The HOME class and bank of the access that departs, for the delay accumulators (21_observe.md R373). -/
  macc : Nat
  /-- The eighth refusal has come: the access is proxied in this slot (R93, R94). -/
  proxyNext : Bool
  /-- The next issue passes without a breakpoint check (21_observe.md R378). -/
  bpSkip : Bool
  vcmds : List VCmd
  /-- VSTAT's fields of the last ended command (11_stream.md R221): done, status, pend. -/
  vdone : Nat
  vstatus : Nat
  vpend : Bool
  streams : Vector Stream 4
  /-- The instruction retired in the step under way (model's own). -/
  retired : Bool
  uiepc : Word
  uixid : BitVec 16
  handler : Bool
  /-- The PC and stage of the waiting instruction that a completion interrupt has come before (13_channel.md R259). -/
  kept : Option (Word × Stage)
  /-- The slot's prefetched instruction line: its number in the tile's DRAM and its 64 bytes (05_scalar.md R124; log 18, DEDUCED). -/
  pref : Option (Nat × List Byte)
  /-- The own-store table was inherited through a continuation, so that it may name the current rank
  (08_frame.md R170, 07_witness.md R155 item 5). -/
  inherited : Bool
  /-- TKILL has ended the context, which leaves when its accesses have (08_frame.md R182). -/
  killed : Bool
deriving DecidableEq, Repr

/-- Slot 0's privileged registers, and those of a mill core (05_scalar.md R120, 16_queue.md R312). mstatus holds the
writable fields in their layout; mip holds the read-write pending bits 1, 3, 18, 19 and 20 (18_fault.md R328). -/
structure Priv where
  mode : Mode
  mstatus : Word
  stvec : Word
  mtvec : Word
  sscratch : Word
  mscratch : Word
  sepc : Word
  mepc : Word
  scause : Word
  mcause : Word
  stval : Word
  mtval : Word
  medeleg : Word
  mideleg : Word
  mie : Word
  mip : Word
  satp : Word
deriving DecidableEq, Repr

/-- A cached translation (17_page.md R321): the page's first address, log2 of its size, whether it serves space 2,
the asid and the leaf. -/
structure TlbEntry where
  va : Nat
  size : Nat
  host : Bool
  asid : Nat
  leaf : Word
deriving DecidableEq, Repr

/-- A page walk of a field (R322): the page it serves, the level whose table it reads next, the table's global
physical address, and the slots that replay on it. -/
structure Walk where
  va : Nat
  host : Bool
  asid : Nat
  level : Nat
  table : Nat
  waiters : List (Nat × Nat)
  /-- An SFENCE.VMA has invalidated its field's TLB since it started (R325). -/
  stale : Bool
deriving DecidableEq, Repr

/-- For whom an engine translates and writes (12_matrix.md R234, 13_channel.md R253): the mode accesses translate in
(none: untranslated), whether the slot was slot 0, and the GTID (14_kernel.md R275). -/
structure EngWho where
  mode : Option Mode
  full : Bool
  gtid : Word
deriving DecidableEq, Repr

/-- The engine command behind a write (10_barrier.md R198): matrix or copy, its ticket's sequence, the bytes written,
and the barrier slot's pointer, 0 for none. -/
structure EngRef where
  mx : Bool
  seq : Nat
  bytes : Nat
  slot : Word
  who : EngWho
deriving DecidableEq, Repr

/-- Where a journal entry's store goes (05_scalar.md R109). -/
inductive JDst where
  | rank (r : Nat)
  | host
  | peer
deriving DecidableEq, Repr

/-- An entry of the posted-store journal (R109): its index, its destination and sequence, its issue tick
(07_witness.md R146), the slot whose class count it holds (R152; none for an engine or a context that has left), and
what a record about it needs. -/
structure JEntry where
  idx : Nat
  dst : JDst
  seq : Nat
  tick : Nat
  slot : Option Nat
  cls : Nat
  gtid : Word
  /-- The drain watchdog has reported it (18_fault.md R336). -/
  checked : Bool
  eng : Option EngRef
  /-- The global physical address, or the address or pointer in space 2 or 3 (R336). -/
  addr : Word
deriving DecidableEq, Repr

/-- An entry of the refusal table (18_fault.md R333). Its layout has no place for what R353 names beside the record, which stands
here (log 116, DESIGN CHOICE). -/
structure RefEntry where
  valid : Bool
  ackpend : Bool
  cause : Nat
  dst : Nat
  count : Nat
  first : Nat
  last : Nat
  addr : Word
  gtid : Word
  pwit : Word
  /-- The tile's coordinate and rank, and the module's map generation, at the first refusal (19_tile.md R353). -/
  named : Nat × Nat × Nat
deriving DecidableEq, Repr

/-- A home's refusal mark for one source rank (07_witness.md R147): the earliest uncleared refused sequence and its
journal index, and the latest refused sequence (R334). -/
structure Mark where
  seq : Nat
  jidx : Nat
  latest : Nat
deriving DecidableEq, Repr

/-- The memory operations a home performs in one instant. -/
inductive AtomOp where
  | add | and | or | xor | min | max | minu | maxu | fadd
deriving DecidableEq, Repr

/-- A posted operation (07_witness.md R158, R163, R165, 08_frame.md R172). -/
inductive PostOp where
  | store (bytes : List Byte)
  | atomic (op : AtomOp) (v : Word)
  | tdec
  | frameExit (w : Word)
  /-- A copy channel's write (13_channel.md R255): to the rank's scratchpad or its DRAM, then the mirror word's offset and the
  transfer's number (issuing tile × 2^16 + sequence); without bytes it writes the mirror word's first 0. -/
  | copy (bytes : List Byte) (spad : Bool) (mirror : Option (Nat × Nat))
deriving DecidableEq, Repr

/-- A posted operation on its way to, or held at, its home: what it does and where, its pair and sequence, its
journal index at the issuing tile, and the issuing partition, context and coordinate (R143, R147). A bridge's has
source 4,095 and a ticket for its index. -/
structure Posted where
  op : PostOp
  rank : Nat
  off : Nat
  src : Nat
  srcTile : Nat
  seq : Nat
  jidx : Nat
  part : Option Nat
  gtid : Word
  /-- The stream position of a contained kernel entry that stored, if one did (14_kernel.md R276). -/
  kpos : Option Nat
  /-- The HOME class and bank, for the delay accumulators (21_observe.md R373). -/
  acc : Nat
deriving DecidableEq, Repr

/-- The returning atomics (07_witness.md R164). -/
inductive RetOp where
  | add | swap | cas
deriving DecidableEq, Repr

/-- The group instructions (09_group.md R184). -/
inductive GroupOp where
  | create | join | leave | sync | count | dissolve
deriving DecidableEq, Repr

/-- The barrier instructions that can be proxied (10_barrier.md R193). -/
inductive BarOp where
  | init (v : Word) | arrive | test (token : Bool) | expect (n : Nat) | complete (n : Nat) | retire
deriving DecidableEq, Repr

/-- What a proxied access does at its home (04_context.md R94). -/
inductive ProxOp where
  | load (n : Nat)
  | ret (op : RetOp) (v cmp : Word)
  | join
  | treap
  | tarm (n : Word)
  | group (op : GroupOp) (w : Word)
  | barrier (op : BarOp)
deriving DecidableEq, Repr

/-- The slot that waits for a message's answer, and the number of its result or probe. -/
structure Who where
  agent : Agent
  slot : Nat
  id : Nat
deriving DecidableEq, Repr

/-- A proxied request (R94): the access, its pointer, the presented witness, the context's own-store entry for the
owner (R151) and the requesting partition (17_page.md R320). -/
structure ProxyReq where
  who : Who
  op : ProxOp
  rank : Nat
  off : Nat
  ptr : Word
  wit : Word
  own : Word
  part : Option Nat
deriving DecidableEq, Repr

/-- A proxy's reply: a value, or a fault with its cause and trap value (R94, 18_fault.md R329). -/
inductive ReplyVal where
  | value (w : Word)
  | fault (cause : Nat) (tval : Word)
  /-- A group arrival's reply: phase, whether it completed, pwit (09_group.md R189). -/
  | phase (phase : Nat) (done : Bool) (pwit : Word)
deriving DecidableEq, Repr

/-- A node of the network (01_wafer.md R20): a tile, or an edge bridge with the mill, windows and host ports it
carries. -/
inductive Node where
  | tile (t : Nat)
  | bridge (b : Nat)
deriving DecidableEq, Repr

/-- What a message carries. -/
inductive Body where
  /-- A migrating context (04_context.md R89); forwarded by slot 0 or not (18_fault.md R332). -/
  | migrate (th : Thread) (slot : Nat) (forwarded : Bool) (carried : Option (Word × Nat))
  /-- The destination's notice to the source slot (R91 step 3). -/
  | notice (slot : Nat) (accepted : Bool)
  /-- The adopter's notice to a sender (R95). -/
  | ownerMoved (rank tile gen : Nat)
  /-- The mill's new map entry (19_tile.md R350). -/
  | mapEntry (rank tile gen : Nat)
  | proxyReq (r : ProxyReq)
  | proxyRep (who : Who) (own : Word) (v : ReplyVal)
  | posted (p : Posted)
  /-- A settlement notice (R109): the journal index, and whether the operation was applied. -/
  | settled (jidx acc : Nat) (applied : Bool)
  /-- A refusal notice (18_fault.md R333). -/
  | refusal (jidx cause dst seq : Nat) (addr : Word) (gtid : Word) (acc : Nat)
  /-- An acknowledgement to the home: source rank, last (R334). -/
  | refAck (src dst last : Nat)
  | refAckAns (dst : Nat) (cleared : Bool)
  | probe (who : Who) (key : ProbeKey) (wait : Bool)
  | probeAns (who : Who) (ans : ProbeAns)
  /-- An IRQSEND message (R337): the interrupt code. -/
  | irq (rank code : Nat)
  /-- A fault record's payload on its way to the ring's home (R335). -/
  | faultRec (part : Nat) (payload : List Word)
  /-- A trace record's payload (21_observe.md R375). -/
  | traceRec (part srcTile : Nat) (payload : List Word)
  /-- An SFENCE selection to a tile TLB or a field TLB (17_page.md R325): space 2 or not and the address, or all;
  the asid, or all. -/
  | sfence (by_ : Nat) (field : Option Nat) (va : Option (Bool × Nat)) (asid : Option Nat)
  /-- The receiver drains what it translated before: journal entries (index, tick), producers, departing contexts,
  the field's walks, and the matrix operations
  accepted (seq), whose operands R234 translated. -/
  | sfenceDrain (by_ : Nat) (field : Option Nat) (stores : List (Nat × Nat)) (reads : List Nat) (gone : List Word)
      (walks mx : List Nat)
  | sfenceAck (tile : Nat) (field : Option Nat)
  /-- A read or atomic of space 3 on its way to a bridge (05_scalar.md R108, 20_link.md R365): the issuing partition and
  the pointer. -/
  | peerReq (who : Who) (part : Option Nat) (ptr : Word) (op : ProxOp)
  /-- A posted store or atomic of space 3: tile, journal index, partition, pointer (R365). -/
  | peerPost (tile jidx : Nat) (part : Option Nat) (ptr : Word) (op : PostOp)
  /-- A KAPPEND on its way to the partition's window: the rank and slot kind it comes from, the record; no words:
  a restart (15_kernel_instructions.md R299). -/
  | kappend (who : Who) (part rank : Nat) (light : Bool) (words : List Word)
  /-- The window's reply (R300). -/
  | kreply (who : Who) (w : Word)
  /-- A QWAKE on its way to its bridge (16_queue.md R311): the issuing partition, the capability, rs2. -/
  | qwake (part : Option Nat) (cap : List Word) (v : Word)
  /-- An LPOST, LARM or LCNT on its way to its bridge (20_link.md R367): 0, 1 or 2, the issuing partition, the handle,
  the record or descriptor, and LARM's rs2. -/
  | linkReq (who : Who) (op : Nat) (part : Option Nat) (handle words : List Word) (v : Word)
  | linkRep (who : Who) (w : Word)
  /-- A neighbour's report to the mill (19_tile.md R347): the tile, and whether its core was found dead. -/
  | suspect (tile : Nat) (core : Bool)
  /-- A squash notice (14_kernel.md R278): the partition, the faulted position, and the younger ones squashed with it. -/
  | squash (part : Nat) (pos : List Nat)
  /-- A steal request and its answer, a deque entry of four doublewords (08_frame.md R175). -/
  | stealReq (thief : Nat)
  | stealAns (entry : Option (List Word))
deriving DecidableEq, Repr

/-- A message under way, the delay field of its routing header (21_observe.md R372), and the path it takes, when it answers a
packet, that packet's reversed (empty: the path of R19). The rank is the one it is
addressed to, if it follows a rank to its adopter (04_context.md R95). -/
structure Msg where
  id : Nat
  src : Node
  dst : Node
  rank : Option Nat
  delay : Nat
  back : List (Nat × Bool)
  /-- The module's cycle at which it was sent (model's own). -/
  sent : Nat
  body : Body
deriving DecidableEq, Repr

/-- Where the answer to a packet goes: the node that sent it, the packet's path reversed, and its delay field, which the
answer continues (04_context.md R91, 21_observe.md R372). -/
structure Ret where
  node : Node
  path : List (Nat × Bool)
  delay : Nat
deriving DecidableEq, Repr

/-- Who reads a home's memory by itself, without a request: a slot of the tile, a walk of a field (the page, space 2 or not,
the asid), a tile's matrix engine, a copy transfer, a tile's engines for a decrement, or a mill core. -/
inductive Reader where
  | slot (c : Nat)
  | walk (f va : Nat) (host : Bool) (asid : Nat)
  | matrix (t : Nat)
  | copy (t seq : Nat)
  | decrement (t : Nat)
  | mill (k : Nat)
deriving DecidableEq, Repr

/-- What a home holds (07_witness.md R412, 08_frame.md R177, 19_tile.md R350), each with the module's cycle since which it is
held (21_observe.md R372). -/
inductive Held where
  | posted (p : Posted) (ret : Ret) (since : Nat)
  | proxy (r : ProxyReq) (ret : Ret) (since : Nat)
  /-- The place in order of an access that its reader makes again once it may perform: the offset it reads. -/
  | mark (by_ : Reader) (off : Nat)
deriving DecidableEq, Repr

/-- A proxy request in the owner's buffer (04_context.md R94): the number of the message that brought it, and the module's
cycle at which it came. -/
structure Buffered where
  id : Nat
  req : ProxyReq
  ret : Ret
  since : Nat
deriving DecidableEq, Repr

/-- A wait probe of a shell, an engine, a window or a bridge (07_witness.md R145, R166): its number, the node that asks, the
witness, and the answer when it has come. -/
structure Ask where
  id : Nat
  node : Node
  wit : Word
  ans : Option ProbeAns
deriving DecidableEq, Repr

/-- A wait probe, or a proxied JOIN, held by a shell (R145, 08_frame.md R173). -/
structure HeldProbe where
  ret : Ret
  /-- The module's cycle since which it is held. -/
  since : Nat
  who : Who
  key : ProbeKey
  /-- A JOIN waiting for the frame at this offset (08_frame.md R173). -/
  join : Option Nat
  /-- A TREAP whose frame's count was 0: the key is the frame's fwit (R181). -/
  treap : Bool
  /-- The own-store entry that the reply of a JOIN or TREAP removes (07_witness.md R151). -/
  own : Word
  /-- The pointer of a JOIN or TREAP. -/
  ptr : Word
deriving DecidableEq, Repr

/-- The state of a rank that moves to its adopter (07_witness.md R143, R147, 17_page.md R320, R323). -/
structure RankBox where
  issue : Tbl Nat
  settled : Tbl Nat
  marks : Tbl Mark
  /-- 1 poisoned, 2 lost fallow data, for each 64 KiB range (R323). -/
  poison : Tbl Nat
  /-- The admission list's entries by index: partition, first offset, end offset (R320). -/
  admitRange : Tbl (Nat × Nat × Nat)
deriving DecidableEq, Repr

/-- A tile's life (19_tile.md R344). -/
inductive Life where
  | testing | bad | spare | ranked | adopted | suspect | fallow
deriving DecidableEq, Repr

/-- A run-list descriptor (08_frame.md R177). -/
structure Desc where
  pc : Word
  tag : Nat
deriving DecidableEq, Repr

/-- A packet in the arrival queue (04_context.md R92); a yielded one skips its arrival check (08_frame.md R174). -/
structure Queued where
  th : Thread
  yielded : Bool
  /-- The yielded context's table was inherited (R170). -/
  inherited : Bool
  /-- What a migrating context's access was translated to (17_page.md R324). -/
  carried : Option (Word × Nat)
deriving DecidableEq, Repr

/-- Where a steal round stands (08_frame.md R175). -/
inductive Steal where
  | idle
  /-- Reserved slot, directions tried, waiting for an answer. -/
  | asking (slot tried : Nat)
  /-- Until this tile cycle. -/
  | waiting (until_ : Nat)
deriving DecidableEq, Repr

/-- A delay accumulator (21_observe.md R374). -/
structure Acc where
  events : Nat
  cycles : Nat
deriving DecidableEq, Repr

/-- A bound furrow port (11_stream.md R224, R225): its context, its neighbours' directions, the tag, the two queues,
and whether a neighbour has retired (R226). An outbound place is none while its result is outstanding. -/
structure Furrow where
  gtid : Word
  up : Option Nat
  dn : Option Nat
  tag : Nat
  inq : List Word
  outq : List (Nat × Option Word)
  upGone : Bool
  dnGone : Bool
deriving DecidableEq, Repr

/-- What a tile keeps for a spilled context beside its packet and header fields (11_stream.md R212, 09_group.md R189,
18_fault.md R338, R340; log 28, DESIGN CHOICE): its stage, streams and VSTAT; where a departing context goes and how; whether an arrival
packet was a yielded one; the TICK of its trap. -/
structure Saved where
  stage : Stage
  wait : Wait
  target : Nat
  explicit : Bool
  forwarded : Bool
  macc : Nat
  proxyNext : Bool
  bpSkip : Bool
  inherited : Bool
  carried : Option (Word × Nat)
  yielded : Bool
  trapTick : Word
  streams : Vector Stream 4
  vdone : Nat
  vstatus : Nat
  vpend : Bool
  uiepc : Word
  uixid : BitVec 16
  handler : Bool
  kept : Option (Word × Stage)
deriving DecidableEq, Repr

/-- A copy transfer (13_channel.md R250 to R257). -/
structure Xfer where
  seq : Nat
  who : EngWho
  src : Word
  dst : Word
  sow : Bool
  irq : Bool
  xid : Nat
  len : Nat
  /-- The effective input witness (R253), and whether it has been found satisfied. -/
  win : Word
  ready : Bool
  handler : Word
  bslot : Word
  blog : Nat
  stride : Nat
  count : Nat
  first : Nat
  mirror : Nat
  /-- R257: 0 QUEUED, 1 RUNNING, 2 DONE, 3 WITNESS, 4 FAULT. -/
  status : Nat
  cause : Nat
  bshort : Bool
  blost : Bool
  wptr : Nat
  /-- The join of the witnesses of its writes, and the ranks whose mirror word has been set to 0. -/
  out : Word
  dealt : List Nat
  /-- The tile cycle before which its next write does not issue (R255 item 2). -/
  due : Nat
deriving DecidableEq, Repr

/-- A completion interrupt that waits for its context (13_channel.md R259): GTID, handler, xid. -/
structure CopyIrq where
  gtid : Word
  handler : Word
  xid : Nat
deriving DecidableEq, Repr

/-- A matrix operation (12_matrix.md R228 to R248). -/
structure MxOp where
  seq : Nat
  who : EngWho
  /-- The parameter block's eight doublewords (R229), and the keys in memory of A, B and D as translated at issue
  (R234). -/
  blk : List Word
  ka : Nat
  kb : Nat
  kd : Nat
  /-- A gang operation: the gang's formation and its number j in it (R245). -/
  gang : Option (Nat × Nat)
  /-- The tile cycle at which it entered the queue, and its effective priority since it left (R243). -/
  since : Nat
  prio : Nat
  /-- Its input witness was found satisfied (R239). -/
  ready : Bool
  /-- It overtook another (R244). -/
  overtaker : Bool
  /-- A running gang operation has started on every member (R245). -/
  started : Bool
  /-- R237: 0 QUEUED, 1 RUNNING, 2 SUSPENDED, 3 DONE, 4 GANG_ABORT, 5 CANCELLED, 6 WITNESS, 7 FETCH_FAULT. -/
  status : Nat
  /-- The status it will end with at its next k-step boundary, with cause, who and the cycle of the event (R238, R239, R247). -/
  stop : Option (Nat × Nat × Nat × Nat)
  cause : Nat
  pos : Nat
  bshort : Bool
  blost : Bool
  done : Nat
  /-- The block and the k-step that come next, the tile cycle at which that k-step is over (R228), and the block's
  accumulators with the conditions that arose, by row. -/
  block : Nat
  kstep : Nat
  due : Nat
  acc : List (Nat × BitVec 5)
  /-- Blocks computed and not yet written: output codes with their conditions (R228). -/
  outs : Tbl (List (Nat × BitVec 5))
  /-- The block whose output is being written, and the stores of it that have not been issued (R240). -/
  writing : Option (List (Nat × BitVec 5))
  left : List (Nat × List Byte)
  /-- Elements in which NV, OF, UF and NX arose, in the blocks written (R242). -/
  nv : Nat
  of_ : Nat
  uf : Nat
  nx : Nat
  out : Word
deriving DecidableEq, Repr

/-- A tile's place in a formed gang (10_barrier.md R201, 12_matrix.md R245): the formation's number, its size, the
position, the completion slot's offset, the next joint operation's number, and how earlier ones that this member has
not issued ended (status, cause, who, cycle). -/
structure GangOf where
  id : Nat
  size : Nat
  pos : Nat
  slot : Nat
  next : Nat
  ended : Tbl (Nat × Nat × Nat × Nat)
  /-- A member has left or was retired: status, cause, its position and the cycle (10_barrier.md R201). -/
  lost : Option (Nat × Nat × Nat × Nat)
deriving DecidableEq, Repr

/-- A partition's observation settings (21_observe.md R376, R378, R379): the sample period; the breakpoints by index, GTID, mask
and PC; the watchpoints by index, first address, length, mode, value and mask. -/
structure Observe where
  period : Nat
  breaks : Tbl (Word × Word × Word)
  watches : Tbl (Nat × Nat × Nat × Word × Word)
deriving DecidableEq, Repr

/-- What a tile has heard of a neighbour (19_tile.md R346, R347): consecutive heartbeats missed, consecutive ones with core-alive
0, and the rank and map generation that the last one carried. -/
structure Beat where
  missed : Nat
  dead : Nat
  rank : Nat
  gen : Nat
deriving DecidableEq, Repr

/-- What a tile had sent towards a retired tile's coordinate when it learnt of the adopter, and has to see accepted, refused or
settled before it sends to the adopter (19_tile.md R350): messages, journal entries (index, sequence), contexts in flight. -/
structure Former where
  msgs : List Nat
  stores : List (Nat × Nat)
  gone : List Word
deriving DecidableEq, Repr

/-- A tile (01_wafer.md R16). -/
structure Tile where
  life : Life
  /-- The life a suspect tile had before the first report (19_tile.md R345). -/
  before : Life
  coreAlive : Bool
  shellAlive : Bool
  rank : Option Nat
  cycles : Nat
  slots : Vector Ctx 16
  priv : Priv
  /-- Bridge registers and their full bits (03_encoding.md R58, 11_stream.md R222). -/
  bridge : Vector Word 16
  bfull : Vector Bool 16
  /-- arrcfg (04_context.md R92). -/
  pth0 : Nat
  adepth : Nat
  gate : Bool
  arrivals : List Queued
  /-- The deque: the ring index of its top entry and its count (08_frame.md R169; log 9, DESIGN CHOICE). -/
  dqTop : Nat
  dqCount : Nat
  runList : List Desc
  stealOff : Nat
  steal : Steal
  /-- Kind-0 contexts created by each slot (04_context.md R85). -/
  created : Tbl Nat
  /-- Rank-map entries received since reset, over State.baseMap, and their generation (04_context.md R95, R116). -/
  moved : Tbl Nat
  mapGen : Nat
  box : RankBox
  journal : List JEntry
  refusals : Vector RefEntry 32
  dtick : Nat
  /-- Home-cache lines present and fills under way, by line number (05_scalar.md R101, R110). -/
  lines : List Nat
  fills : List Nat
  /-- The tile TLB, most recently used first (17_page.md R321). -/
  tlb : List TlbEntry
  held : List Held
  heldProbes : List HeldProbe
  /-- The owner's buffer of proxy requests, at most 16 (04_context.md R94). -/
  proxyBuf : List Buffered
  acc : Tbl Acc
  /-- Trace records in flight, and those waiting for a place among the 16 (21_observe.md R375). -/
  traceFlight : Nat
  traceWait : List (List Word)
  /-- The stream position of the entry that holds each inbox place, 0 to 7 (15_kernel_instructions.md R296). -/
  inbox : Tbl Nat
  /-- What is kept for spilled contexts, by GTID. -/
  saved : Tbl Saved
  port : Option Furrow
  /-- The copy FIFO, the running transfers, the 16 most recently ended, latest first, and the accepted count
  (13_channel.md R253). -/
  copyQueue : List Xfer
  copyRun : List Xfer
  copyDone : List Xfer
  copySeq : Nat
  copyIrqs : List CopyIrq
  /-- Decrements of barrier slots that engines have to make (10_barrier.md R198). -/
  decs : List EngRef
  /-- The matrix queue, the running, the suspended and the 16 most recently ended operations, the accepted count and
  the condition counters NV, OF, UF and NX (12_matrix.md R234, R236, R242). -/
  mxQueue : List MxOp
  mxRun : Option MxOp
  mxHeld : Option MxOp
  mxDone : List MxOp
  mxSeq : Nat
  mxCount : Nat × Nat × Nat × Nat
  gang : Option GangOf
  /-- Scratchpad lines left uncorrectable by a soft error (26_prog_gangmatmul.md R405). -/
  badLines : List Nat
  /-- Completion arrivals of the gang wire on their way (10_barrier.md R202): slot offsets. -/
  wire : List Nat
  /-- Evacuation: the tile whose ranges are copied here, and the next range (19_tile.md R350). -/
  evac : Option (Nat × Nat)
  /-- What it has heard of each neighbour (19_tile.md R346, R347). -/
  beats : Tbl Beat
  /-- Neighbours this tile has reported in their present suspicion (R347). -/
  told : List Nat
  /-- The sample records created at tick edges and not yet sent (21_observe.md R376). -/
  samples : List (List Word)
  /-- Walks that ended in a fault for the tile's engines: the page, whether in space 2, and whether it is an access fault
  (17_page.md R322, 10_barrier.md R198, 13_channel.md R256). -/
  engFaults : List (Nat × Bool × Bool)
  /-- The home-cache lines that the matrix engine's fetch unit has pinned, at most 1,024 (12_matrix.md R239). -/
  pins : List Nat
  /-- The bytes that each copy transfer with a mirror word here has performed, by the transfer's number (13_channel.md R255). -/
  mirrors : Tbl Nat
  /-- The observation settings that have arrived here (21_observe.md R380). -/
  obs : Observe
  /-- The ranks the tile has held and lost since module reset (19_tile.md R352). -/
  was : List Nat
  /-- By an adopter's tile: what the tile waits for before it sends anything there (19_tile.md R350). -/
  former : Tbl Former
deriving DecidableEq, Repr

/-- A field: its clock's time and its TLB (19_tile.md R354, R355, 17_page.md R321, R322). -/
structure Field where
  tick : Nat
  /-- The reference time at which its last edge reached it, in periods of 1 ns (19_tile.md R355): FTIME counts from there. -/
  edge : Nat
  started : Bool
  /-- What the field's tiles and bridges reported at its last edges (07_witness.md R146), newest first. -/
  reports : List (Nat × Nat)
  tlb : List TlbEntry
  walks : List Walk
  stopped : Bool
  /-- The field has lost two wires of the tick grid (19_tile.md R354). -/
  gridLost : Bool
deriving DecidableEq, Repr

/-- States of a window entry (14_kernel.md R279): ready is renamed with the conditions of R271 met. -/
inductive WState where
  | renamed | issued | completed | faulted
deriving DecidableEq, Repr

/-- How far a window kind has come (15_kernel_instructions.md R288 to R291). -/
inductive KStage where
  | idle
  /-- Its input witness was found satisfied. -/
  | begun
  /-- KBIND's write or KSIGNAL's record is under way: the journal-like ticket. -/
  | writing (id : Nat)
  /-- KSIGNAL's record is written; KWAIT's next read is due at this TICK. -/
  | written
  | polled (tick : Nat)
deriving DecidableEq, Repr

/-- A window entry (14_kernel.md R263 to R279). -/
structure WEntry where
  pos : Nat
  /-- The kernel-instruction record (15_kernel_instructions.md R282). -/
  words : List Word
  st : WState
  /-- Physical buffers of the sources present, by operand; whether the producer had not retired at decode (R272). -/
  src : List (Option Nat)
  fresh : List Bool
  /-- Physical buffers of the destinations present, and those they replaced (R269). -/
  dst : List (Option Nat)
  old : List (Option Nat)
  /-- Buffers taken from free lists, oldest first: class, buffer, release witness (R278). -/
  taken : List (Nat × Nat × Word)
  /-- Ranks that have reported complete (R277). -/
  reported : List Nat
  /-- The output witness. -/
  out : Word
  /-- The fault: cause, reporting rank, trap value, GTID (R278, R298). -/
  cause : Nat
  rank : Nat
  tval : Word
  gtid : Word
  stage : KStage
deriving DecidableEq, Repr

/-- A partition's kernel window (14_kernel.md). -/
structure Window where
  /-- The arena (R266): offset, virtual base, buffers of each class 0 to 15. -/
  abase : Nat
  avbase : Nat
  counts : List Nat
  /-- Task blocks: virtual base, tile offset (22_host.md R386). -/
  tbva : Nat
  tboff : Nat
  /-- The status record's global physical address (R281). -/
  status : Nat
  /-- Speculative and committed maps: logical to physical buffers (R267). -/
  spec : Tbl Nat
  committed : Tbl Nat
  /-- Free lists of the classes, head first, with release witnesses (R268). -/
  free : Tbl (List (Nat × Word))
  /-- The output witness of the retired entry that last wrote each buffer (R277). -/
  lastWit : Tbl Word
  /-- The writer table (R275), which every tile of the partition holds alike. -/
  writers : Tbl Nat
  /-- Whether each decoded position was marked exposed (R275: a GTID names an entry). -/
  exposed : Tbl Bool
  entries : List WEntry
  /-- Raw regions that retired entries wrote, with their output witnesses (R272): space, first byte, end, witness. -/
  rawOut : List (Nat × Nat × Nat × Word)
  /-- Appended records that wait to decode, at most 64 (R299). -/
  queue : List (Nat × List Word)
  nextPos : Nat
  halted : Bool
  faultPos : Nat
  /-- The output witnesses of the retired entries that KSIGNAL and KFENCE wait for (15_kernel_instructions.md R290, R292). -/
  retiredWits : List Word
  full : Nat
  starved : Nat
  inbox : Nat
  retired : Nat
  /-- Refusals of squashed entries' stores since the last kind 1 record (R276, 18_fault.md R335). -/
  squashedStores : Nat
  /-- Reserved inbox places: the entry and the ranks in which it holds one (R274). -/
  reserved : List (Nat × List Nat)
  /-- The cycle counter of R281 that advances now, 0 to 2, and how many cycles the tick under way may still have (log 113, DESIGN CHOICE). -/
  stall : Option Nat
  left : Nat
deriving DecidableEq, Repr

/-- A partition (01_wafer.md R25) as FORM made it (22_host.md R386). -/
structure Part where
  fields : List Nat
  ranks : List Nat
  satp : Word
  /-- The fault ring: rank, offset, slots and next sequence (18_fault.md R335). -/
  faultRank : Nat
  faultOff : Nat
  faultSlots : Nat
  faultSeq : Nat
  /-- The trace ring; no slots: none (21_observe.md R375). -/
  traceRank : Nat
  traceOff : Nat
  traceSlots : Nat
  traceSeq : Nat
  /-- The latency page's tile offset (19_tile.md R356). -/
  lpoff : Nat
  /-- SHA-256 of the loaded container (22_host.md R394). -/
  image : Option (List Byte)
  /-- The observation settings as the mill last set them (21_observe.md R380). -/
  obs : Observe
  win : Window
deriving DecidableEq, Repr

/-- A core of the mill (16_queue.md R312, R313): the low halves of its registers stand in the context, with the
upper halves and tags here; its privileged registers; its fetch capability. -/
structure MillCore where
  ctx : Ctx
  hi : Vector Word 32
  tag : Vector Bool 32
  priv : Priv
  fetch : Word128
  /-- The capability through which its last access has faulted, until the firmware has recorded the fault (R307; log 62, UNVERIFIED). -/
  blame : Option Word128
deriving DecidableEq, Repr

/-- A queue record (16_queue.md R306): state 0 free, 1 live, 2 faulted; the notify rank is a rank of the module. A LINK
queue keeps the next serial it gives (20_link.md R366). -/
structure Queue where
  state : Nat
  gen : Nat
  base : Word
  owner : Nat
  rights : Nat
  length : Nat
  kind : Nat
  pidx : Nat
  doorbell : Word
  notify : Nat
  rejects : Nat
  cause : Nat
  fseq : Nat
  serial : Nat
deriving DecidableEq, Repr

/-- A doorbell on its way (16_queue.md R309): its queue, the producer index, the port its store leaves by, what the queue's record
held when the wake was accepted, and the store's ticket once it is posted. -/
structure Bell where
  q : Nat
  idx : Nat
  port : Nat
  part : Nat
  kind : Nat
  doorbell : Word
  notify : Nat
  ticket : Option Nat
deriving DecidableEq, Repr

/-- A mailbox (22_host.md R383): the length of the request being served, 0 when idle; the request and the response
buffer; the ranks at which the change of an OBSERVE request has yet to arrive (21_observe.md R380), none before it is accepted. -/
structure Mailbox where
  busy : Nat
  req : Memory
  resp : Memory
  left : Option (List Nat)
deriving DecidableEq, Repr

/-- A suspicion the mill holds (19_tile.md R347, R348): the tick of the first report, the live neighbours counted
then, those of them that reported, whether one found the core dead, whether the drain watchdog named the tile, and whether the
vote has passed, so that the tile leaves with the tick (R357). -/
structure Suspicion where
  first : Nat
  live : List Nat
  by_ : List Nat
  core : Bool
  watchdog : Bool
  passed : Bool
deriving DecidableEq, Repr

/-- What the mill reports through the management connector (01_wafer.md R22, R411, 19_tile.md R348, R354). A report about tiles names
each by its coordinate and its rank, with the module's map generation (R353). -/
inductive Report where
  | gradeNotMet
  | sparesRanked (n : Nat)
  | spareDeficit (n : Nat)
  | cleared (coord rank gen : Nat)
  | wire (field w : Nat)
  | noPath (src dst : Nat × Nat) (gen : Nat)
deriving DecidableEq, Repr

/-- The mill's own state: firmware verified, mailbox accepted, grade not met, spare deficit (22_host.md R383, R392),
the module resets so far, which number the keys drawn (16_queue.md R303), the signatures made (R394), the customer keys
installed by slot (R387) and the reports given. -/
structure Mill where
  fwok : Bool
  ready : Bool
  gnm : Bool
  sdef : Bool
  resets : Nat
  signatures : Nat
  keys : Tbl (List Byte)
  reports : List Report
  /-- The tiles that fail the self-test of this reset (01_wafer.md R21). -/
  failed : List Nat
  /-- The messages under way that the mill has reported to have no path (01_wafer.md R411). -/
  stuck : List Nat
deriving DecidableEq, Repr

/-- A packet of the link (20_link.md R360): its header's fields and its payload. -/
structure Lft where
  cls : Nat
  op : Nat
  dst : Nat
  src : Nat
  path : Nat
  spart : Nat
  gen : Nat
  seq : Nat
  pkt : Nat
  stamp : Nat
  off : Nat
  total : Nat
  payload : List Byte
deriving DecidableEq, Repr

/-- For whom the link sends (R365, R368): a posted store or atomic by its tile and journal index, or a bridge's ticket
with tile 4,095, and a read or returning atomic of a context, each with where its answer goes and the cycle it reached the
bridge; a work record by its queue, serial and the queue's generation; nobody, for a reply. -/
inductive LOrg where
  | post (tile jidx : Nat) (ret : Ret) (since : Nat)
  | read (who : Who) (ptr : Word) (ret : Ret) (since : Nat)
  | record (q serial gen : Nat)
  | none
deriving DecidableEq, Repr

/-- A packet sent or to be sent, the TICK of its last sending and its resends (R368). -/
structure LSent where
  p : Lft
  org : LOrg
  at_ : Nat
  resends : Nat
deriving DecidableEq, Repr

/-- A Class M connection (R362, R368), keyed by partition × 2^18 + peer: whether the set-up exchange has opened it, the
exchange's last TICK and its unanswered packet; the next sequence, what waits for the window and what is unacknowledged,
oldest first; its last use. -/
structure Conn where
  up : Bool
  setAt : Option Nat
  setup : Option LSent
  next : Nat
  unsent : List LSent
  flight : List LSent
  used : Nat
deriving DecidableEq, Repr

/-- The receiving side of a peer's connection, with the same key: the next sequence to place, the packets ahead of it,
each with the access that a reply answers, the sequences refused, and its last use. -/
structure RxConn where
  expect : Nat
  ahead : Tbl (Lft × Nat)
  bad : List Nat
  used : Nat
deriving DecidableEq, Repr

/-- A Class S message being received (R368), keyed by partition × 2^50 + peer × 2^32 + identifier: its length, the
packets placed, since when a gap is open, and whether the receiver has released it (R370). -/
structure RxMsg where
  total : Nat
  got : List Nat
  gap : Option Nat
  released : Bool
deriving DecidableEq, Repr

/-- A landing region (R363, R364). -/
structure Region where
  armed : Bool
  gen : Nat
  base : Word
  rights : Nat
  len : Nat
  bslot : Word
  lastArm : Option Nat
deriving DecidableEq, Repr

/-- A placement under way (R363, R368): the store's ticket, its bytes, the partition and slot it decrements, the region,
and what is acknowledged when it has performed: a packet of a peer, or a get's record. Without a ticket: only a decrement,
of a put's acknowledged bytes. Or a record's completion word (R369). -/
structure Placing where
  ticket : Option Nat
  bytes : Nat
  part : Nat
  bslot : Word
  region : Option Nat
  ack : Option Lft
  record : Option (Nat × Nat × Nat)
  word : Bool
deriving DecidableEq, Repr

/-- A posted work record (R366, R368): its words; whether it runs; its Class S message identifier and packets in
flight; packets not yet acknowledged, or bytes not yet landed; the TICK of the last progress; a get's output witness;
the status it ends with; its queue's generation; whether it had fired when its queue was revoked; and the ticket of its
completion word. -/
structure Work where
  q : Nat
  serial : Nat
  part : Nat
  words : List Word
  running : Bool
  msg : Nat
  flight : List LSent
  left : Nat
  progress : Nat
  out : Word
  status : Option Nat
  qgen : Nat
  fired : Bool
  word : Option Nat
deriving DecidableEq, Repr

/-- A routing-table entry (R361): the peer's IPv6 address and its paths, each a port and a UDP source port. -/
structure Peer where
  addr : List Byte
  paths : List (Nat × Nat)
deriving DecidableEq, Repr

/-- A packet that left a port (R359): port, UDP source port, IPv6 destination, traffic class, the LFT packet, and the whole
frame. -/
structure Frame where
  port : Nat
  udp : Nat
  addr : List Byte
  tc : Nat
  lft : List Byte
  eth : List Byte
deriving DecidableEq, Repr

/-- The link (R358 to R371): the module's endpoint identifier, the routing table, the connections and the differences
of TICK to each peer (this module's less the peer's, modulo 2^16), the landing regions and the placements under way,
the messages being received, the work records, the reads and returning atomics whose reply is missing with their
connection, the next Class S identifier, the frames dropped, and the packets that left, latest first. -/
structure Link where
  endpoint : Option Nat
  routes : Tbl Peer
  conns : Tbl Conn
  rxConns : Tbl RxConn
  diffs : Tbl Nat
  regions : Tbl Region
  placing : List Placing
  rxMsgs : Tbl RxMsg
  works : List Work
  reads : Tbl (Nat × LOrg)
  nextMsg : Nat
  drops : Nat
  frames : List Frame
deriving DecidableEq, Repr

/-- What happens next: an event, or the turn of an agent (log 1, DESIGN CHOICE). -/
inductive Next where
  | event (i : Instr)
  | turn (a : Agent)
deriving DecidableEq, Repr

/-- The module. -/
structure State where
  focus : Agent
  agenda : List Next
  nextId : Nat
  freeCount : Nat
  /-- The module's cycle: the cycle count of the tile that is ahead (model's own, log 1, DESIGN CHOICE). -/
  clock : Nat
  /-- The time of the 1 GHz references, in periods since the grid's start (19_tile.md R355; log 117, DESIGN CHOICE). -/
  ns : Nat
  /-- The grade's exposed count, 900 or 850 (00_scope.md R1). -/
  grade : Nat
  fusedBad : List Nat
  fusedSpare : List Nat
  mem : Memory
  tiles : Tbl Tile
  fields : Tbl Field
  /-- The mill's rank-to-coordinate map and its generation (R21, 19_tile.md R349), and the map reset gave. -/
  rankTile : Tbl Nat
  baseMap : Tbl Nat
  gen : Nat
  /-- Ranks without an adopter and their stand-ins (19_tile.md R351). -/
  standIn : Tbl Nat
  /-- For each rank without an adopter, its retired tile and what it was retired for (R349 step 6). -/
  lost : Tbl (Nat × Nat)
  net : List Msg
  /-- The probes of shells, engines, windows and bridges (07_witness.md R145, R166). -/
  asks : List Ask
  parts : Tbl Part
  mills : Tbl MillCore
  /-- Posted stores of space 2 under way: issuing tile, journal index, host address, bytes (07_witness.md R146); a
  bridge's has tile 4,095 and its ticket. -/
  hostWrites : List (Nat × Nat × Nat × List Byte)
  /-- Posted stores the bridges issued and that have not settled: ticket, bridge, issue tick (07_witness.md R146); and
  the tickets of those that were refused. -/
  bridgeOut : Tbl (Nat × Nat)
  bridgeRefused : List Nat
  /-- The tags of bridge SRAM: the 16-byte units whose tag is 1, rising (16_queue.md R312). -/
  sramTags : List Nat
  mill0 : Mill
  /-- Queue records by number (16_queue.md R306), and the doorbells under way. -/
  queues : Tbl Queue
  bells : List Bell
  /-- The mailboxes: ports 0 and 1, and 2 for the management connector (22_host.md R383, R395); the ports' MSI-X
  tables, and the MSI-X signals given, each a port and a vector, latest first. -/
  boxes : Tbl Mailbox
  msixTables : Tbl Memory
  msix : List (Nat × Nat)
  /-- What CXL.mem reads returned, latest first: port, address, and the data, none when marked poisoned (R388). -/
  hostData : List (Nat × Nat × Option (List Byte))
  /-- Suspicions by tile (19_tile.md R348). -/
  suspects : Tbl Suspicion
  /-- Islands whose operating point the mill has lowered, with how often (01_wafer.md R15; log 8, DEDUCED). -/
  points : Tbl Nat
  link : Link
deriving DecidableEq, Repr

/-! The module right after its reset input (22_host.md R392), with nothing loaded. A register the spec gives no
reset value for holds zero (log 5, DESIGN CHOICE). -/

/-- A context's registers before any context is created in the slot (log 5, DESIGN CHOICE); the status word has the reset values
of R90. -/
def Thread.reset : Thread :=
  ⟨0, 0, Vector.replicate 32 0, Vector.replicate 8 0, 0, 0, false, false, 4, 0, 0, 16, 0, Vector.replicate 4 0, 0⟩

/-- An unbound stream register (11_stream.md R204). -/
def Stream.unbound : Stream := ⟨0, 0, 0, 0, [], [], 0, 0, 0, false, 0, 0, [], [], none⟩

def TrapRec.none : TrapRec := ⟨false, 0, 0, 0, 0⟩

/-- A free slot (R84). -/
def Ctx.free : Ctx :=
  ⟨Thread.reset, .free, .event, false, TrapRec.none, [], [], .none, 0, 0, 0, none, none, false, none, none, false, 0, false, 0, false,
   false, [], 0, 0, false,
   Vector.replicate 4 Stream.unbound, false, 0, 0, false, none, none, false, false⟩

/-- Slot 0 leaves reset in M mode, MPP 11 (R120); satp 0 (17_page.md R316). -/
def Priv.reset : Priv := ⟨.m, 0x1800#64, 0, 0, 0, 0, 0, 0, 0, 0, 0, 0, 0, 0, 0, 0, 0⟩

def RankBox.empty : RankBox := ⟨[], [], [], [], []⟩

def RefEntry.empty : RefEntry := ⟨false, false, 0, 0, 0, 0, 0, 0, 0, 0, (0, 0, 0)⟩

/-- No sampling, breakpoint or watchpoint (21_observe.md R376, R378, R379). -/
def Observe.none : Observe := ⟨0, [], []⟩

/-- A tile at reset: in self-test (19_tile.md R345), holding no rank. -/
def Tile.reset : Tile :=
  ⟨.testing, .testing, true, true, none, 0, Vector.replicate 16 Ctx.free, Priv.reset, Vector.replicate 16 0,
   Vector.replicate 16 false, 4, 16, true, [], 0, 0, [], 0, .idle, [], [], 0, RankBox.empty, [],
   Vector.replicate 32 RefEntry.empty, 0, [], [], [], [], [], [], [], 0, [], [], [], none, [], [], [], 0, [], [], [], none,
   none, [], 0, (0, 0, 0, 0), none, [], [], none, [], [], [], [], [], [], Observe.none, [], []⟩

/-- A mill core at reset: idle, its fetch capability as the boot sequence sets it: px, bounds from 2^45 of the
greatest length (log 11, DEDUCED). -/
def MillCore.reset : MillCore :=
  ⟨Ctx.free, Vector.replicate 32 0, Vector.replicate 32 false, Priv.reset,
   BitVec.ofNat 128 (2 ^ 124 + (2 ^ 24 - 1) * 2 ^ 90 + 2 ^ 39 * 2 ^ 48), none⟩

/-- A field at reset: TICK and FTIME 0 and not started (R354, R355). -/
def Field.reset : Field := ⟨0, 0, false, [], [], [], false, false⟩

/-- The mill at its first reset: nothing verified, the mailbox not accepted (22_host.md R383), no key installed. -/
def Mill.reset : Mill := ⟨false, false, false, false, 0, 0, [], [], [], []⟩

/-- A free queue record: generation 0, error word 0 (16_queue.md R306, R307). -/
def Queue.reset : Queue := ⟨0, 0, 0, 0, 0, 0, 0, 0, 0, 0, 0, 0, 0, 1⟩

/-- The link at reset: no identifier, no route, every region disarmed with generation 0 (20_link.md R361, R363). -/
def Link.reset : Link := ⟨none, [], [], [], [], [], [], [], [], [], 0, 0, []⟩

/-- An idle mailbox. -/
def Mailbox.reset : Mailbox := ⟨0, [], [], none⟩

/-- The module at reset: every tile in self-test, nothing listed in memory, grade LW3-900 with no fused tiles
(log 3, DESIGN CHOICE), no partition formed. -/
def State.reset : State :=
  ⟨.tile 0, [], 0, 0, 0, 0, 900, [], [], [], [], [], [], [], 0, [], [], [], [], [], [], [], [], [], [], Mill.reset, [], [], [], [],
   [], [], [], [], Link.reset⟩

end Sys2Proof.Machine
end

