-- ==== Sys2Proof/Machine/Table.lean ====
section
/-! DEFINITION. Operations on tables and lists of plain data. -/
namespace Sys2Proof.Machine

/-- The value listed for a key. -/
def tget {α : Type} : Tbl α → Nat → Option α
  | [], _ => none
  | (j, v) :: t, k => if j = k then some v else tget t k

/-- A table with a key's value set; keys stay rising. -/
def tput {α : Type} : Tbl α → Nat → α → Tbl α
  | [], k, v => [(k, v)]
  | (j, w) :: t, k, v =>
    if k < j then (k, v) :: (j, w) :: t
    else if k = j then (k, v) :: t
    else (j, w) :: tput t k v

/-- A table without a key. -/
def tdel {α : Type} (t : Tbl α) (k : Nat) : Tbl α := t.filter fun p => p.1 != k

/-- The value of a key, with the default. -/
def tgetD {α : Type} (t : Tbl α) (k : Nat) (d : α) : α := (tget t k).getD d

/-- The first element of a list that meets a test, and the list without it. -/
def takeFirst {α : Type} (p : α → Bool) : List α → Option (α × List α)
  | [] => none
  | a :: l => if p a then some (a, l) else (takeFirst p l).map fun (b, r) => (b, a :: r)

/-- The list with its first element that meets a test replaced. -/
def mapFirst {α : Type} (p : α → Bool) (f : α → α) : List α → List α
  | [] => []
  | a :: l => if p a then f a :: l else a :: mapFirst p f l

/-- The list of the entries whose value meets a test. -/
def keysWhere {α : Type} (p : α → Bool) (t : Tbl α) : List Nat := (t.filter fun q => p q.2).map (·.1)

/-- The least element of a list of numbers, or the default. -/
def minD (d : Nat) (l : List Nat) : Nat := l.foldl min d

/-- The lowest number that a list lacks. -/
def lowestFree (l : List Nat) : Nat := ((List.range (l.length + 1)).find? fun k => !l.contains k).getD 0

end Sys2Proof.Machine
end

