-- ==== Sys2Proof/Machine/Route.lean ====
section
/-! DEFINITION. Coordinates and paths (01_wafer.md R13, R14, R18, R19, R411). A tile is numbered y × 32 + x. -/
namespace Sys2Proof.Machine

/-- A tile's number from its physical coordinate (R13). -/
def tileAt (x y : Nat) : Nat := y * 32 + x
def xOf (t : Nat) : Nat := t % 32
def yOf (t : Nat) : Nat := t / 32
/-- The field index fy × 8 + fx (R13). -/
def fieldOf (t : Nat) : Nat := yOf t / 4 * 8 + xOf t / 4
/-- The local index ly × 4 + lx (R13). -/
def lidxOf (t : Nat) : Nat := yOf t % 4 * 4 + xOf t % 4
/-- The tile of a field and a local index. -/
def tileOfField (f l : Nat) : Nat := tileAt (f % 8 * 4 + l % 4) (f / 8 * 4 + l / 4)
/-- The module-wide index of a tile's voltage island (R14). -/
def islandOf (t : Nat) : Nat := fieldOf t * 8 + (yOf t % 4 * 2 + xOf t % 4 / 2)

/-- The tiles from x0 to x1 on row y, the first left out. -/
def rowPath (x0 x1 y : Nat) : List Nat :=
  if x0 ≤ x1 then (List.range (x1 - x0)).map fun i => tileAt (x0 + i + 1) y
  else (List.range (x0 - x1)).map fun i => tileAt (x0 - i - 1) y

/-- The tiles from y0 to y1 on column x, the first left out. -/
def colPath (x y0 y1 : Nat) : List Nat :=
  if y0 ≤ y1 then (List.range (y1 - y0)).map fun i => tileAt x (y0 + i + 1)
  else (List.range (y0 - y1)).map fun i => tileAt x (y0 - i - 1)

/-- The neighbours of a tile inside its field, in the order east, south, west, north (R411 item 1). -/
def fieldNeighbours (t : Nat) : List Nat :=
  (if xOf t % 4 < 3 then [t + 1] else []) ++ (if yOf t % 4 < 3 then [t + 32] else []) ++
  (if 0 < xOf t % 4 then [t - 1] else []) ++ (if 0 < yOf t % 4 then [t - 32] else [])

/-- One round of distances to a target through usable tiles of a field. -/
def relax (dead : Nat → Bool) (cells : List Nat) (d : Tbl Nat) : Tbl Nat :=
  cells.foldl (fun d t =>
    if dead t then d
    else
      let best := minD 99 ((fieldNeighbours t).map fun n => tgetD d n 99)
      if best + 1 < tgetD d t 99 then tput d t (best + 1) else d) d

/-- Distances to a target within its field: 16 rounds reach every tile. -/
def distances (dead : Nat → Bool) (target : Nat) : Tbl Nat :=
  (List.range 16).foldl (fun d _ => relax dead ((List.range 16).map (tileOfField (fieldOf target))) d) [(target, 0)]

/-- The first shortest path by directions, on fuel (R411 item 1). -/
def walkDown (d : Tbl Nat) : Nat → Nat → List Nat
  | 0, _ => []
  | k + 1, t =>
    match (fieldNeighbours t).find? fun n => tgetD d n 99 + 1 == tgetD d t 99 with
    | some n => n :: walkDown d k n
    | none => []

/-- The movement within one field (R19, R411 item 1): the tiles entered, or none when no path exists. -/
def localPath (dead : Nat → Bool) (src dst : Nat) : Option (List Nat) :=
  let xy := rowPath (xOf src) (xOf dst) (yOf src) ++ colPath (xOf dst) (yOf src) (yOf dst)
  let yx := colPath (xOf src) (yOf src) (yOf dst) ++ rowPath (xOf src) (xOf dst) (yOf dst)
  if xy.all fun t => !dead t then some xy
  else if yx.all fun t => !dead t then some yx
  else
    let d := distances dead dst
    if tgetD d src 99 < 99 && !dead dst then some (walkDown d 16 src) else none

/-- A crossing's direction. -/
inductive Dir where
  | east | south | west | north
deriving DecidableEq, Repr

/-- The gateway tile of a field edge at a position, and the tile across the seam (R18). -/
def gateway (f : Nat) (dir : Dir) (pos : Nat) : Nat × Nat :=
  let x := f % 8 * 4
  let y := f / 8 * 4
  match dir with
  | .east => (tileAt (x + 3) (y + pos), tileAt (x + 4) (y + pos))
  | .west => (tileAt x (y + pos), tileAt (x - 1) (y + pos))
  | .south => (tileAt (x + pos) (y + 3), tileAt (x + pos) (y + 4))
  | .north => (tileAt (x + pos) y, tileAt (x + pos) (y - 1))

/-- The gateway a tile crosses by (R19 step 2), the other of the edge when that one is unusable (R411 item 2); a
gateway is unusable when the router on either side of it is (log 13, DEDUCED). -/
def chooseGateway (dead : Nat → Bool) (t : Nat) (dir : Dir) : Option (Nat × Nat) :=
  let along := match dir with
    | .east | .west => yOf t % 4
    | .south | .north => xOf t % 4
  let first := if along ≤ 1 then 1 else 2
  let g1 := gateway (fieldOf t) dir first
  let g2 := gateway (fieldOf t) dir (3 - first)
  if !dead g1.1 && !dead g1.2 then some g1
  else if !dead g2.1 && !dead g2.2 then some g2
  else none

/-- The direction towards a destination's field in one dimension. -/
def towards (isX : Bool) (t d : Nat) : Option Dir :=
  if isX then
    if xOf t / 4 < xOf d / 4 then some .east else if xOf d / 4 < xOf t / 4 then some .west else none
  else if yOf t / 4 < yOf d / 4 then some .south else if yOf d / 4 < yOf t / 4 then some .north else none

/-- The direction of a detour in the other dimension (R411 item 3). -/
def detour (isX : Bool) (t d : Nat) : Dir :=
  match towards isX t d with
  | some dir => dir
  | none =>
    if isX then (if xOf t / 4 < 7 then .east else .west)
    else if yOf t / 4 < 7 then .south else .north

/-- The path from a tile to a destination, on fuel: the tiles entered, each with whether a seam was crossed to
enter it. `xFirst` is R19's order; it is false after a detour round a blocked north or south edge, until that
dimension is done (R411 item 3). -/
def routeFrom (dead : Nat → Bool) (dst : Nat) : Nat → Bool → Nat → Option (List (Nat × Bool))
  | 0, _, _ => none
  | k + 1, xFirst, t =>
    let go (g : Nat × Nat) (next : Bool) : Option (List (Nat × Bool)) :=
      match localPath dead t g.1, routeFrom dead dst k next g.2 with
      | some p, some r => some (p.map (·, false) ++ (g.2, true) :: r)
      | _, _ => none
    let dim := if (towards xFirst t dst).isSome then xFirst else !xFirst
    match towards dim t dst with
    | none => (localPath dead t dst).map fun p => p.map (·, false)
    | some dir =>
      match chooseGateway dead t dir with
      | some g => go g xFirst
      | none =>
        let dir' := detour (!dim) t dst
        match chooseGateway dead t dir' with
        | some g => go g dim
        | none => none

/-- The path between two tiles (R19, R411). -/
def route (dead : Nat → Bool) (src dst : Nat) : Option (List (Nat × Bool)) :=
  if src = dst then some [] else routeFrom dead dst 64 true src

/-- The hops and the seam crossings of a path. -/
def pathCost (p : List (Nat × Bool)) : Nat × Nat :=
  ((p.filter fun q => !q.2).length, (p.filter fun q => q.2).length)

end Sys2Proof.Machine
end

