-- ==== Sys2Proof/Machine/Ops.lean ====
section
/-! DEFINITION. The named operations: memory bytes, tiles and slots, registers, retirement, messages, taking an
exception and returning from one. -/
namespace Sys2Proof.Machine

/-! ### Memory (00_scope.md R5, 01_wafer.md R16, R28) -/

/-- The byte at an address; an unlisted one reads 0 (log 4, DESIGN CHOICE). -/
def Memory.get (m : Memory) (a : Nat) : Byte := tgetD m a 0

/-- A byte written, in canonical form: a zero byte is not listed. -/
def Memory.set (m : Memory) (a : Nat) (b : Byte) : Memory := if b = 0 then tdel m a else tput m a b

/-- The canonical form: addresses strictly rising, no zero byte listed. -/
def Memory.wf : Memory → Bool
  | [] => true
  | [(_, b)] => b != 0
  | (a, b) :: (c, d) :: t => b != 0 && decide (a < c) && Memory.wf ((c, d) :: t)

/-- n bytes from an address upwards. -/
def Memory.read (m : Memory) (a n : Nat) : List Byte := (List.range n).map fun i => m.get (a + i)

/-- Bytes written from an address upwards. -/
def Memory.write : Memory → Nat → List Byte → Memory
  | m, _, [] => m
  | m, a, b :: l => Memory.write (m.set a b) (a + 1) l

/-- A little-endian number (R5). -/
def leNat : List Byte → Nat
  | [] => 0
  | b :: l => b.toNat + 256 * leNat l

/-- The low n bytes of a number, the lowest first (R5). -/
def leBytes : Nat → Nat → List Byte
  | 0, _ => []
  | n + 1, v => BitVec.ofNat 8 v :: leBytes n (v / 256)

/-- A doubleword of memory. -/
def Memory.word (m : Memory) (a : Nat) : Word := BitVec.ofNat 64 (leNat (m.read a 8))

/-- A doubleword's bytes. -/
def wordBytes (w : Word) : List Byte := leBytes 8 w.toNat

/-- Bits h to l of a doubleword, as a number. -/
def fld (w : Word) (h l : Nat) : Nat := w.toNat / 2 ^ l % 2 ^ (h + 1 - l)

/-- One bit of a doubleword. -/
def bit (w : Word) (i : Nat) : Bool := w.getLsbD i

/-- The key of a byte of a tile's DRAM (R16: 8 GiB a tile). -/
def dramKey (t off : Nat) : Nat := t * 2 ^ 33 + off % 2 ^ 33
/-- The key of a byte of a tile's scratchpad (R16: 8 MiB a tile). -/
def spadKey (t off : Nat) : Nat := 2 ^ 43 + t * 2 ^ 23 + off % 2 ^ 23
/-- The key of a byte of bridge SRAM (16_queue.md R312). -/
def sramKey (off : Nat) : Nat := 2 ^ 44 + off

def State.rdMem (s : State) (k n : Nat) : List Byte := s.mem.read k n
def State.wrMem (s : State) (k : Nat) (b : List Byte) : State := { s with mem := s.mem.write k b }
def State.rdWord (s : State) (k : Nat) : Word := s.mem.word k
def State.wrWord (s : State) (k : Nat) (w : Word) : State := s.wrMem k (wordBytes w)

/-! ### Free values (log 2, DESIGN CHOICE) -/

def State.free (s : State) : Nat × State := (Config.freeNat s.freeCount, { s with freeCount := s.freeCount + 1 })

/-! ### Tiles, fields, slots -/

def State.tile (s : State) (t : Nat) : Tile := tgetD s.tiles t Tile.reset
def State.setTile (s : State) (t : Nat) (T : Tile) : State := { s with tiles := tput s.tiles t T }
def State.modTile (s : State) (t : Nat) (f : Tile → Tile) : State := s.setTile t (f (s.tile t))

def State.field (s : State) (f : Nat) : Field := tgetD s.fields f Field.reset
def State.modField (s : State) (f : Nat) (g : Field → Field) : State :=
  { s with fields := tput s.fields f (g (s.field f)) }

def Tile.slot (T : Tile) (c : Nat) : Ctx := if h : c < 16 then T.slots[c] else Ctx.free
def Tile.setSlot (T : Tile) (c : Nat) (x : Ctx) : Tile :=
  if h : c < 16 then { T with slots := T.slots.set c x } else T

/-- The slot whose turn a cycle is (04_context.md R82). -/
def Tile.turn (T : Tile) : Nat := T.cycles % 16

/-- A register's tag and upper half cleared (16_queue.md R312); x0 has none. -/
def MillCore.clearCap (K : MillCore) (r : XReg) : MillCore :=
  { K with hi := K.hi.set r.toNat 0, tag := K.tag.set r.toNat false }

def State.mill (s : State) (k : Nat) : MillCore := tgetD s.mills k MillCore.reset

/-- The slot that issues in the focus's cycle; a mill core has one. -/
def State.curSlot (s : State) : Nat :=
  match s.focus with
  | .tile t => (s.tile t).turn
  | .mill _ => 0

/-- The context of an agent's slot. -/
def State.ctx (s : State) (a : Agent) (c : Nat) : Ctx :=
  match a with
  | .tile t => (s.tile t).slot c
  | .mill k => (s.mill k).ctx

def State.setCtx (s : State) (a : Agent) (c : Nat) (x : Ctx) : State :=
  match a with
  | .tile t => s.setTile t ((s.tile t).setSlot c x)
  | .mill k => { s with mills := tput s.mills k { s.mill k with ctx := x } }

def State.modCtx (s : State) (a : Agent) (c : Nat) (f : Ctx → Ctx) : State := s.setCtx a c (f (s.ctx a c))

/-- The context that issues now. -/
def State.cur (s : State) : Ctx := s.ctx s.focus s.curSlot
def State.modCur (s : State) (f : Ctx → Ctx) : State := s.modCtx s.focus s.curSlot f

def State.priv (s : State) (a : Agent) : Priv :=
  match a with
  | .tile t => (s.tile t).priv
  | .mill k => (s.mill k).priv
def State.modPriv (s : State) (a : Agent) (f : Priv → Priv) : State :=
  match a with
  | .tile t => s.modTile t fun T => { T with priv := f T.priv }
  | .mill k => { s with mills := tput s.mills k { s.mill k with priv := f (s.mill k).priv } }

/-- The tiles of an edge bridge's four gateways (01_wafer.md R18, R20: fields 0, 7, 56 and 63). -/
def bridgeGates (b : Nat) : List Nat :=
  match b % 4 with
  | 0 => [tileAt 0 1, tileAt 0 2, tileAt 1 0, tileAt 2 0]
  | 1 => [tileAt 31 1, tileAt 31 2, tileAt 29 0, tileAt 30 0]
  | 2 => [tileAt 0 29, tileAt 0 30, tileAt 1 31, tileAt 2 31]
  | _ => [tileAt 31 29, tileAt 31 30, tileAt 29 31, tileAt 30 31]

/-- The tile an edge bridge is named by, its first gateway: its field's time is the bridge's (log 14, DESIGN CHOICE). -/
def bridgeTile (b : Nat) : Nat :=
  match b % 4 with
  | 0 => tileAt 0 1
  | 1 => tileAt 31 1
  | 2 => tileAt 0 29
  | _ => tileAt 31 29

/-- The tile an agent's accesses leave from: its own, or for a mill core a gateway of its bridge
(01_wafer.md R20; log 14, DESIGN CHOICE). -/
def Agent.tileOf : Agent → Nat
  | .tile t => t
  | .mill k => bridgeTile (k / 4)

def State.curTile (s : State) : Nat := s.focus.tileOf
def State.curT (s : State) : Tile := s.tile s.curTile

/-- TICK as an agent's field holds it (05_scalar.md R119). -/
def State.tickOf (s : State) (t : Nat) : Nat := (s.field (fieldOf t)).tick
def State.tick (s : State) : Nat := s.tickOf s.curTile

/-- The rank of a tile, 4,095 when it holds none (R119). -/
def State.rankOf (s : State) (t : Nat) : Nat := (s.tile t).rank.getD 4095
/-- The rank the issuing context stands on; a mill core stands on none (log 109, DESIGN CHOICE). -/
def State.curRank (s : State) : Nat :=
  match s.focus with
  | .tile t => s.rankOf t
  | .mill _ => 4095

/-- True for slot 0 of a tile and for a mill core: the full profile (03_encoding.md R58). -/
def State.full (s : State) : Bool :=
  match s.focus with
  | .tile _ => s.curSlot == 0
  | .mill _ => true

/-- The mode of the issuing slot: light slots run in U mode (R58). -/
def State.mode (s : State) : Mode := if s.full then (s.priv s.focus).mode else .u

/-- The tile a sender's rank map gives for a rank (04_context.md R95). -/
def State.mapOf (s : State) (t r : Nat) : Option Nat :=
  match tget (s.tile t).moved r with
  | some d => some d
  | none => tget s.baseMap r

/-- The partition a rank belongs to (01_wafer.md R25). -/
def State.partOf (s : State) (r : Nat) : Option Nat := (s.parts.find? fun p => p.2.ranks.contains r).map (·.1)
def State.curPart (s : State) : Option Nat := s.partOf s.curRank

/-- A formed partition changed. -/
def State.modPart (s : State) (p : Nat) (f : Part → Part) : State :=
  match tget s.parts p with
  | some P => { s with parts := tput s.parts p (f P) }
  | none => s
def State.modWin (s : State) (p : Nat) (f : Window → Window) : State :=
  s.modPart p fun P => { P with win := f P.win }

/-- Whether the router of a tile is unusable (R411). -/
def State.dead (s : State) (t : Nat) : Bool :=
  match (s.tile t).life with
  | .bad => true
  | .fallow => !(s.tile t).shellAlive
  | _ => false

/-! ### Registers (03_encoding.md R58 to R63) -/

/-- x_r; x0 reads zero. -/
def Ctx.x (c : Ctx) (r : XReg) : Word := if r = 0 then 0 else c.th.x[r.toNat]
def Ctx.f (c : Ctx) (r : FReg) : Word := c.th.f[r.toNat]

def Ctx.setX (c : Ctx) (r : XReg) (v : Word) : Ctx :=
  if r = 0 then c else { c with th := { c.th with x := c.th.x.set r.toNat v } }
def Ctx.setF (c : Ctx) (r : FReg) (v : Word) : Ctx := { c with th := { c.th with f := c.th.f.set r.toNat v } }
def Ctx.setPc (c : Ctx) (v : Word) : Ctx := { c with th := { c.th with pc := v } }

/-- A register is empty while an outstanding producer claims it (R59). -/
def Ctx.xEmpty (c : Ctx) (r : XReg) : Bool := c.pend.any fun p => p.dest == .x r
def Ctx.fEmpty (c : Ctx) (r : FReg) : Bool := c.pend.any fun p => p.dest == .f r

/-- The fepol policy bits (R62): true is trap. -/
def Ctx.xPolicy (c : Ctx) (r : XReg) : Bool := c.th.fepol.getLsbD r.toNat
def Ctx.fPolicy (c : Ctx) (r : FReg) : Bool := c.th.fepol.getLsbD (32 + r.toNat)

/-- True when every register is full (R61). -/
def Ctx.allFull (c : Ctx) : Bool := c.pend.all fun p => p.dest == .none

/-- True when an access of memory has not had its reply, so that the next load, store, atomic, MIGRATE or fence does
not issue (04_context.md R94, 05_scalar.md R115, 07_witness.md R155 item 2). -/
def Ctx.memBusy (c : Ctx) : Bool := c.pend.any fun p =>
  match p.kind with
  | .access _ | .host _ _ _ => true
  | _ => false

/-- frm and fflags (02_numbers.md R43). -/
def Ctx.frm (c : Ctx) : BitVec 3 := c.th.fcsr.extractLsb' 5 3
def Ctx.orFlags (c : Ctx) (fl : Flags) : Ctx := { c with th := { c.th with fcsr := c.th.fcsr ||| fl.zeroExtend 8 } }

/-- The bound stream of f4 to f7 (06_float.md R138). -/
def Ctx.stream (c : Ctx) (r : FReg) : Stream :=
  if h : 4 ≤ r.toNat ∧ r.toNat - 4 < 4 then c.streams[r.toNat - 4]'h.2 else Stream.unbound
def Ctx.setStream (c : Ctx) (r : FReg) (y : Stream) : Ctx :=
  if h : 4 ≤ r.toNat ∧ r.toNat - 4 < 4 then { c with streams := c.streams.set (r.toNat - 4) y h.2 } else c
def Ctx.bound (c : Ctx) (r : FReg) : Bool := (c.stream r).dir != 0

/-! ### Retirement (04_context.md R96) -/

/-- The counts of a retired instruction: run rises to 16 and clears bounce there; a positive pcount falls, and
clears pinned when it reaches 0; a furrow-bound context keeps its pin state. -/
def Thread.retired (h : Thread) : Thread :=
  let run := min 16 (h.run + 1)
  let bounce := if run = 16 then 0 else h.bounce
  let counting := !h.furrow && h.pinned && decide (0 < h.pcount)
  { h with
    run := run, bounce := bounce,
    pcount := if counting then h.pcount - 1 else h.pcount,
    pinned := if counting && h.pcount == 1 then false else h.pinned }

/-- The instruction is over and the next PC is pc; nothing is counted. -/
def Ctx.advance (pc : Word) (c : Ctx) : Ctx :=
  { c with th := { c.th with pc := pc }, st := .ready, wait := .event, stage := .none, probes := [], replayFrom := none,
           missed := false, carried := none, walkFault := none, bpSkip := false, proxyNext := false, retired := true }

/-- The instruction retires and the next PC is pc. -/
def Ctx.retireTo (pc : Word) (c : Ctx) : Ctx := { c with th := c.th.retired }.advance pc

/-- What a retirement counts (R96). -/
def Ctx.count (k : Counts) (c : Ctx) : Ctx :=
  match k with
  | .all => { c with th := c.th.retired }
  | .run => { c with th := { c.th with run := min 16 (c.th.run + 1) } }
  | .none => c

/-- The instruction retires and the next one follows it. -/
def Ctx.retire (c : Ctx) : Ctx := c.retireTo (c.th.pc + 4)

def State.retire (s : State) : State := s.modCur Ctx.retire

/-- An instruction that leaves bounce, run and the pin state unchanged is over (09_group.md R185, 10_barrier.md R192,
12_matrix.md R234, 13_channel.md R253, 15_kernel_instructions.md R299, 16_queue.md R311, 20_link.md R367), and so is a
long-latency access, which counts when its reply has come (log 92, DEDUCED). -/
def State.retireQuiet (s : State) : State := s.modCur fun c => c.advance (c.th.pc + 4)

/-- A register of the issuing context written: x15 of a furrow-bound context pushes a word into the outbound queue
(11_stream.md R225); on a mill core the write clears the register's tag and upper half (16_queue.md R312). -/
def State.setX (s : State) (r : XReg) (v : Word) : State :=
  match s.focus with
  | .tile t =>
    if r == 15#5 && s.cur.th.furrow then
      let push (P : Furrow) : Furrow := { P with outq := P.outq ++ [(s.nextId, some v)] }
      State.modTile { s with nextId := s.nextId + 1 } t fun T => { T with port := T.port.map push }
    else s.modCur fun c => c.setX r v
  | .mill k =>
    let s := s.modCur fun c => c.setX r v
    { s with mills := tput s.mills k ((s.mill k).clearCap r) }

/-! ### Parking (04_context.md R88) -/

/-- The parked state of a wait. -/
def Wait.state : Wait → CState
  | .reg _ | .full | .reply | .word _ _ | .append => .parkedReg
  | .slot _ _ => .parkedJoin
  | _ => .parkedWit

/-- The context is parked until the wait is over. -/
def State.park (s : State) (w : Wait) : State := s.modCur fun c => { c with st := w.state, wait := w }

/-- The context is parked in JOIN, BWAIT or GSYNC until an event makes it ready. -/
def State.parkJoin (s : State) : State := s.modCur fun c => { c with st := .parkedJoin, wait := .event }

/-- The turn is forfeited: the context stays ready and tries again at its next one. -/
def State.forfeit (s : State) : State := s.modCur fun c => { c with st := .ready }

/-! ### Messages -/

def Agent.node : Agent → Node
  | .tile t => .tile t
  | .mill k => .bridge (k / 4)

/-- A message sent (R89: its delay field starts at the given count). -/
def State.send (s : State) (src dst : Node) (rank : Option Nat) (delay : Nat) (b : Body) : State :=
  { s with net := s.net ++ [⟨s.nextId, src, dst, rank, delay, [], s.clock, b⟩], nextId := s.nextId + 1 }

/-- An answer sent: it takes its packet's path reversed and continues its count (R91, 21_observe.md R372), which gains the
cycles that the packet has waited where it was held. -/
def State.reply (s : State) (src : Node) (r : Ret) (rank : Option Nat) (b : Body) : State :=
  { s with net := s.net ++ [⟨s.nextId, src, r.node, rank, r.delay, r.path, s.clock, b⟩], nextId := s.nextId + 1 }

/-- The delay field of what a buffer has held since a cycle (21_observe.md R372). -/
def Ret.since (r : Ret) (c now : Nat) : Ret := { r with delay := min 65535 (r.delay + (now - c)) }

def Node.tileOf : Node → Nat
  | .tile t => t
  | .bridge b => bridgeTile b

/-- The tile at which a node's packets enter and leave the array: of a bridge, its first usable gateway (log 14, DESIGN CHOICE). -/
def State.nodeTile (s : State) : Node → Nat
  | .tile t => t
  | .bridge b => ((bridgeGates b).find? fun t => !s.dead t).getD (bridgeTile b)

/-- The seams a path to or from a bridge adds: its outward gateway (R20). -/
def Node.seams : Node → Nat
  | .tile _ => 0
  | .bridge _ => 1

/-- The time of n seam crossings, each a free 32 to 48 cycles (R18). -/
def State.crossings : Nat → State → Nat × State
  | 0, s => (0, s)
  | n + 1, s =>
    let (v, s) := s.free
    let (r, s) := State.crossings n s
    (32 + v % 17 + r, s)

/-- A rank's true place: the mill's map (01_wafer.md R21). -/
def State.homeOf (s : State) (rank : Nat) : Option Nat := tget s.rankTile rank

/-- The tile that takes what is addressed to a rank: its home, or its stand-in (19_tile.md R351). -/
def State.takerOf (s : State) (rank : Nat) : Option Nat :=
  match s.homeOf rank with
  | some h => some h
  | none => tget s.standIn rank

/-- The path of a packet that its sender addresses to a tile and that another tile takes: to the first and on from there, or,
past a tile whose router is unusable, on from the last tile before it (R95). -/
def forwardPath (dead : Nat → Bool) (src first last : Nat) : Option (List (Nat × Bool)) :=
  if first = last then route dead src last
  else if !dead first then
    match route dead src first, route dead first last with
    | some p, some q => some (p ++ q)
    | _, _ => none
  else
    match route (fun t => dead t && t != first) src first with
    | some p =>
      let p := p.dropLast
      (route dead ((p.getLast?.map (·.1)).getD src) last).map fun q => p ++ q
    | none => none

/-- A path walked the other way from its end. -/
def reversePath (src : Nat) (p : List (Nat × Bool)) : List (Nat × Bool) :=
  ((src :: p.map (·.1)).dropLast.reverse).zip (p.map (·.2)).reverse

/-- The tile at which a message is taken, by the rank it is addressed to or by its destination. -/
def State.takesAt (s : State) (m : Msg) : Nat :=
  match m.rank with
  | some r => (s.takerOf r).getD (s.nodeTile m.dst)
  | none => s.nodeTile m.dst

/-- The tiles a message enters on its way (R19, R91, R95, R411); none while no path exists. -/
def State.pathOf (s : State) (m : Msg) : Option (List (Nat × Bool)) :=
  let D := s.takesAt m
  if (m.back.getLast?.map (·.1)) == some D && m.back.all fun q => !s.dead q.1 then some m.back
  else forwardPath s.dead (s.nodeTile m.src) (s.nodeTile m.dst) D

/-- The links a path uses, each by the tiles at its ends. -/
def linksOf (src : Nat) (p : List (Nat × Bool)) : List (Nat × Nat) := (src :: p.map (·.1)).zip (p.map (·.1))

/-- Whether another message under way uses a link of a message's path, so that buffers may hold it (21_observe.md R372). -/
def State.contended (s : State) (m : Msg) (p : List (Nat × Bool)) : Bool :=
  s.net.any fun g => g.id != m.id && (match s.pathOf g with
    | some q => (linksOf (s.nodeTile g.src) q).any fun l => (linksOf (s.nodeTile m.src) p).contains l
    | none => false)

/-- The cycles a delivered message has on its delay field (21_observe.md R372): hops, crossings, and, where another packet
shares a link of its path, a free wait in buffers (log 93, DESIGN CHOICE); none while no path exists (01_wafer.md R411 item 4). -/
def State.arrivalDelay (s : State) (m : Msg) : Option (Nat × State) :=
  match s.pathOf m with
  | none => none
  | some p =>
    let (hops, seams) := pathCost p
    let (c, s1) := s.crossings (seams + m.src.seams + m.dst.seams)
    if s.contended m p then
      let (w, s1) := s1.free
      some (min 65535 (m.delay + 2 * hops + c + w), s1)
    else some (min 65535 (m.delay + 2 * hops + c), s1)

/-- The least time a message takes on its way: two cycles a hop, 32 a seam (R18); none while no path exists. -/
def State.latency (s : State) (m : Msg) : Option Nat :=
  (s.pathOf m).map fun p => 2 * (pathCost p).1 + 32 * ((pathCost p).2 + m.src.seams + m.dst.seams)

/-- A message taken from the network. -/
def State.takeMsg (s : State) (id : Nat) : Option (Msg × State) :=
  (takeFirst (fun m => m.id == id) s.net).map fun (m, r) => (m, { s with net := r })

/-- What an arrival finds: the message, the tile it reaches, its delay field, whether that tile is a stand-in, and where its
answer goes. -/
structure Arrived where
  msg : Msg
  at_ : Nat
  delay : Nat
  stand : Bool
  ret : Ret
deriving DecidableEq, Repr

/-- Where the mill keeps what the living shell of a tile held whose rank has no adopter (19_tile.md R349, R351; log 118, DESIGN CHOICE). -/
def keepTile (rank : Nat) : Nat := 8192 + rank

/-- The tile that holds what a message is about: where it arrived, or, at a stand-in, the mill's keep of the rank. -/
def Arrived.holder (a : Arrived) : Nat := if a.stand then keepTile (a.msg.rank.getD 4095) else a.at_

/-- Whether a message stays at its sender, which has learnt that a rank moved to the tile addressed and still waits for what it
had sent to the tile before (19_tile.md R350). -/
def State.staysHome (s : State) (m : Msg) : Bool :=
  match m.src, m.dst with
  | .tile t, .tile d =>
    match tget (s.tile t).former d with
    | none => false
    | some F =>
      (s.net.any fun g => F.msgs.contains g.id) ||
      ((s.tile t).journal.any fun e => F.stores.contains (e.idx, e.seq)) ||
      (s.tile t).slots.toList.any fun c => c.st == .inFlight && F.gone.contains c.th.gtid
  | _, _ => false

/-- A message reaches its destination: a rank's traffic follows the rank to its adopter, which tells the sender
(04_context.md R95), or to its stand-in (19_tile.md R351). Nothing answers for a tile whose shell is dead: what goes
there waits in the network (R413) (log 88, DEDUCED). -/
def State.arrive (s : State) (id : Nat) : Option (Arrived × State) :=
  (s.takeMsg id).bind fun (g, s) =>
    if s.staysHome g then none else
    let back := reversePath (s.nodeTile g.src) ((s.pathOf g).getD [])
    (s.arrivalDelay g).bind fun (d, s) =>
      match g.rank with
      | none =>
        let up := match g.dst with
          | .tile t => (s.tile t).shellAlive
          | .bridge _ => true
        if up then some (⟨g, g.dst.tileOf, d, false, ⟨g.src, back, d⟩⟩, s) else none
      | some r =>
        (s.takerOf r).bind fun h =>
          if !(s.tile h).shellAlive then none else
          let stand := (s.homeOf r).isNone
          let s := if stand || h == g.dst.tileOf then s
            else match g.src with
              | .tile t => s.send (.tile h) (.tile t) none 0 (.ownerMoved r h s.gen)
              | .bridge _ => s
          some (⟨g, h, d, stand, ⟨g.src, back, d⟩⟩, s)

/-- Delay accumulator i of a tile gains an event (R373, R374). -/
def State.addDelay (s : State) (t i cycles : Nat) : State :=
  s.modTile t fun T =>
    let a := tgetD T.acc i ⟨0, 0⟩
    { T with acc := tput T.acc i ⟨(a.events + 1) % 2 ^ 24, (a.cycles + cycles) % 2 ^ 40⟩ }

/-! ### Exceptions (05_scalar.md R121, 18_fault.md R327 to R329) -/

def Mode.code : Mode → Nat
  | .u => 0
  | .s => 1
  | .m => 3
def Mode.ofCode : Nat → Mode
  | 0 => .u
  | 1 => .s
  | _ => .m

/-- mstatus with a field's bits replaced. -/
def setBits (w : Word) (lo n v : Nat) : Word :=
  let mask : Word := BitVec.ofNat 64 ((2 ^ n - 1) * 2 ^ lo)
  (w &&& ~~~mask) ||| (BitVec.ofNat 64 (v % 2 ^ n * 2 ^ lo))

/-- The trap entry of slot 0 and of a mill core (R121): the saved PC, cause and value, the enable and mode saved,
the mode and PC of the handler. -/
def Priv.enter (p : Priv) (interrupt : Bool) (code : Nat) (tval epc : Word) : Priv × Word :=
  let deleg := if interrupt then bit p.mideleg code else bit p.medeleg code
  let cause : Word := BitVec.ofNat 64 ((if interrupt then 2 ^ 63 else 0) + code)
  let target (vec : Word) : Word :=
    let base := vec &&& ~~~3#64
    if interrupt && vec &&& 3#64 == 1#64 then base + BitVec.ofNat 64 (4 * code) else base
  if deleg && p.mode != .m then
    let ms := setBits (setBits (setBits p.mstatus 5 1 (fld p.mstatus 1 1)) 1 1 0) 8 1 p.mode.code
    ({ p with sepc := epc, scause := cause, stval := tval, mstatus := ms, mode := .s }, target p.stvec)
  else
    let ms := setBits (setBits (setBits p.mstatus 7 1 (fld p.mstatus 3 3)) 3 1 0) 11 2 p.mode.code
    ({ p with mepc := epc, mcause := cause, mtval := tval, mstatus := ms, mode := .m }, target p.mtvec)

/-- The return of MRET (R121). -/
def Priv.mret (p : Priv) : Priv × Word :=
  let mpp := fld p.mstatus 12 11
  let ms := setBits (setBits (setBits p.mstatus 3 1 (fld p.mstatus 7 7)) 7 1 1) 11 2 0
  let ms := if mpp != 3 then setBits ms 17 1 0 else ms
  ({ p with mstatus := ms, mode := Mode.ofCode mpp }, p.mepc)

/-- The return of SRET (R121). -/
def Priv.sret (p : Priv) : Priv × Word :=
  let new := if bit p.mstatus 8 then Mode.s else Mode.u
  let ms := setBits (setBits (setBits p.mstatus 1 1 (fld p.mstatus 5 5)) 5 1 1) 8 1 0
  ({ p with mstatus := setBits ms 17 1 0, mode := new }, p.sepc)

/-- A light context parks trapped (18_fault.md R329, R331). -/
def Ctx.trapAt (c : Ctx) (achk : Bool) (cause : Nat) (tval epc : Word) (tick : Nat) : Ctx :=
  { c with th := { c.th with pc := epc }, st := .trapped, wait := .event, stage := .none, probes := [], replayFrom := none,
           missed := false, carried := if achk then c.carried else none, walkFault := none, proxyNext := false,
           forwarded := false,
           trap := ⟨achk, cause, tval, epc, BitVec.ofNat 64 tick⟩ }

/-- A precise trap of a slot with a given PC: a light slot parks trapped; slot 0 and a mill core enter their
handler. -/
def State.trapSlot (s : State) (a : Agent) (c : Nat) (achk : Bool) (cause : Nat) (tval epc : Word) : State :=
  if c == 0 then
    let (p, pc) := (s.priv a).enter false cause tval epc
    (s.modPriv a fun _ => p).modCtx a c fun x =>
      { x with th := { x.th with pc := pc }, st := .ready, wait := .event, stage := .none, probes := [], replayFrom := none,
               missed := false, carried := none, walkFault := none }
  else s.modCtx a c fun x => x.trapAt achk cause tval epc (s.tickOf a.tileOf)

/-- A precise trap of the issuing instruction: taking an exception. -/
def State.trap (s : State) (cause : Nat) (tval : Word) : State :=
  s.trapSlot s.focus s.curSlot false cause tval s.cur.th.pc

/-- The illegal-instruction trap (R74): the trap value is the word. -/
def State.illegal (s : State) (w : Word32) : State := s.trap 2 (w.zeroExtend 64)

end Sys2Proof.Machine
end

