-- ==== Sys2Proof/Machine/Uses.lean ====
section
/-! DEFINITION. What each instruction names: the registers it reads and writes, its rm field, who may execute it, and
whether it touches memory (03_encoding.md R60, R68, R70 to R74; 04_context.md R94). -/
namespace Sys2Proof.Machine

/-- Who may execute an instruction (R68, R71, R73, R74 items 8 to 10). -/
inductive Who0 where
  | all
  | slot0
  /-- Slot 0 in S or M mode. -/
  | priv
  /-- Slot 0 in M mode. -/
  | machine
  /-- A mill core. -/
  | mill
  /-- A mill core in M mode (16_queue.md R314). -/
  | millM
deriving DecidableEq, Repr

/-- What an instruction names. -/
structure Uses where
  /-- Integer registers read, in operand order. -/
  xr : List XReg := []
  /-- Integer registers written. -/
  xw : List XReg := []
  /-- Floating registers read, in operand order. -/
  fr : List FReg := []
  /-- Floating registers written. -/
  fw : List FReg := []
  /-- The format codes in which a scalar instruction reads fr and writes fw (06_float.md R138). -/
  fin : List Nat := []
  fout : Nat := 0
  /-- The rounding-mode field it checks (R42). -/
  rm : Option (BitVec 3) := none
  who : Who0 := .all
  /-- A load, store, atomic, MIGRATE, fence, or another instruction that touches memory (07_witness.md R155 item 2). -/
  mem : Bool := false
  /-- It acts on a tile's slots, engines, streams, bridge registers or ports; a mill core has none (log 11, DEDUCED). -/
  tile : Bool := false
deriving DecidableEq, Repr

/-- What an instruction names; an event names nothing. -/
def usesOf : Instr → Uses
  | .lb rd rs1 _ => { xr := [rs1], xw := [rd], mem := true }
  | .lh rd rs1 _ => { xr := [rs1], xw := [rd], mem := true }
  | .lw rd rs1 _ => { xr := [rs1], xw := [rd], mem := true }
  | .ld rd rs1 _ => { xr := [rs1], xw := [rd], mem := true }
  | .lbu rd rs1 _ => { xr := [rs1], xw := [rd], mem := true }
  | .lhu rd rs1 _ => { xr := [rs1], xw := [rd], mem := true }
  | .lwu rd rs1 _ => { xr := [rs1], xw := [rd], mem := true }
  | .sb rs1 rs2 _ => { xr := [rs1, rs2], mem := true }
  | .sh rs1 rs2 _ => { xr := [rs1, rs2], mem := true }
  | .sw rs1 rs2 _ => { xr := [rs1, rs2], mem := true }
  | .sd rs1 rs2 _ => { xr := [rs1, rs2], mem := true }
  | .addi rd rs1 _ => { xr := [rs1], xw := [rd] }
  | .slti rd rs1 _ => { xr := [rs1], xw := [rd] }
  | .sltiu rd rs1 _ => { xr := [rs1], xw := [rd] }
  | .xori rd rs1 _ => { xr := [rs1], xw := [rd] }
  | .ori rd rs1 _ => { xr := [rs1], xw := [rd] }
  | .andi rd rs1 _ => { xr := [rs1], xw := [rd] }
  | .slli rd rs1 _ => { xr := [rs1], xw := [rd] }
  | .srli rd rs1 _ => { xr := [rs1], xw := [rd] }
  | .srai rd rs1 _ => { xr := [rs1], xw := [rd] }
  | .clz rd rs1 => { xr := [rs1], xw := [rd] }
  | .ctz rd rs1 => { xr := [rs1], xw := [rd] }
  | .cpop rd rs1 => { xr := [rs1], xw := [rd] }
  | .rev8 rd rs1 => { xr := [rs1], xw := [rd] }
  | .addiw rd rs1 _ => { xr := [rs1], xw := [rd] }
  | .slliw rd rs1 _ => { xr := [rs1], xw := [rd] }
  | .srliw rd rs1 _ => { xr := [rs1], xw := [rd] }
  | .sraiw rd rs1 _ => { xr := [rs1], xw := [rd] }
  | .add rd rs1 rs2 => { xr := [rs1, rs2], xw := [rd] }
  | .sll rd rs1 rs2 => { xr := [rs1, rs2], xw := [rd] }
  | .slt rd rs1 rs2 => { xr := [rs1, rs2], xw := [rd] }
  | .sltu rd rs1 rs2 => { xr := [rs1, rs2], xw := [rd] }
  | .xor rd rs1 rs2 => { xr := [rs1, rs2], xw := [rd] }
  | .srl rd rs1 rs2 => { xr := [rs1, rs2], xw := [rd] }
  | .or rd rs1 rs2 => { xr := [rs1, rs2], xw := [rd] }
  | .and rd rs1 rs2 => { xr := [rs1, rs2], xw := [rd] }
  | .sub rd rs1 rs2 => { xr := [rs1, rs2], xw := [rd] }
  | .sra rd rs1 rs2 => { xr := [rs1, rs2], xw := [rd] }
  | .mul rd rs1 rs2 => { xr := [rs1, rs2], xw := [rd] }
  | .mulh rd rs1 rs2 => { xr := [rs1, rs2], xw := [rd] }
  | .mulhsu rd rs1 rs2 => { xr := [rs1, rs2], xw := [rd] }
  | .mulhu rd rs1 rs2 => { xr := [rs1, rs2], xw := [rd] }
  | .div rd rs1 rs2 => { xr := [rs1, rs2], xw := [rd] }
  | .divu rd rs1 rs2 => { xr := [rs1, rs2], xw := [rd] }
  | .rem rd rs1 rs2 => { xr := [rs1, rs2], xw := [rd] }
  | .remu rd rs1 rs2 => { xr := [rs1, rs2], xw := [rd] }
  | .sh1add rd rs1 rs2 => { xr := [rs1, rs2], xw := [rd] }
  | .sh2add rd rs1 rs2 => { xr := [rs1, rs2], xw := [rd] }
  | .sh3add rd rs1 rs2 => { xr := [rs1, rs2], xw := [rd] }
  | .min rd rs1 rs2 => { xr := [rs1, rs2], xw := [rd] }
  | .minu rd rs1 rs2 => { xr := [rs1, rs2], xw := [rd] }
  | .max rd rs1 rs2 => { xr := [rs1, rs2], xw := [rd] }
  | .maxu rd rs1 rs2 => { xr := [rs1, rs2], xw := [rd] }
  | .addw rd rs1 rs2 => { xr := [rs1, rs2], xw := [rd] }
  | .sllw rd rs1 rs2 => { xr := [rs1, rs2], xw := [rd] }
  | .srlw rd rs1 rs2 => { xr := [rs1, rs2], xw := [rd] }
  | .subw rd rs1 rs2 => { xr := [rs1, rs2], xw := [rd] }
  | .sraw rd rs1 rs2 => { xr := [rs1, rs2], xw := [rd] }
  | .mulw rd rs1 rs2 => { xr := [rs1, rs2], xw := [rd] }
  | .divw rd rs1 rs2 => { xr := [rs1, rs2], xw := [rd] }
  | .divuw rd rs1 rs2 => { xr := [rs1, rs2], xw := [rd] }
  | .remw rd rs1 rs2 => { xr := [rs1, rs2], xw := [rd] }
  | .remuw rd rs1 rs2 => { xr := [rs1, rs2], xw := [rd] }
  | .beq rs1 rs2 _ => { xr := [rs1, rs2] }
  | .bne rs1 rs2 _ => { xr := [rs1, rs2] }
  | .blt rs1 rs2 _ => { xr := [rs1, rs2] }
  | .bge rs1 rs2 _ => { xr := [rs1, rs2] }
  | .bltu rs1 rs2 _ => { xr := [rs1, rs2] }
  | .bgeu rs1 rs2 _ => { xr := [rs1, rs2] }
  | .jal rd _ => { xw := [rd] }
  | .jalr rd rs1 _ => { xr := [rs1], xw := [rd] }
  | .lui rd _ => { xw := [rd] }
  | .auipc rd _ => { xw := [rd] }
  | .fence _ _ _ _ _ => { mem := true }
  | .fenceI => { who := .slot0, mem := true }
  | .ecall => dflt
  | .ebreak => dflt
  | .sret => { who := .priv }
  | .mret => { who := .machine }
  | .wfi => { who := .priv }
  | .sfenceVma rs1 rs2 => { xr := [rs1, rs2], who := .priv, mem := true }
  | .csrrw rd _ rs1 => { xr := [rs1], xw := [rd] }
  | .csrrs rd _ rs1 => { xr := [rs1], xw := [rd] }
  | .csrrc rd _ rs1 => { xr := [rs1], xw := [rd] }
  | .csrrwi rd _ _ => { xw := [rd] }
  | .csrrsi rd _ _ => { xw := [rd] }
  | .csrrci rd _ _ => { xw := [rd] }
  | .flw fd rs1 _ => { xr := [rs1], fw := [fd], fout := 2, mem := true }
  | .fld fd rs1 _ => { xr := [rs1], fw := [fd], fout := 1, mem := true }
  | .fsw rs1 fs2 _ => { xr := [rs1], fr := [fs2], fin := [2], mem := true }
  | .fsd rs1 fs2 _ => { xr := [rs1], fr := [fs2], fin := [1], mem := true }
  | .fmaddS fd fs1 fs2 fs3 rm => { fr := [fs1, fs2, fs3], fw := [fd], fin := [2, 2, 2], fout := 2, rm := some rm }
  | .fmaddD fd fs1 fs2 fs3 rm => { fr := [fs1, fs2, fs3], fw := [fd], fin := [1, 1, 1], fout := 1, rm := some rm }
  | .fmsubS fd fs1 fs2 fs3 rm => { fr := [fs1, fs2, fs3], fw := [fd], fin := [2, 2, 2], fout := 2, rm := some rm }
  | .fmsubD fd fs1 fs2 fs3 rm => { fr := [fs1, fs2, fs3], fw := [fd], fin := [1, 1, 1], fout := 1, rm := some rm }
  | .fnmsubS fd fs1 fs2 fs3 rm => { fr := [fs1, fs2, fs3], fw := [fd], fin := [2, 2, 2], fout := 2, rm := some rm }
  | .fnmsubD fd fs1 fs2 fs3 rm => { fr := [fs1, fs2, fs3], fw := [fd], fin := [1, 1, 1], fout := 1, rm := some rm }
  | .fnmaddS fd fs1 fs2 fs3 rm => { fr := [fs1, fs2, fs3], fw := [fd], fin := [2, 2, 2], fout := 2, rm := some rm }
  | .fnmaddD fd fs1 fs2 fs3 rm => { fr := [fs1, fs2, fs3], fw := [fd], fin := [1, 1, 1], fout := 1, rm := some rm }
  | .faddS fd fs1 fs2 rm => { fr := [fs1, fs2], fw := [fd], fin := [2, 2], fout := 2, rm := some rm }
  | .faddD fd fs1 fs2 rm => { fr := [fs1, fs2], fw := [fd], fin := [1, 1], fout := 1, rm := some rm }
  | .fsubS fd fs1 fs2 rm => { fr := [fs1, fs2], fw := [fd], fin := [2, 2], fout := 2, rm := some rm }
  | .fsubD fd fs1 fs2 rm => { fr := [fs1, fs2], fw := [fd], fin := [1, 1], fout := 1, rm := some rm }
  | .fmulS fd fs1 fs2 rm => { fr := [fs1, fs2], fw := [fd], fin := [2, 2], fout := 2, rm := some rm }
  | .fmulD fd fs1 fs2 rm => { fr := [fs1, fs2], fw := [fd], fin := [1, 1], fout := 1, rm := some rm }
  | .fdivS fd fs1 fs2 rm => { fr := [fs1, fs2], fw := [fd], fin := [2, 2], fout := 2, rm := some rm }
  | .fdivD fd fs1 fs2 rm => { fr := [fs1, fs2], fw := [fd], fin := [1, 1], fout := 1, rm := some rm }
  | .fsqrtS fd fs1 rm => { fr := [fs1], fw := [fd], fin := [2], fout := 2, rm := some rm }
  | .fsqrtD fd fs1 rm => { fr := [fs1], fw := [fd], fin := [1], fout := 1, rm := some rm }
  | .fsgnjS fd fs1 fs2 => { fr := [fs1, fs2], fw := [fd], fin := [2, 2], fout := 2 }
  | .fsgnjD fd fs1 fs2 => { fr := [fs1, fs2], fw := [fd], fin := [1, 1], fout := 1 }
  | .fsgnjnS fd fs1 fs2 => { fr := [fs1, fs2], fw := [fd], fin := [2, 2], fout := 2 }
  | .fsgnjnD fd fs1 fs2 => { fr := [fs1, fs2], fw := [fd], fin := [1, 1], fout := 1 }
  | .fsgnjxS fd fs1 fs2 => { fr := [fs1, fs2], fw := [fd], fin := [2, 2], fout := 2 }
  | .fsgnjxD fd fs1 fs2 => { fr := [fs1, fs2], fw := [fd], fin := [1, 1], fout := 1 }
  | .fminS fd fs1 fs2 => { fr := [fs1, fs2], fw := [fd], fin := [2, 2], fout := 2 }
  | .fminD fd fs1 fs2 => { fr := [fs1, fs2], fw := [fd], fin := [1, 1], fout := 1 }
  | .fmaxS fd fs1 fs2 => { fr := [fs1, fs2], fw := [fd], fin := [2, 2], fout := 2 }
  | .fmaxD fd fs1 fs2 => { fr := [fs1, fs2], fw := [fd], fin := [1, 1], fout := 1 }
  | .fleS rd fs1 fs2 => { xw := [rd], fr := [fs1, fs2], fin := [2, 2] }
  | .fleD rd fs1 fs2 => { xw := [rd], fr := [fs1, fs2], fin := [1, 1] }
  | .fltS rd fs1 fs2 => { xw := [rd], fr := [fs1, fs2], fin := [2, 2] }
  | .fltD rd fs1 fs2 => { xw := [rd], fr := [fs1, fs2], fin := [1, 1] }
  | .feqS rd fs1 fs2 => { xw := [rd], fr := [fs1, fs2], fin := [2, 2] }
  | .feqD rd fs1 fs2 => { xw := [rd], fr := [fs1, fs2], fin := [1, 1] }
  | .fcvtSD fd fs1 rm => { fr := [fs1], fw := [fd], fin := [1], fout := 2, rm := some rm }
  | .fcvtDS fd fs1 rm => { fr := [fs1], fw := [fd], fin := [2], fout := 1, rm := some rm }
  | .fcvtSH fd fs1 rm => { fr := [fs1], fw := [fd], fin := [3], fout := 2, rm := some rm }
  | .fcvtSBf fd fs1 rm => { fr := [fs1], fw := [fd], fin := [4], fout := 2, rm := some rm }
  | .fcvtSE4 fd fs1 rm => { fr := [fs1], fw := [fd], fin := [5], fout := 2, rm := some rm }
  | .fcvtSE5 fd fs1 rm => { fr := [fs1], fw := [fd], fin := [6], fout := 2, rm := some rm }
  | .fcvtDH fd fs1 rm => { fr := [fs1], fw := [fd], fin := [3], fout := 1, rm := some rm }
  | .fcvtDBf fd fs1 rm => { fr := [fs1], fw := [fd], fin := [4], fout := 1, rm := some rm }
  | .fcvtDE4 fd fs1 rm => { fr := [fs1], fw := [fd], fin := [5], fout := 1, rm := some rm }
  | .fcvtDE5 fd fs1 rm => { fr := [fs1], fw := [fd], fin := [6], fout := 1, rm := some rm }
  | .fcvtHS fd fs1 rm _ => { fr := [fs1], fw := [fd], fin := [2], fout := 3, rm := some rm }
  | .fcvtHD fd fs1 rm _ => { fr := [fs1], fw := [fd], fin := [1], fout := 3, rm := some rm }
  | .fcvtBfS fd fs1 rm _ => { fr := [fs1], fw := [fd], fin := [2], fout := 4, rm := some rm }
  | .fcvtBfD fd fs1 rm _ => { fr := [fs1], fw := [fd], fin := [1], fout := 4, rm := some rm }
  | .fcvtE4S fd fs1 rm _ => { fr := [fs1], fw := [fd], fin := [2], fout := 5, rm := some rm }
  | .fcvtE4D fd fs1 rm _ => { fr := [fs1], fw := [fd], fin := [1], fout := 5, rm := some rm }
  | .fcvtE5S fd fs1 rm _ => { fr := [fs1], fw := [fd], fin := [2], fout := 6, rm := some rm }
  | .fcvtE5D fd fs1 rm _ => { fr := [fs1], fw := [fd], fin := [1], fout := 6, rm := some rm }
  | .fcvtWS rd fs1 rm _ => { xw := [rd], fr := [fs1], fin := [2], rm := some rm }
  | .fcvtWuS rd fs1 rm _ => { xw := [rd], fr := [fs1], fin := [2], rm := some rm }
  | .fcvtLS rd fs1 rm _ => { xw := [rd], fr := [fs1], fin := [2], rm := some rm }
  | .fcvtLuS rd fs1 rm _ => { xw := [rd], fr := [fs1], fin := [2], rm := some rm }
  | .fcvtWD rd fs1 rm _ => { xw := [rd], fr := [fs1], fin := [1], rm := some rm }
  | .fcvtWuD rd fs1 rm _ => { xw := [rd], fr := [fs1], fin := [1], rm := some rm }
  | .fcvtLD rd fs1 rm _ => { xw := [rd], fr := [fs1], fin := [1], rm := some rm }
  | .fcvtLuD rd fs1 rm _ => { xw := [rd], fr := [fs1], fin := [1], rm := some rm }
  | .fcvtSW fd rs1 rm => { xr := [rs1], fw := [fd], fout := 2, rm := some rm }
  | .fcvtSWu fd rs1 rm => { xr := [rs1], fw := [fd], fout := 2, rm := some rm }
  | .fcvtSL fd rs1 rm => { xr := [rs1], fw := [fd], fout := 2, rm := some rm }
  | .fcvtSLu fd rs1 rm => { xr := [rs1], fw := [fd], fout := 2, rm := some rm }
  | .fcvtDW fd rs1 rm => { xr := [rs1], fw := [fd], fout := 1, rm := some rm }
  | .fcvtDWu fd rs1 rm => { xr := [rs1], fw := [fd], fout := 1, rm := some rm }
  | .fcvtDL fd rs1 rm => { xr := [rs1], fw := [fd], fout := 1, rm := some rm }
  | .fcvtDLu fd rs1 rm => { xr := [rs1], fw := [fd], fout := 1, rm := some rm }
  | .fmvXW rd fs1 => { xw := [rd], fr := [fs1], fin := [2] }
  | .fmvXD rd fs1 => { xw := [rd], fr := [fs1], fin := [1] }
  | .fclassS rd fs1 => { xw := [rd], fr := [fs1], fin := [2] }
  | .fclassD rd fs1 => { xw := [rd], fr := [fs1], fin := [1] }
  | .fmvWX fd rs1 => { xr := [rs1], fw := [fd], fout := 2 }
  | .fmvDX fd rs1 => { xr := [rs1], fw := [fd], fout := 1 }
  | .frecipS fd fs1 _ => { fr := [fs1], fw := [fd], fin := [2], fout := 2 }
  | .frecipD fd fs1 _ => { fr := [fs1], fw := [fd], fin := [1], fout := 1 }
  | .frecipH fd fs1 _ => { fr := [fs1], fw := [fd], fin := [3], fout := 3 }
  | .frecipBf fd fs1 _ => { fr := [fs1], fw := [fd], fin := [4], fout := 4 }
  | .frsqrtS fd fs1 _ => { fr := [fs1], fw := [fd], fin := [2], fout := 2 }
  | .frsqrtD fd fs1 _ => { fr := [fs1], fw := [fd], fin := [1], fout := 1 }
  | .frsqrtH fd fs1 _ => { fr := [fs1], fw := [fd], fin := [3], fout := 3 }
  | .frsqrtBf fd fs1 _ => { fr := [fs1], fw := [fd], fin := [4], fout := 4 }
  | .lbW rd rs1 rs2 _ => { xr := [rs1, rs2], xw := [rd], mem := true }
  | .lhW rd rs1 rs2 _ => { xr := [rs1, rs2], xw := [rd], mem := true }
  | .lwW rd rs1 rs2 _ => { xr := [rs1, rs2], xw := [rd], mem := true }
  | .ldW rd rs1 rs2 _ => { xr := [rs1, rs2], xw := [rd], mem := true }
  | .lbuW rd rs1 rs2 _ => { xr := [rs1, rs2], xw := [rd], mem := true }
  | .lhuW rd rs1 rs2 _ => { xr := [rs1, rs2], xw := [rd], mem := true }
  | .lwuW rd rs1 rs2 _ => { xr := [rs1, rs2], xw := [rd], mem := true }
  | .sbW rd rs1 rs2 _ => { xr := [rs1, rs2], xw := [rd], mem := true }
  | .shW rd rs1 rs2 _ => { xr := [rs1, rs2], xw := [rd], mem := true }
  | .swW rd rs1 rs2 _ => { xr := [rs1, rs2], xw := [rd], mem := true }
  | .sdW rd rs1 rs2 _ => { xr := [rs1, rs2], xw := [rd], mem := true }
  | .ldrem rd rs1 _ => { xr := [rs1], xw := [rd], mem := true }
  | .migrate rs1 => { xr := [rs1], mem := true }
  | .home rd rs1 => { xr := [rs1], xw := [rd] }
  | .padd rd rs1 rs2 => { xr := [rs1, rs2], xw := [rd] }
  | .wjoin rd rs1 rs2 => { xr := [rs1, rs2], xw := [rd] }
  | .wwait rs1 => { xr := [rs1] }
  | .wtest rd rs1 => { xr := [rs1], xw := [rd] }
  | .wself rd => { xw := [rd] }
  | .wcoarsen rd rs1 => { xr := [rs1], xw := [rd] }
  | .pfence _ => { mem := true }
  | .aaddP rd rs1 rs2 _ => { xr := [rs1, rs2], xw := [rd], mem := true }
  | .aandP rd rs1 rs2 _ => { xr := [rs1, rs2], xw := [rd], mem := true }
  | .aorP rd rs1 rs2 _ => { xr := [rs1, rs2], xw := [rd], mem := true }
  | .axorP rd rs1 rs2 _ => { xr := [rs1, rs2], xw := [rd], mem := true }
  | .aminP rd rs1 rs2 _ => { xr := [rs1, rs2], xw := [rd], mem := true }
  | .amaxP rd rs1 rs2 _ => { xr := [rs1, rs2], xw := [rd], mem := true }
  | .aminuP rd rs1 rs2 _ => { xr := [rs1, rs2], xw := [rd], mem := true }
  | .amaxuP rd rs1 rs2 _ => { xr := [rs1, rs2], xw := [rd], mem := true }
  | .afaddP rd rs1 rs2 _ => { xr := [rs1, rs2], xw := [rd], mem := true }
  | .aadd rd rs1 rs2 _ => { xr := [rs1, rs2], xw := [rd], mem := true }
  | .aswap rd rs1 rs2 _ => { xr := [rs1, rs2], xw := [rd], mem := true }
  | .acas rd rs1 rs2 _ => { xr := [rs1, rs2, rd], xw := [rd], mem := true }
  | .tdec rd rs1 _ => { xr := [rs1], xw := [rd], mem := true }
  | .spawn rs1 rs2 => { xr := [rs1, rs2], mem := true, tile := true }
  | .join rs1 => { xr := [rs1], mem := true }
  | .exit rs1 => { xr := [rs1], mem := true, tile := true }
  | .yield => { tile := true }
  | .tstart rd rs1 rs2 => { xr := [rs1, rs2], xw := [rd], who := .slot0, mem := true, tile := true }
  | .treap rd rs1 => { xr := [rs1], xw := [rd], who := .slot0, mem := true }
  | .tkill rs1 => { xr := [rs1], who := .slot0, tile := true }
  | .tarm rs1 rs2 => { xr := [rs1, rs2], mem := true }
  | .pin => { }
  | .unpin => { }
  | .gtopo rd _ => { xw := [rd] }
  | .irqsend rs1 rs2 => { xr := [rs1, rs2], mem := true }
  | .uiret => { }
  | .tracemark rs1 _ => { xr := [rs1] }
  | .ctxread rd rs1 _ => { xr := [rs1], xw := [rd], who := .slot0, tile := true }
  | .ctxwrite rs1 rs2 _ => { xr := [rs1, rs2], who := .slot0, tile := true }
  | .preempt => { who := .slot0, tile := true }
  | .resume rs1 => { xr := [rs1], who := .slot0, tile := true }
  | .gcreate rd rs1 => { xr := [rs1], xw := [rd], mem := true }
  | .gjoin rs1 => { xr := [rs1], mem := true }
  | .gleave rs1 => { xr := [rs1], mem := true }
  | .gsync rs1 => { xr := [rs1], mem := true }
  | .gcount rd rs1 => { xr := [rs1], xw := [rd], mem := true }
  | .gdissolve rs1 => { xr := [rs1], mem := true }
  | .binit rs1 rs2 => { xr := [rs1, rs2], mem := true }
  | .barrive rd rs1 => { xr := [rs1], xw := [rd], mem := true }
  | .bwait rs1 rs2 => { xr := [rs1, rs2], mem := true }
  | .btest rd rs1 rs2 => { xr := [rs1, rs2], xw := [rd], mem := true }
  | .bexpect rs1 rs2 => { xr := [rs1, rs2], mem := true }
  | .bcomplete rs1 rs2 => { xr := [rs1, rs2], mem := true }
  | .bretire rs1 => { xr := [rs1], mem := true }
  | .gang rs1 rs2 => { xr := [rs1, rs2], tile := true }
  | .bget rd _ => { xw := [rd], tile := true }
  | .bput rs1 _ => { xr := [rs1], tile := true }
  | .furrow rs1 rs2 => { xr := [rs1, rs2], tile := true }
  | .unfurrow => { tile := true }
  | .vfadd fd fs1 fs2 _ => { fr := [fs1, fs2], fw := [fd], tile := true }
  | .vfsub fd fs1 fs2 _ => { fr := [fs1, fs2], fw := [fd], tile := true }
  | .vfmul fd fs1 fs2 _ => { fr := [fs1, fs2], fw := [fd], tile := true }
  | .vfma fd fs1 fs2 _ => { fr := [fs1, fs2], fw := [fd], tile := true }
  | .vfmin fd fs1 fs2 _ => { fr := [fs1, fs2], fw := [fd], tile := true }
  | .vfmax fd fs1 fs2 _ => { fr := [fs1, fs2], fw := [fd], tile := true }
  | .vfdiv fd fs1 fs2 _ => { fr := [fs1, fs2], fw := [fd], tile := true }
  | .vfsqrt fd fs1 _ => { fr := [fs1], fw := [fd], tile := true }
  | .vcvt fd fs1 _ _ => { fr := [fs1], fw := [fd], tile := true }
  | .vfill fd fs1 _ => { fr := [fs1], fw := [fd], tile := true }
  | .vmov fd fs1 _ => { fr := [fs1], fw := [fd], tile := true }
  | .vaxpy fd fs1 fs2 _ => { fr := [fs1, fs2], fw := [fd], tile := true }
  | .vscal fd fs1 _ => { fr := [fs1], fw := [fd], tile := true }
  | .vdot fd fs1 fs2 _ => { fr := [fs1, fs2], fw := [fd], tile := true }
  | .vsum fd fs1 _ => { fr := [fs1], fw := [fd], tile := true }
  | .vmaxr fd fs1 _ => { fr := [fs1], fw := [fd], tile := true }
  | .viadd fd fs1 fs2 _ => { fr := [fs1, fs2], fw := [fd], tile := true }
  | .vgather fd fs1 fs2 _ => { fr := [fs1, fs2], fw := [fd], tile := true }
  | .scfg fd rs1 => { xr := [rs1], fw := [fd], tile := true }
  | .sen fd rs1 => { xr := [rs1], fw := [fd], tile := true }
  | .spos rd _ => { xw := [rd], tile := true }
  | .vwait => { tile := true }
  | .vstat rd => { xw := [rd], tile := true }
  | .mxop rd rs1 => { xr := [rs1], xw := [rd], mem := true, tile := true }
  | .mxg rd rs1 => { xr := [rs1], xw := [rd], mem := true, tile := true }
  | .mxstat rd rs1 => { xr := [rs1], xw := [rd], tile := true }
  | .mxcancel rs1 => { xr := [rs1], tile := true }
  | .cpyq rd => { xr := [10#5, 11#5, 12#5, 13#5], xw := [rd], mem := true, tile := true }
  | .cpyqNb rd => { xr := [10#5, 11#5, 12#5, 13#5], xw := [rd], mem := true, tile := true }
  | .cwptr rd rs1 => { xr := [rs1], xw := [rd], tile := true }
  | .cwait rs1 => { xr := [rs1], tile := true }
  | .lpost rd rs1 rs2 => { xr := [rs1, rs2], xw := [rd], mem := true }
  | .larm rd rs1 rs2 => { xr := [rs1, rs2], xw := [rd], mem := true }
  | .lcnt rd rs1 => { xr := [rs1], xw := [rd], mem := true }
  | .kappend rd rs1 => { xr := [rs1], xw := [rd], mem := true }
  | .qwake rs1 rs2 => { xr := [rs1, rs2], mem := true }
  | .hld rd rs1 => { xr := [rs1], xw := [rd], who := .mill }
  | .hst rs1 rs2 => { xr := [rs1, rs2], who := .mill }
  | .hnarrow rd rs1 rs2 => { xr := [rs1, rs2], xw := [rd], who := .mill }
  | .hdrop rd rs1 rs2 => { xr := [rs1, rs2], xw := [rd], who := .mill }
  | .hseek rd rs1 rs2 => { xr := [rs1, rs2], xw := [rd], who := .mill }
  | .hlock rd rs1 _ => { xr := [rs1], xw := [rd], who := .millM }
  | .hopen rd rs1 _ => { xr := [rs1], xw := [rd], who := .millM }
  | .hinfo rd rs1 _ => { xr := [rs1], xw := [rd], who := .mill }
  | .hmint rd rs1 rs2 => { xr := [rs1, rs2], xw := [rd], who := .millM }
  | .moduleReset _ _ => dflt
  | .selfTestEnd _ _ => dflt
  | .startEdge _ => dflt
  | .tickEdge _ => dflt
  | .gridWireDisagree _ _ => dflt
  | .fieldGridLoss _ => dflt
  | .coreAliveLoss _ => dflt
  | .suspectReport _ _ => dflt
  | .suspectVote _ => dflt
  | .suspectWindowExpiry _ => dflt
  | .standInAdoption _ => dflt
  | .evacuationRange _ _ => dflt
  | .mapEntryUpdate _ => dflt
  | .ownerMovedNotice _ => dflt
  | .drainWatchdog _ _ => dflt
  | .lowerOperatingPoint _ => dflt
  | .junctionOvertemp => dflt
  | .latencyPageRefresh _ => dflt
  | .sample _ => dflt
  | .slotAssign _ _ => dflt
  | .departure _ _ => dflt
  | .migrationArrival _ => dflt
  | .acceptanceNotice _ => dflt
  | .refusalNotice _ => dflt
  | .backoffExpiry _ _ => dflt
  | .arrivalCheck _ _ => dflt
  | .proxyRequest _ => dflt
  | .proxyReply _ => dflt
  | .postedStoreArrival _ => dflt
  | .settlementNotice _ => dflt
  | .refusalEntryFill _ => dflt
  | .refusalAckArrival _ => dflt
  | .refusalAckAnswer _ => dflt
  | .heldAccessPerform _ => dflt
  | .cacheFill _ => dflt
  | .walkComplete _ _ => dflt
  | .waitProbe _ => dflt
  | .testProbe _ => dflt
  | .waitProbeAnswer _ => dflt
  | .probeAnswer _ => dflt
  | .divideResult _ _ => dflt
  | .fdivFsqrtResult _ _ => dflt
  | .hostReadReply _ _ _ => dflt
  | .hostWriteCompletion _ => dflt
  | .frameExitArrival _ => dflt
  | .tdecArrival _ => dflt
  | .dequeResume _ => dflt
  | .stealRound _ => dflt
  | .stealRequest _ => dflt
  | .stealAnswer _ => dflt
  | .stealRetryExpiry _ => dflt
  | .groupRequest _ => dflt
  | .barrierRequest _ => dflt
  | .engineDecrement _ => dflt
  | .gangFormed _ => dflt
  | .gangWireArrival _ => dflt
  | .mxeWinSatisfied _ _ => dflt
  | .mxeSelect _ => dflt
  | .mxeKstepBoundary _ => dflt
  | .gangOpStart _ => dflt
  | .mxeBlockWritten _ => dflt
  | .mxeOpEnd _ => dflt
  | .mxstatResult _ _ => dflt
  | .channelStart _ => dflt
  | .channelWinSatisfied _ _ => dflt
  | .channelWrite _ _ _ => dflt
  | .copyCompletionInterrupt _ _ => dflt
  | .streamElementFetch _ _ _ => dflt
  | .streamOutputPerform _ _ _ => dflt
  | .vectorCommandComplete _ _ => dflt
  | .furrowWordTransfer _ => dflt
  | .kappendArrival _ => dflt
  | .kappendReply _ => dflt
  | .windowDecode _ => dflt
  | .windowIssue _ => dflt
  | .report _ => dflt
  | .windowRetire _ => dflt
  | .windowFault _ => dflt
  | .squashNotice _ => dflt
  | .windowKindComplete _ _ => dflt
  | .kbindWrite _ _ => dflt
  | .ksignalWrite _ => dflt
  | .kwaitRead _ _ _ => dflt
  | .kfenceComplete _ _ => dflt
  | .wakeWrite _ _ _ => dflt
  | .qwakeArrival _ => dflt
  | .doorbellStore _ => dflt
  | .doorbellInterrupt _ => dflt
  | .eventMsix _ => dflt
  | .lftWrite _ _ => dflt
  | .lftReadRequest _ _ => dflt
  | .lftReadReply _ _ _ => dflt
  | .lftPostedAtomic _ _ => dflt
  | .lftReturningAtomic _ _ => dflt
  | .lftAtomicReply _ _ _ => dflt
  | .lftTrigger _ _ => dflt
  | .lftAck _ _ => dflt
  | .lftNack _ _ => dflt
  | .lftSetup _ _ => dflt
  | .classSGapTimeout _ => dflt
  | .classSProgressTimeout _ _ => dflt
  | .classMResendTimeout _ => dflt
  | .connectionSetupRefresh _ => dflt
  | .linkRecordFire _ => dflt
  | .linkBridgeRequest _ => dflt
  | .linkBridgeReply _ => dflt
  | .hostMemWrite _ _ _ => dflt
  | .hostMemRead _ _ _ => dflt
  | .registerWrite _ _ _ => dflt
  | .form _ => dflt
  | .dissolve _ => dflt
  | .load _ _ => dflt
  | .qcreate _ => dflt
  | .qreset _ => dflt
  | .qrevoke _ => dflt
  | .readmit _ => dflt
  | .observeSamplePeriod _ => dflt
  | .observeBreakpoint _ => dflt
  | .observeWatchpoint _ => dflt
  | .endpoint _ => dflt
  | .route _ => dflt
  | .attest _ => dflt
  | .keyinstall _ => dflt
  | .svccap _ => dflt
  | .keyremove _ => dflt
  | .unpoison _ => dflt
  | .admitRange _ => dflt
  | .tilequery _ => dflt
  | .irqMessageArrival _ => dflt
  | .interruptTake _ => dflt
  | .wfiWake _ => dflt
  | .faultRecordArrival _ => dflt
  | .traceRecordArrival _ => dflt
  | .sfenceSelection _ => dflt
  | .sfenceAck _ => dflt
  | .mipWrite _ _ => dflt
  | .satpWrite _ _ => dflt
  | .arrcfgWrite _ _ => dflt
  | .fcsrAccess _ _ _ => dflt
  | .illegalInstruction _ => dflt
  | .tileSupplyLoss _ => dflt
  | .uncorrectableError _ _ _ => dflt
  | .cxlSnoop _ => dflt
where
  dflt : Uses := { }

end Sys2Proof.Machine
end

