-- ==== Sys2Proof/Machine/Ports.lean ====
section
/-! DEFINITION. Registers that are ports: f4 to f7 bound to streams and x15 of a furrow-bound context, with the scalar
operands read through them (06_float.md R126, R138, R139; 11_stream.md R206, R208, R225). -/
namespace Sys2Proof.Machine

/-! ### Boxing (R126) -/

/-- The width of a format code's scalar values. -/
def codeWidth (code : Nat) : Nat := ((Fmt.ofCode code).getD fp64).width

/-- A value of a format boxed into a register. -/
def box (code v : Nat) : Word := BitVec.ofNat 64 (2 ^ 64 - 2 ^ codeWidth code + v % 2 ^ codeWidth code)

/-- A register read as a format: the canonical NaN when its boxing fails. -/
def unbox (code : Nat) (w : Word) : Nat :=
  let F := (Fmt.ofCode code).getD fp64
  if w.toNat / 2 ^ F.width = 2 ^ (64 - F.width) - 1 then w.toNat % 2 ^ F.width else F.canonicalNan

/-! ### The walk of a stream (R206) -/

/-- The element offset of an index over the dimensions, innermost first. -/
def walkOff : List Nat → List Int → Nat → Int
  | c :: cs, d :: ds, i => (i % c : Nat) * d + walkOff cs ds (i / c)
  | _, _, _ => 0

/-- The byte address of an element in the scratchpad, and the nibble of a 4-bit one. -/
def Stream.place (y : Stream) (i : Nat) : Nat × Nat :=
  let e := walkOff y.counts y.strides i
  if y.width = 4 then
    let q := ((2 * y.base : Nat) + e : Int).toNat
    (q / 2, q % 2)
  else (((y.base : Int) + e * (y.width / 8 : Nat)).toNat, 0)

/-- The bits of an element in a tile's scratchpad. -/
def State.elemRaw (s : State) (t : Nat) (y : Stream) (i : Nat) : Nat :=
  let (a, h) := y.place i
  if y.width = 4 then leNat (s.rdMem (spadKey t a) 1) / 16 ^ h % 16
  else leNat (s.rdMem (spadKey t a) (y.width / 8))

/-- The scale code and group scale of an element's block. -/
def State.elemScales (s : State) (t : Nat) (y : Stream) (i : Nat) : Nat × Nat :=
  if y.fmt < 11 then (0, 0)
  else (leNat (s.rdMem (spadKey t (y.scodes + i / 64)) 1), leNat (s.rdMem (spadKey t (y.gscales + 4 * (i / 16384))) 4))

def State.readElem (s : State) (t : Nat) (y : Stream) (i : Nat) : Elem :=
  let (c, g) := s.elemScales t y i
  ⟨s.elemRaw t y i, c, g⟩

/-- An element written; a 4-bit one leaves the other nibble (R208). -/
def State.writeElem (s : State) (t : Nat) (y : Stream) (i raw : Nat) : State :=
  let (a, h) := y.place i
  let k := spadKey t a
  if y.width = 4 then
    let b := leNat (s.rdMem k 1)
    s.wrMem k [BitVec.ofNat 8 (if h = 0 then b / 16 * 16 + raw % 16 else raw % 16 * 16 + b % 16)]
  else s.wrMem k (leBytes (y.width / 8) raw)

/-! ### Conversions of elements (R208) -/

/-- A two's-complement number of w bits. -/
def toSigned (w v : Nat) : Int := if v % 2 ^ w < 2 ^ (w - 1) then (v % 2 ^ w : Nat) else (v % 2 ^ w : Nat) - (2 ^ w : Nat)

/-- An integer format's width and sign (02_numbers.md R37). -/
def intFmt : Nat → Option (Nat × Bool)
  | 7 => some (8, true)
  | 8 => some (8, false)
  | 9 => some (4, true)
  | 10 => some (4, false)
  | _ => none

/-- The exact value of an element that is not plain, with the flags of its block factor (R40, R208). -/
def Elem.val (fmt : Nat) (e : Elem) : FVal × Flags :=
  match Fmt.ofCode fmt with
  | some F => (F.value e.raw, 0#5)
  | none =>
    match intFmt fmt with
    | some (w, sg) => (FVal.ofInt (if sg then toSigned w e.raw else (e.raw % 2 ^ w : Nat)), 0#5)
    | none =>
      let (b, fl) := blockFactor e.code e.scale
      (scaleElement (if fmt = 11 then q4nValue e.raw else f4sValue e.raw) (fp32.value b), fl)

/-- A popped element in an operand's format (R138): a plain one as it stands. -/
def Stream.popped (y : Stream) (code : Nat) (e : Elem) : Nat × Flags :=
  if y.fmt = 0 then (e.raw, 0#5)
  else
    let (v, f1) := e.val y.fmt
    let (r, f2) := ((Fmt.ofCode code).getD fp64).ofValue .rne false v
    (r, f1 ||| f2)

/-- An exact value pushed to an element that is not plain (R208), with its block's scales. -/
def Stream.encodeVal (y : Stream) (scales : Nat × Nat) (x : FVal) : Nat × Flags :=
  match Fmt.ofCode y.fmt with
  | some F => F.ofValue .rne y.sat x
  | none =>
    match intFmt y.fmt with
    | some (w, sg) => x.toInt .rne y.sat sg w
    | none =>
      let (b, f1) := blockFactor scales.1 scales.2
      let (c, f2) := if y.fmt = 11 then toQ4n x (fp32.value b) else toF4s x (fp32.value b)
      (c, f1 ||| f2)

/-- A value of a scalar format pushed (R138). -/
def Stream.encode (y : Stream) (scales : Nat × Nat) (code v : Nat) : Nat × Flags :=
  if y.fmt = 0 then (v, 0#5) else y.encodeVal scales (((Fmt.ofCode code).getD fp64).value v)

/-- The scales of the block of an element about to be pushed: read at the block's first pushed element (R208). -/
def State.pushScales (s : State) (t : Nat) (y : Stream) (i : Nat) : Stream × (Nat × Nat) :=
  if y.fmt < 11 then (y, (0, 0))
  else
    match y.blk with
    | some (b, c, g) =>
      if b = i / 64 then (y, (c, g))
      else
        let p := s.elemScales t y i
        ({ y with blk := some (i / 64, p.1, p.2) }, p)
    | none =>
      let p := s.elemScales t y i
      ({ y with blk := some (i / 64, p.1, p.2) }, p)

/-! ### Operands of the issuing context -/

/-- The tile's furrow port if it is bound to the issuing context. -/
def State.myPort (s : State) : Option Furrow :=
  if s.cur.th.furrow then s.curT.port else none

/-- x15 of a furrow-bound context (R225). -/
def State.isPort (s : State) (r : XReg) : Bool := r == 15#5 && s.cur.th.furrow

/-- The n-th word of the inbound queue. -/
def State.inWord (s : State) (n : Nat) : Word :=
  match s.curT.port with
  | some P => P.inq.getD n 0
  | none => 0

/-- The first, second and third integer operand: x15 of a furrow-bound context takes the next inbound word (R225). -/
def State.x1 (s : State) (r : XReg) : Word := if s.isPort r then s.inWord 0 else s.cur.x r
def State.x2 (s : State) (r1 r : XReg) : Word :=
  if s.isPort r then s.inWord (if r1 = 15#5 then 1 else 0) else s.cur.x r
def State.x3 (s : State) (r1 r2 r : XReg) : Word :=
  if s.isPort r then s.inWord ((if r1 = 15#5 then 1 else 0) + (if r2 = 15#5 then 1 else 0)) else s.cur.x r

/-- A floating operand in a format, after the operands prev: the next element of a bound stream, or the register
(R126, R138). -/
def State.fArg (s : State) (prev : List FReg) (code : Nat) (r : FReg) : Nat × Flags :=
  let c := s.cur
  if c.bound r then
    let y := c.stream r
    match tget y.fetched (y.pos + prev.count r) with
    | some e => y.popped code e
    | none => (0, 0#5)
  else (unbox code (c.f r), 0#5)

/-- The same without a boxing check (R126: FMV.X, FSW, FSD). -/
def State.fBits (s : State) (code : Nat) (r : FReg) : Nat × Flags :=
  if s.cur.bound r then s.fArg [] code r else ((s.cur.f r).toNat % 2 ^ codeWidth code, 0#5)

/-- A floating result: boxed into the register, or pushed to the bound stream; its flags and those of the push are
raised (R126, R138, 02_numbers.md R44). -/
def State.setFv (s : State) (code : Nat) (r : FReg) (v : Nat) (fl : Flags) : State :=
  let c := s.cur
  if c.bound r then
    let (y, sc) := s.pushScales s.curTile (c.stream r) (c.stream r).pos
    let (raw, f2) := y.encode sc code v
    let y := { y with out := y.out ++ [(s.nextId, some raw)], pos := y.pos + 1 }
    { s with nextId := s.nextId + 1 }.modCur fun c => (c.setStream r y).orFlags (fl ||| f2)
  else s.modCur fun c => (c.setF r (box code v)).orFlags fl

/-! ### Port checks at issue -/

/-- The scalar operands that are bound streams. -/
def boundReads (u : Uses) (c : Ctx) : List FReg := if u.fin.isEmpty then [] else u.fr.filter c.bound
def boundWrites (u : Uses) (c : Ctx) : List FReg := if u.fout = 0 then [] else u.fw.filter c.bound

/-- How often x15 is read and written through the port. -/
def portReads (u : Uses) (c : Ctx) : Nat := if c.th.furrow then u.xr.count 15#5 else 0
def portWrites (u : Uses) (c : Ctx) : Nat := if c.th.furrow then u.xw.count 15#5 else 0

/-- An instruction that names a port. -/
def namesPort (u : Uses) (c : Ctx) : Bool :=
  !(boundReads u c).isEmpty || !(boundWrites u c).isEmpty || portReads u c != 0 || portWrites u c != 0

/-- The illegal uses of ports (R139, R208, R225): the wrong direction, a plain element of another width, x15 without
a neighbour. -/
def portsLegal (u : Uses) (s : State) : Bool :=
  let c := s.cur
  ((u.fr.zip u.fin).all fun (r, code) =>
    !c.bound r || ((c.stream r).dir == 1 && ((c.stream r).fmt != 0 || (c.stream r).width == codeWidth code))) &&
  ((boundWrites u c).all fun r =>
    (c.stream r).dir == 2 && ((c.stream r).fmt != 0 || (c.stream r).width == codeWidth u.fout)) &&
  (match s.myPort with
   | some P => (portReads u c == 0 || P.up.isSome) && (portWrites u c == 0 || P.dn.isSome)
   | none => true)

/-- The filled places at the head of an output stream perform, oldest first (11_stream.md R211). -/
def State.performOut (s : State) (t : Nat) (y : Stream) : List (Nat × Option Nat) → State × Stream
  | (_, some raw) :: l =>
    State.performOut (s.writeElem t y y.done raw) t { y with out := l, done := y.done + 1 } l
  | l => (s, { y with out := l })

/-- One output stream of a slot drained as far as its results have come. -/
def State.drainReg (s : State) (t c : Nat) (r : FReg) : State :=
  let y := ((s.tile t).slot c).stream r
  if y.dir = 2 then
    let (s, y) := s.performOut t y y.out
    s.modTile t fun T => T.setSlot c ((T.slot c).setStream r y)
  else s

/-- Every output stream of a slot drained as far as its results have come (R211, R212). -/
def State.drainSlot (s : State) (t c : Nat) : State :=
  [4#3, 5#3, 6#3, 7#3].foldl (fun s r => s.drainReg t c r) s

/-- No element pushed, or claimed by a vector command, is left to perform. -/
def Ctx.drained (c : Ctx) : Bool := c.streams.toList.all fun y => y.dir != 2 || (y.out.isEmpty && y.done == y.pos)

/-- An instruction that touches space 1 follows the context's pushed elements (R211) (log 65, DEDUCED). -/
def State.afterOutputs (s : State) (go : State → State) : State :=
  match s.focus with
  | .mill _ => go s
  | .tile t =>
    if s.cur.drained then go s
    else
      let s := s.drainSlot t s.curSlot
      if s.cur.drained then go s else s.forfeit

/-- What the port checks find. -/
inductive PortRes where
  | fine
  | stall
  | trap (cause : Nat) (tval : Word)
  /-- A furrow neighbour has retired: stream state, with the instruction word. -/
  | gone
deriving DecidableEq, Repr

/-- Whether a vector command of a context uses a register's stream (R139). -/
def Ctx.commandUses (c : Ctx) (r : FReg) : Bool :=
  c.vcmds.any fun v => v.fd == r || (v.a.isNone && v.fs1 == r) || (v.b.isNone && v.fs2 == r)

/-- One bound stream's check: a command running, the bounds, an element not fetched, a full buffer (R139). -/
def portStream (c : Ctx) (reads : List FReg) (r : FReg) : PortRes :=
  let y := c.stream r
  let k := reads.count r
  if c.commandUses r then .stall
  else if y.dir = 1 then
    if y.total < y.pos + k then .trap 28 (BitVec.ofNat 64 y.pos)
    else if (List.range k).all fun i => (tget y.fetched (y.pos + i)).isSome then .fine
    else .stall
  else if y.total ≤ y.pos then .trap 28 (BitVec.ofNat 64 y.pos)
  else if 16 ≤ y.out.length then .stall
  else .fine

/-- The furrow queues' check (R225, R226). -/
def portFurrow (u : Uses) (s : State) : PortRes :=
  match s.myPort with
  | none => .fine
  | some P =>
    let k := portReads u s.cur
    let w := portWrites u s.cur
    if P.inq.length < k then (if P.upGone then .gone else .stall)
    else if 0 < w && P.dnGone then .gone
    else if 0 < w && 8 ≤ P.outq.length then .stall
    else .fine

/-- The first port that does not let the instruction issue; traps before waits. Of several streams out of bounds, the source
operands come before fd (log 95, DEDUCED). -/
def portCheck (u : Uses) (s : State) : PortRes :=
  let c := s.cur
  let rs := (boundReads u c ++ boundWrites u c).map (portStream c (boundReads u c)) ++ [portFurrow u s]
  match rs.find? fun r => match r with
    | .trap _ _ | .gone => true
    | _ => false with
  | some r => r
  | none => if rs.contains .stall then .stall else .fine

/-- The elements and words popped by an instruction that has retired. -/
def State.consume (s : State) (u : Uses) : State :=
  let c := s.cur
  let c := (boundReads u c).foldl (fun c r =>
    let y := c.stream r
    c.setStream r { y with pos := y.pos + 1, done := y.done + 1, fetched := tdel y.fetched y.pos }) c
  let k := portReads u c
  let s := s.modCur fun _ => c
  if k = 0 then s
  else s.modTile s.curTile fun T => { T with port := T.port.map fun P => { P with inq := P.inq.drop k } }

end Sys2Proof.Machine
end

