-- ==== Sys2Proof/Machine/Records.lean ====
section
/-! DEFINITION. Time readings, fault records, trace records, breakpoints and watchpoints (18_fault.md R335,
21_observe.md R375 to R379, 05_scalar.md R119). -/
namespace Sys2Proof.Machine

/-- Whether a field counts edges (R354). -/
def Field.counting (F : Field) : Bool := F.started && !F.stopped && !F.gridLost

/-- The TICK of the counting field that is behind. -/
def State.leastTick (s : State) : Nat :=
  minD (s.field 0).tick ((s.fields.filter fun q => q.2.counting).map fun q => q.2.tick)

/-- FTIME read now (R355): the periods since the field's last edge, held at 999; 0 before the start edge. The reference time advances
freely, but no further than the next edge takes to reach every field (log 117, DESIGN CHOICE). -/
def State.readFtime (s : State) (t : Nat) : Nat × State :=
  let F := s.field (fieldOf t)
  if F.started then
    let (v, s) := s.free
    let now := max s.ns (min (1000 * (s.leastTick + 1) + 30) (s.ns + v))
    (min 999 (now - F.edge), { s with ns := now })
  else (0, s)

/-- pcoord bits 21:0 (R119). -/
def pcoord (t : Nat) : Nat := fieldOf t * 2 ^ 16 + lidxOf t * 2 ^ 12 + yOf t * 2 ^ 5 + xOf t

/-- A fault record's payload (R335). -/
def faultPayload (kind cause part rank mgen aux t tick : Nat) (addr info gtid : Word) : List Word :=
  [BitVec.ofNat 64 (kind * 2 ^ 56 + cause * 2 ^ 48 + part * 2 ^ 44 + rank * 2 ^ 32 + mgen % 2 ^ 32),
   BitVec.ofNat 64 (aux % 2 ^ 32 * 2 ^ 32 + pcoord t), BitVec.ofNat 64 tick, addr, info, gtid]

/-- A record sent to its partition's fault ring (R335). -/
def State.sendFault (s : State) (src : Node) (part : Nat) (payload : List Word) : State :=
  match tget s.parts part with
  | none => s
  | some P =>
    match tget s.rankTile P.faultRank with
    | none => s
    | some d => s.send src (.tile d) (some P.faultRank) 0 (.faultRec part payload)

/-- A record about a tile's own event, with the module's map generation (19_tile.md R353). -/
def State.tileFault (s : State) (t part kind cause aux : Nat) (addr info gtid : Word) : State :=
  s.sendFault (.tile t) part
    (faultPayload kind cause part (s.rankOf t) s.gen aux t (s.tickOf t) addr info gtid)

/-- A trace record on its way to the ring, or waiting for one of the tile's 16 places (R375) (log 37, DEDUCED). -/
def State.launchTrace (s : State) (t part : Nat) (payload : List Word) : State :=
  match tget s.parts part with
  | none => s
  | some P =>
    if P.traceSlots = 0 then s
    else if 16 ≤ (s.tile t).traceFlight then
      s.modTile t fun T => { T with traceWait := T.traceWait ++ [payload] }
    else
      match tget s.rankTile P.traceRank with
      | none => s
      | some d =>
        (s.modTile t fun T => { T with traceFlight := T.traceFlight + 1 }).send (.tile t) (.tile d)
          (some P.traceRank) 0 (.traceRec part t payload)

/-- A trace record's payload (R375), with FTIME as it was sampled. -/
def State.tracePayload (s : State) (t p kind tag src slot ft : Nat) (id value : Word) : List Word :=
  [BitVec.ofNat 64 (kind * 2 ^ 56 + p * 2 ^ 52 + s.rankOf t * 2 ^ 40 + (s.tile t).mapGen % 2 ^ 32),
   BitVec.ofNat 64 (tag % 2 ^ 32 * 2 ^ 32 + pcoord t), BitVec.ofNat 64 (s.tickOf t),
   BitVec.ofNat 64 (src * 2 ^ 36 + slot * 2 ^ 32 + ft), id, value]

/-- The sample records that wait are sent (R376). -/
def State.sendSamples (s : State) (t p : Nat) : State :=
  (s.tile t).samples.foldl (fun s w => s.launchTrace t p w) (s.modTile t fun T => { T with samples := [] })

/-- A tile creates a trace record (R375), sampling TICK and FTIME together; the sample records of the last edge go first. A
partition without a ring creates none. -/
def State.trace (s : State) (t kind tag src slot : Nat) (id value : Word) : State :=
  match s.partOf (s.rankOf t) with
  | none => s
  | some p =>
    match tget s.parts p with
    | none => s
    | some P =>
      if P.traceSlots = 0 then s
      else
        let (ft, s) := (s.sendSamples t p).readFtime t
        s.launchTrace t p (s.tracePayload t p kind tag src slot ft id value)

/-- The index of the breakpoint of its tile's table that a light context meets (R378, R380). -/
def State.breakHit (s : State) : Option Nat :=
  if s.full then none
  else
    let c := s.cur
    if c.bpSkip then none
    else
      (s.curT.obs.breaks.find? fun (_, g, m, pc) => c.th.gtid &&& m == g &&& m && c.th.pc == pc).map (·.1)

/-- Whether a watchpoint fires on a doubleword that changed from old to new (R379). -/
def watchFires (mode : Nat) (v k old new : Word) : Bool :=
  match mode with
  | 1 => new &&& k == v &&& k
  | 2 => new &&& k != old &&& k
  | _ => false

/-- The watchpoints of a home checked against one doubleword written: its global physical address, its old and new
value and the issuing rank (R379). -/
def State.checkWatch (s : State) (t gpa src : Nat) (old new : Word) : State :=
  (s.tile t).obs.watches.foldl (fun s (i, a, len, mode, v, k) =>
    if a ≤ gpa && decide (gpa < a + len) && watchFires mode v k old new then
      s.trace t 5 i src 0 (BitVec.ofNat 64 gpa) new
    else s) s

/-- Bytes written at a home in one perform instant: memory changes, and each doubleword touched is checked against
the watchpoints (R154, R379) (log 89, DEDUCED). -/
def State.homeWrite (s : State) (t off src : Nat) (bytes : List Byte) : State :=
  let s' := s.wrMem (dramKey t off) bytes
  if (s.tile t).obs.watches.isEmpty then s'
  else
    let rank := s.rankOf t
    let lo := off / 8
    let hi := (off + bytes.length - 1) / 8
    (List.range (hi + 1 - lo)).foldl (fun s' i =>
      let a := (lo + i) * 8
      s'.checkWatch t (rank * 2 ^ 33 + a) src (s.rdWord (dramKey t a)) (s'.rdWord (dramKey t a))) s'

end Sys2Proof.Machine
end

