-- ==== Sys2Proof/Machine/Issue.lean ====
section
/-! DEFINITION. The issue of an instruction: the checks that come before its own effect, in the order of
18_fault.md R328 items 2 to 4, and the reasons a turn is forfeited (03_encoding.md R60, R74, 04_context.md R82, R94). -/
namespace Sys2Proof.Machine

/-- What an instruction produces: a next state. -/
abbrev Out := Host.Outcome State Fault Refusal

/-- What the issue checks find. -/
inductive Gate where
  /-- The instruction has its own effect. -/
  | go
  /-- R74: an illegal instruction. -/
  | illegal
  /-- An empty register under policy 1: the register word of R327 code 24. -/
  | emptyTrap (reg : Nat)
  /-- An empty register under policy 0, or one that would be written: the turn is forfeited (R60). -/
  | parkReg (d : Dest)
  /-- An access of the context has not had its reply (R94). -/
  | busy
  /-- A breakpoint's table index (21_observe.md R378). -/
  | brk (index : Nat)
  /-- The instruction reads or writes a port that is ready: the effect, then the pops (06_float.md R138). -/
  | port
  /-- A port is not ready: the turn is forfeited (R139). -/
  | stall
  | trap (cause : Nat) (tval : Word)
  | gone
deriving DecidableEq, Repr

/-- Whether the slot and mode may execute it (R74 items 8 to 10). -/
def whoMay (u : Uses) (s : State) : Bool :=
  match u.who, s.focus with
  | .all, .tile _ => true
  | .all, .mill _ => !u.tile
  | .slot0, .tile _ => s.full
  | .slot0, .mill _ => !u.tile
  | .priv, .tile _ => s.full && s.mode != .u
  | .priv, .mill _ => s.mode != .u && !u.tile
  | .machine, _ => s.full && s.mode == .m
  | .mill, .tile _ => false
  | .mill, .mill _ => true
  | .millM, .tile _ => false
  | .millM, .mill _ => s.mode == .m

/-- Whether a register field is one the profile has (R74 item 5). -/
def regsPresent (u : Uses) (s : State) : Bool :=
  s.full || ((u.xr ++ u.xw).all fun r => decide (r.toNat < 16))

/-- Whether the rounding mode is legal (R74 item 7, R42). -/
def rmLegal (u : Uses) (s : State) : Bool :=
  match u.rm with
  | none => true
  | some rm => (Rnd.ofField rm s.cur.frm).isSome

/-- The first empty register an instruction reads: its policy and its register word. A bound register is always
full (06_float.md R138) (log 32, DESIGN CHOICE). -/
def firstEmpty (u : Uses) (c : Ctx) : Option (Bool × Dest) :=
  match u.xr.find? fun r => c.xEmpty r && !(c.th.furrow && r == 15#5) with
  | some r => some (c.xPolicy r, .x r)
  | none => (u.fr.find? fun r => c.fEmpty r && !c.bound r).map fun r => (c.fPolicy r, .f r)

/-- The first empty register it would write (R60: always blocks). -/
def writesEmpty (u : Uses) (c : Ctx) : Option Dest :=
  match u.xw.find? fun r => r != 0 && c.xEmpty r && !(c.th.furrow && r == 15#5) with
  | some r => some (.x r)
  | none => (u.fw.find? fun r => c.fEmpty r && !c.bound r).map .f

/-- A register's word in a trap value (18_fault.md R327 code 24). -/
def Dest.word : Dest → Nat
  | .x r => r.toNat
  | .f r => 32 + r.toNat
  | _ => 0

/-- The checks in order. An instruction that reads an empty register under policy 1 and also writes an empty one traps
(log 32, DESIGN CHOICE). -/
def gate (u : Uses) (s : State) : Gate :=
  if !(whoMay u s && regsPresent u s && rmLegal u s && portsLegal u s) then .illegal
  else
    match firstEmpty u s.cur with
    | some (true, r) => .emptyTrap r.word
    | some (false, r) => .parkReg r
    | none =>
      match writesEmpty u s.cur with
      | some r => .parkReg r
      | none =>
        if u.mem && s.cur.memBusy then .busy
        else
          match s.breakHit with
          | some i => .brk i
          | none =>
            if namesPort u s.cur then
              match portCheck u s with
              | .fine => .port
              | .stall => .stall
              | .trap c v => .trap c v
              | .gone => .gone
            else .go

/-- A breakpoint: its trace record, and the trap with cause 3 and the PC (R378). -/
def State.breakTrap (s : State) (i : Nat) : State :=
  let c := s.cur
  (s.trace s.curTile 4 i 0 s.curSlot c.th.gtid c.th.pc).trap 3 c.th.pc

/-- The issue of instruction i with the registers it uses: its own effect when every check passes (log 31, DEDUCED). -/
def issueAs (u : Uses) (i : Instr) (s : State) (k : State → State) : Out :=
  .next <|
    match gate u s with
    | .go => k s
    | .illegal => s.illegal i.word
    | .emptyTrap r => s.trap 24 (BitVec.ofNat 64 r)
    | .parkReg d => s.park (.reg d)
    | .busy => s.park .reply
    | .brk b => s.breakTrap b
    | .port =>
      let s := k (s.modCur fun c => { c with retired := false })
      if s.cur.retired then s.consume u else s
    | .stall => s.forfeit
    | .trap c v => s.trap c v
    | .gone => s.trap 29 (i.word.zeroExtend 64)

/-- The issue of instruction i (log 31, DEDUCED). -/
def issue (i : Instr) (s : State) (k : State → State) : Out := issueAs (usesOf i) i s k

/-- The issue of an instruction with a condition of its own under which it is illegal (R74 item 11): that check is the
first. -/
def issueIf (bad : Bool) (i : Instr) (s : State) (k : State → State) : Out :=
  if bad then .next (s.illegal i.word) else issue i s k

/-- An instruction whose whole effect is one value in an integer register, in its turn (05_scalar.md R102). -/
def aluOp (i : Instr) (rd : XReg) (v : State → Word) (s : State) : Out :=
  issue i s fun s => (s.setX rd (v s)).retire

end Sys2Proof.Machine
end

