-- ==== Sys2Proof/Machine/Cap.lean ====
section
/-! DEFINITION. Capabilities of the mill's cores and their checks (16_queue.md R312, R313). -/
namespace Sys2Proof.Machine

/-- The fields of a capability (R313). -/
def capLock (c : Word128) : Nat := c.toNat / 2 ^ 115 % 32
def capLen (c : Word128) : Nat := c.toNat / 2 ^ 90 % 2 ^ 24
def capBase (c : Word128) : Nat := c.toNat / 2 ^ 48 % 2 ^ 42
def capCursor (c : Word128) : Nat := c.toNat % 2 ^ 48
/-- The permission byte, bits 127:120: pr is bit 0, pw 1, plc 2, psc 3, px 4. -/
def capPerm (c : Word128) : Nat := c.toNat / 2 ^ 120 % 256
def capHas (c : Word128) (i : Nat) : Bool := c.getLsbD (120 + i)

/-- A register's 128 bits and tag on a mill core. -/
def MillCore.cap (K : MillCore) (r : XReg) : Word128 × Bool :=
  if r = 0 then (0, false) else (K.hi[r.toNat] ++ K.ctx.x r, K.tag[r.toNat])

/-- The first check of R313 that an access of m bytes at a fails; need lists the permission bits it needs. -/
def capCheck (c : Word128) (tag : Bool) (need : List Nat) (a m : Nat) : Option Nat :=
  if !tag then some 1
  else if capLock c != 0 then some 2
  else if !(need.all fun i => capHas c i) then some 3
  else if a < capBase c * 64 then some 4
  else if (capBase c + capLen c) * 64 < a + m then some 5
  else if a % m != 0 then some 6
  else if 2 ^ 46 ≤ a then some 7
  else none

/-- The capability fault (R312, 18_fault.md R327 code 52); the capability is noted for the firmware's record (R307). -/
def State.capFault (s : State) (r : XReg) (check : Nat) : State :=
  let s := s.trap 52 (BitVec.ofNat 64 (check * 256 + r.toNat))
  match s.focus with
  | .mill k => { s with mills := tput s.mills k { s.mill k with blame := some ((s.mill k).cap r).1 } }
  | .tile _ => s

/-- The tag of the aligned 16 bytes at an SRAM offset cleared: what an ordinary store leaves there is no capability
(log 17, DEDUCED). -/
def State.clearTag (s : State) (off : Nat) : State :=
  { s with sramTags := s.sramTags.filter fun u => u != off / 16 }

end Sys2Proof.Machine
end

