-- ==== Sys2Proof/Machine/Operands.lean ====
section
/-! DEFINITION. Operands in memory: pointers, translation, homes (01_wafer.md R26 to R30, 05_scalar.md R106 to R111,
17_page.md R316 to R324). -/
namespace Sys2Proof.Machine

/-! ### Pointers -/

/-- The effective pointer (R106): the offset moves the 52-bit address only. -/
def effPtr (base off : Word) : Word :=
  base.extractLsb' 52 12 ++ (base.extractLsb' 0 52 + off.extractLsb' 0 52)

/-- The space of a pointer (R26). -/
def ptrSpace (p : Word) : Nat := fld p 63 60
/-- The format code of a pointer (R26, R27). -/
def ptrFmt (p : Word) : Nat := fld p 59 56
/-- The blocklog field of a pointer (R26). -/
def ptrBlock (p : Word) : Nat := fld p 55 52
/-- The address field of a pointer. -/
def ptrAddr (p : Word) : Nat := fld p 51 0

/-- The kind of an access: whether its faults are a store's, and the permissions it needs (17_page.md R319). -/
structure AKind where
  store : Bool
  r : Bool
  w : Bool
  x : Bool
deriving DecidableEq, Repr

/-- A load (R319). -/
def akLoad : AKind := ⟨false, true, false, false⟩
/-- A store, posted atomic, TDEC or engine write. -/
def akStore : AKind := ⟨true, false, true, false⟩
/-- A returning atomic: its faults are a load's (07_witness.md R164). -/
def akRet : AKind := ⟨false, true, true, false⟩
/-- JOIN, TARM, the group and barrier instructions: R and W, with a store's faults (R168, R178, R185, R192) (log 35, DEDUCED). -/
def akRetS : AKind := ⟨true, true, true, false⟩
/-- A fetch. -/
def akFetch : AKind := ⟨false, false, false, true⟩

/-- The causes of an access kind's misalignment, access fault and page fault (18_fault.md R327). -/
def AKind.misaligned (k : AKind) : Nat := if k.x then 0 else if k.store then 6 else 4
def AKind.access (k : AKind) : Nat := if k.x then 1 else if k.store then 7 else 5
def AKind.page (k : AKind) : Nat := if k.x then 12 else if k.store then 15 else 13

/-- The endpoint and the offset of a space-3 pointer (R28). -/
def peerEp (p : Word) : Nat := ptrAddr p / 2 ^ 34
def peerOff (p : Word) : Nat := ptrAddr p % 2 ^ 34

/-- Where an access performs (R28, R29). -/
inductive Loc where
  | spad (off : Nat)
  /-- A rank and an offset; through a replicated page, or through one with XP set (R320). -/
  | dram (rank off : Nat) (rep xp : Bool)
  | host (addr : Nat)
  | peer (ptr : Word)
  /-- The bridges' SRAM, reached by mill cores (16_queue.md R312). -/
  | sram (off : Nat)
deriving DecidableEq, Repr

/-- What translation answers. -/
inductive Xlat where
  | ok (l : Loc)
  /-- A page fault or an access fault of the access's kind. -/
  | pageFault
  | accessFault
  /-- A miss in the tile TLB: the instruction replays (R101). -/
  | miss (host : Bool) (va : Nat)
deriving DecidableEq, Repr

/-! ### Translation (R316 to R322) -/

/-- The mode an access of the issuing slot translates in: none is untranslated (R316, R319, R120 MPRV); a mill core's addresses
are physical (16_queue.md R312). -/
def State.xlatMode (s : State) (fetch : Bool) : Option Mode :=
  match s.focus with
  | .mill _ => none
  | .tile _ =>
    let p := s.priv s.focus
    if fld p.satp 63 60 = 0 then none
    else
      match s.mode with
      | .m =>
        if !fetch && bit p.mstatus 17 then
          match Mode.ofCode (fld p.mstatus 12 11) with
          | .m => none
          | o => some o
        else none
      | o => some o

/-- A leaf's permission check (R319). -/
def leafGrants (k : AKind) (leaf : Word) (mode : Mode) (full mxr sum : Bool) : Bool :=
  let r := bit leaf 1
  let w := bit leaf 2
  let x := bit leaf 3
  let u := bit leaf 5
  (!k.r || r || (mxr && x && !k.w)) && (!k.w || w) && (!k.x || x) &&
  (match mode with
   | .u => u
   | _ => !u || (full && sum && !k.x))

/-- Whether an asid's entry serves a page (R321). -/
def TlbEntry.covers (e : TlbEntry) (host : Bool) (asid va : Nat) : Bool :=
  e.host == host && (bit e.leaf 7 || e.asid == asid) && e.va ≤ va && decide (va < e.va + 2 ^ e.size)

/-- A leaf's physical address resolved for an access (R320): the location, or an access fault. A fetch needs REP
(R100). -/
def State.resolve (s : State) (k : AKind) (e : TlbEntry) (va : Nat) : Xlat :=
  let pageOff := va - e.va
  let ppn := fld e.leaf 51 16 * 65536
  let pa := ppn / 2 ^ e.size * 2 ^ e.size + pageOff
  if e.host then .ok (.host pa)
  else
    let rep := bit e.leaf 8
    let xp := bit e.leaf 9
    if rep then .ok (.dram s.curRank (pa % 2 ^ 33) true false)
    else if k.x then .accessFault
    else
      let rank := pa / 2 ^ 33
      if !xp && s.partOf rank != s.curPart then .accessFault
      else .ok (.dram rank (pa % 2 ^ 33) false xp)

/-- An access's pointer translated on the issuing tile (R28, R316 to R321). -/
def State.xlat (s : State) (k : AKind) (p : Word) : Xlat :=
  let a := ptrAddr p
  match ptrSpace p with
  | 1 =>
    if s.focus != .tile s.curTile || 2 ^ 23 ≤ a || (s.mode == .u && decide (a < 0x10000)) then .accessFault else .ok (.spad a)
  | 3 => .ok (.peer p)
  | 0 | 2 =>
    let host := ptrSpace p == 2
    match s.xlatMode k.x with
    | none =>
      if host then .ok (.host a)
      else if 2 ^ 45 ≤ a || s.grade ≤ a / 2 ^ 33 then .accessFault
      else .ok (.dram (a / 2 ^ 33) (a % 2 ^ 33) false false)
    | some mode =>
      let P := s.priv s.focus
      let asid := fld P.satp 59 44
      match s.curT.tlb.find? fun e => e.covers host asid a with
      | some e =>
        if leafGrants k e.leaf mode s.full (bit P.mstatus 19) (bit P.mstatus 18) then s.resolve k e a
        else .pageFault
      | none =>
        match s.cur.walkFault with
        | some (va, acc) => if va = a / 65536 * 65536 then (if acc then .accessFault else .pageFault) else .miss host a
        | none => .miss host a
  | _ => .accessFault

/-- The translation of an access: one that a context has migrated for was translated at its source, and is not again
(R324; log 94, DEDUCED). -/
def State.xlatOnce (s : State) (k : AKind) (p : Word) : Xlat :=
  match s.cur.carried with
  | some (q, off) => if q = p then .ok (.dram s.curRank off false false) else s.xlat k p
  | none => s.xlat k p

/-- The entry an access hit becomes the most recently used (R321). -/
def State.touchTlb (s : State) (host : Bool) (a : Nat) : State :=
  let asid := fld (s.priv s.focus).satp 59 44
  match takeFirst (fun e => TlbEntry.covers e host asid a) s.curT.tlb with
  | some (e, r) => s.modTile s.curTile fun T => { T with tlb := e :: r }
  | none => s

/-- The entry that translated a pointer of the issuing slot, if one did. -/
def State.touch (s : State) (p : Word) : State :=
  if (s.xlatMode false).isSome && (ptrSpace p == 0 || ptrSpace p == 2) then s.touchTlb (ptrSpace p == 2) (ptrAddr p) else s

/-- An entry put into a tile TLB: 64 entries, the least recently used one leaves (R321). -/
def Tile.fillTlb (T : Tile) (e : TlbEntry) : Tile :=
  { T with tlb := (e :: T.tlb.filter (fun o => !(o.va == e.va && o.host == e.host && o.asid == e.asid))).take 64 }

/-- An entry put into a field TLB: eight ways a set, least recently used first out (R321); which set a page lies in
is free (log 2, DESIGN CHOICE). -/
def Field.fillTlb (F : Field) (e : TlbEntry) : Field :=
  let rest := F.tlb.filter fun o => !(o.va == e.va && o.host == e.host && o.asid == e.asid)
  let set := Config.tlbSet e.va % 256
  let inSet := fun o : TlbEntry => Config.tlbSet o.va % 256 == set
  if (rest.filter inSet).length < 8 then { F with tlb := e :: rest }
  else
    match takeFirst inSet rest.reverse with
    | some (_, r) => { F with tlb := e :: r.reverse }
    | none => { F with tlb := e :: rest }

/-- The most recently used field TLB entry that serves an address, now in front (R321); none on a miss. -/
def Field.hit (F : Field) (host : Bool) (asid a : Nat) : Option (TlbEntry × Field) :=
  (takeFirst (fun e => TlbEntry.covers e host asid a) F.tlb).map fun (e, r) => (e, { F with tlb := e :: r })

/-- A tile TLB miss of a slot, or of the tile's engines (R322): the field TLB answers, or a walk for the page starts or is
joined; a field runs at most 384 walks. -/
def State.startXlatFor (s : State) (t c : Nat) (satp : Word) (host : Bool) (a : Nat) : State :=
  let f := fieldOf t
  let asid := fld satp 59 44
  let va := a / 65536 * 65536
  match (s.field f).hit host asid a with
  | some (e, F) => (s.modField f fun _ => F).modTile t fun T => T.fillTlb e
  | none =>
    s.modField f fun F =>
      let me := (t, c)
      let same (w : Walk) : Bool := w.va == va && w.host == host && w.asid == asid && !w.stale
      if F.walks.any same then
        let join (w : Walk) : Walk := if w.waiters.contains me then w else { w with waiters := w.waiters ++ [me] }
        { F with walks := F.walks.map fun w => if same w then join w else w }
      else if F.walks.length < 384 then
        { F with walks := F.walks ++ [⟨va, host, asid, 3, fld satp 27 0 * 2 ^ 17, [me], false⟩] }
      else F

/-- The issuing slot's miss. -/
def State.startXlat (s : State) (host : Bool) (a : Nat) : State :=
  s.startXlatFor s.curTile s.curSlot (s.priv s.focus).satp host a

/-- A replayed issue (R101): the fill or translation starts, and nothing else happens. -/
def State.replay (s : State) (f : State → State) : State :=
  let now := (s.curT).cycles
  (f s).modCur fun c => { c with st := .ready, replayFrom := some (c.replayFrom.getD now) }

/-- A pointer's checks and translation for an access of n bytes, in the order of R328 item 6: alignment, page fault,
access fault; then the continuation at the location. -/
def State.withLoc (s : State) (k : AKind) (n : Nat) (p : Word) (go : Loc → State → State) : State :=
  if ptrAddr p % n != 0 then s.trap k.misaligned p
  else
    match s.xlatOnce k p with
    | .pageFault => s.trap k.page p
    | .accessFault => s.trap k.access p
    | .miss host a => s.replay fun s => s.startXlat host a
    | .ok (.spad off) => s.afterOutputs (go (.spad off))
    | .ok l => go l (s.touch p)

/-- A mill core's access (16_queue.md R312): the base register as a capability, its cursor moved by the offset. -/
def State.withCap (s : State) (K : MillCore) (k : AKind) (n : Nat) (base : XReg) (p : Word)
    (go : Loc → State → State) : State :=
  let a := fld p 47 0
  let (c, tag) := K.cap base
  match capCheck c tag ((if k.r then [0] else []) ++ if k.w then [1] else []) a n with
  | some check => s.capFault base check
  | none =>
    if 2 ^ 45 ≤ a then go (.sram (a - 2 ^ 45)) s
    else if s.grade ≤ a / 2 ^ 33 then s.trap k.access p
    else go (.dram (a / 2 ^ 33) (a % 2 ^ 33) false false) s

/-- The address of a load, store or atomic from its base register: a pointer on a tile, a capability on a mill
core. -/
def State.withBase (s : State) (k : AKind) (n : Nat) (base : XReg) (p : Word) (go : Loc → State → State) : State :=
  match s.focus with
  | .tile _ => s.withLoc k n p go
  | .mill m => s.withCap (s.mill m) k n base p go

/-! ### Homes -/

/-- The poison map's mark of a range of a tile's rank (R323): 0 good, 1 poisoned, 2 lost fallow data. -/
def State.poison (s : State) (t off : Nat) : Nat := tgetD (s.tile t).box.poison (off / 65536) 0

/-- True while a range of an adopter has not been evacuated (19_tile.md R350). -/
def State.awaiting (s : State) (t off : Nat) : Bool :=
  match (s.tile t).evac with
  | some (_, next) => decide (next ≤ off / 65536)
  | none => false

/-- The line of a DRAM offset (R16: 64-byte lines). -/
def lineOf (off : Nat) : Nat := off / 64

/-- The key in memory of a local location on a tile. -/
def Loc.key (t : Nat) : Loc → Nat
  | .spad off => spadKey t off
  | .dram _ off _ _ => dramKey t off
  | .sram off => sramKey off
  | _ => 0

/-- The HOME class and bank of a location seen from a tile (05_scalar.md R113, 21_observe.md R373): accumulator
16 × class + bank. -/
def State.accOf (s : State) (t : Nat) : Loc → Nat
  | .spad _ => 0
  | .dram rank off rep _ =>
    let bank := off / 256 % 16
    if rep || s.rankOf t == rank then bank
    else
      match s.mapOf t rank with
      | some d => (if fieldOf d = fieldOf t then 16 else 32) + bank
      | none => 32 + bank
  | .host _ => 48
  | .peer _ => 49
  | .sram _ => 49

/-- The format code in which a floating load gives its value (06_float.md R136). -/
def Ext.code : Ext → Nat
  | .box32 => 2
  | _ => 1

/-- A value read from memory widened to 64 bits (R107, 06_float.md R136). -/
def Ext.apply (e : Ext) (v : Nat) : Word :=
  match e with
  | .s8 => (BitVec.ofNat 8 v).signExtend 64
  | .s16 => (BitVec.ofNat 16 v).signExtend 64
  | .s32 => (BitVec.ofNat 32 v).signExtend 64
  | .d64 => BitVec.ofNat 64 v
  | .u8 => BitVec.ofNat 64 (v % 2 ^ 8)
  | .u16 => BitVec.ofNat 64 (v % 2 ^ 16)
  | .u32 => BitVec.ofNat 64 (v % 2 ^ 32)
  | .box32 => 0xFFFFFFFF#32 ++ BitVec.ofNat 32 v

/-- The size of the access behind an extension. -/
def Ext.size : Ext → Nat
  | .s8 | .u8 => 1
  | .s16 | .u16 => 2
  | .s32 | .u32 | .box32 => 4
  | .d64 => 8

/-- The new memory value of a posted atomic (07_witness.md R163); AFADD.P rounds by RNE and raises no flag. -/
def AtomOp.apply (op : AtomOp) (m v : Word) : Word :=
  match op with
  | .add => m + v
  | .and => m &&& v
  | .or => m ||| v
  | .xor => m ^^^ v
  | .min => if m.slt v then m else v
  | .max => if m.slt v then v else m
  | .minu => if m.ult v then m else v
  | .maxu => if m.ult v then v else m
  | .fadd => BitVec.ofNat 64 (fp64.add .rne m.toNat v.toNat).1

/-- The new memory value of a returning atomic (R164). -/
def RetOp.apply (op : RetOp) (m v cmp : Word) : Word :=
  match op with
  | .add => m + v
  | .swap => v
  | .cas => if m = cmp then v else m

end Sys2Proof.Machine
end

