-- ==== Sys2Proof/Machine/Contain.lean ====
section
/-! DEFINITION. The buffer arena of a partition and the containment of kernel entries (14_kernel.md R265, R266, R275,
R276; 15_kernel_instructions.md R293, R295). -/
namespace Sys2Proof.Machine

/-- A class's per-tile size (R265). -/
def classSize (c : Nat) : Nat := 2 ^ (16 + c)

/-- A buffer's class and arena offset, walking the classes from c - 1 down (R266). -/
def locateFrom (counts : List Nat) (p : Nat) : Nat → Nat → Nat → Option (Nat × Nat)
  | 0, _, _ => none
  | c + 1, first, base =>
    let n := counts.getD c 0
    if p < first + n then some (c, base + (p - first) * classSize c)
    else locateFrom counts p c (first + n) (base + n * classSize c)

/-- The class and arena offset off(p) of physical buffer p (R266). -/
def Window.locate (W : Window) (p : Nat) : Option (Nat × Nat) := locateFrom W.counts p 16 0 0

/-- The buffers of a class, in increasing number (R266, R268). -/
def Window.ofClass (W : Window) (c : Nat) : List Nat :=
  let first := ((List.range 16).filter (c < ·)).foldl (fun a j => a + W.counts.getD j 0) 0
  (List.range (W.counts.getD c 0)).map (first + ·)

/-- The part, kind and stream position of a GTID (R293). -/
def gtidPart (g : Word) : Nat := fld g 63 60
def gtidKernel (g : Word) : Bool := bit g 59
def gtidPos (g : Word) : Nat := fld g 58 27

/-- The partition and stream position of the contained entry that a GTID names (R275); an entry's exposure is
remembered after it leaves the window (log 16, DEDUCED). -/
def State.containedOf (s : State) (g : Word) : Option (Nat × Nat) :=
  if gtidKernel g then
    match tget s.parts (gtidPart g) with
    | some P => if tget P.win.exposed (gtidPos g) = some false then some (gtidPart g, gtidPos g) else none
    | none => none
  else none

/-- Whether a byte range of a rank lies in a buffer whose writer is the entry (R275). -/
def State.extentOf (s : State) (part pos rank off n : Nat) : Bool :=
  match tget s.parts part with
  | none => false
  | some P =>
    P.ranks.contains rank &&
    P.win.writers.any fun (p, w) => w == pos &&
      (match P.win.locate p with
       | some (c, o) => decide (P.win.abase + o ≤ off) && decide (off + n ≤ P.win.abase + o + classSize c)
       | none => false)

/-- Whether an entry may write n bytes at a location (R275): scratchpad always, space 0 within its extents, space 2
and 3 never. -/
def State.mayWriteAs (s : State) (k : Option (Nat × Nat)) (l : Loc) (n : Nat) : Bool :=
  match k with
  | none => true
  | some (part, pos) =>
    match l with
    | .spad _ => true
    | .dram rank off rep _ => s.extentOf part pos (if rep then s.curRank else rank) off n
    | _ => false

/-- The contained entry of the issuing context. -/
def State.kernelOf (s : State) : Option (Nat × Nat) := s.containedOf s.cur.th.gtid
def State.kernelPos (s : State) : Option Nat := s.kernelOf.map (·.2)

/-- Whether the issuing context may write there. -/
def State.mayWrite (s : State) (l : Loc) (n : Nat) : Bool := s.mayWriteAs s.kernelOf l n

/-- Whether a virtual address is the frame of a task block of the partition (R275). -/
def State.taskFrame (s : State) (part : Nat) (ptr : Word) : Bool :=
  match tget s.parts part with
  | none => false
  | some P =>
    ptrSpace ptr == 0 && decide (P.win.tbva ≤ ptrAddr ptr) &&
    (let d := ptrAddr ptr - P.win.tbva
     decide (d / 0x10000 < P.ranks.length) && d % 0x10000 % 64 == 0 && decide (d % 0x10000 / 64 < 8))

/-- A trap with cause 27 for the instructions a contained context may not issue (R275): its value is the word. -/
def State.notContained (s : State) (i : Instr) (go : State → State) : State :=
  match s.kernelOf with
  | some _ => s.trap 27 (i.word.zeroExtend 64)
  | none => go s

end Sys2Proof.Machine
end

