-- ==== Sys2Proof/Machine/Witness.lean ====
section
/-! DEFINITION. Witnesses, the own-store table, wait fields and probes (07_witness.md R141 to R152), and the witness
instructions WJOIN, WCOARSEN, WSELF, WWAIT, WTEST and PFENCE (R159 to R162). -/
namespace Sys2Proof.Machine

/-! ### Values (R141, R142) -/

def witKind (w : Word) : Nat := fld w 63 62
def witSrc (w : Word) : Nat := fld w 61 50
def witDst (w : Word) : Nat := fld w 49 38
def witSeq (w : Word) : Nat := fld w 37 0
def witTick (w : Word) : Nat := fld w 61 0

def pairWit (src dst seq : Nat) : Word := BitVec.ofNat 64 (2 ^ 62 + src * 2 ^ 50 + dst * 2 ^ 38 + seq % 2 ^ 38)
def tickWit (t : Nat) : Word := BitVec.ofNat 64 (2 ^ 63 + t % 2 ^ 62)
def poisonWit (src jidx : Nat) : Word := BitVec.ofNat 64 (3 * 2 ^ 62 + src * 2 ^ 50 + jidx * 2 ^ 40)

/-- Whether a witness is well formed for a grade's exposed count (R142). -/
def witWf (grade : Nat) (w : Word) : Bool :=
  match witKind w with
  | 0 => w == 0
  | 1 => decide (witSrc w < grade) && decide (witDst w < grade)
  | 2 => true
  | _ => fld w 39 0 == 0 && decide (witSrc w < grade)

/-- The join of two well-formed witnesses at a TICK (R149). -/
def wjoin (tick : Nat) (a b : Word) : Word :=
  if witKind a = 3 then a
  else if witKind b = 3 then b
  else if witKind a = 0 then b
  else if witKind b = 0 then a
  else if witKind a = 1 && witKind b = 1 && fld a 61 38 == fld b 61 38 then
    if (witSeq a + 2 ^ 38 - witSeq b) % 2 ^ 38 < 2 ^ 37 then a else b
  else if witKind a = 2 && witKind b = 2 then if witTick b ≤ witTick a then a else b
  else
    let t := (tick + 1) % 2 ^ 62
    let t := if witKind a = 2 then max t (witTick a) else t
    let t := if witKind b = 2 then max t (witTick b) else t
    tickWit t

/-- The coarsening of a well-formed witness (R149). -/
def wcoarsen (tick : Nat) (a : Word) : Word := if witKind a = 1 then tickWit (tick + 1) else a

/-! ### The own-store table (R150) -/

/-- The occupied positions, oldest first. -/
def Thread.ownList (h : Thread) : List Word := h.own.toList.filter (· != 0)

/-- A table with these entries, nulls above. -/
def packOwn (l : List Word) : Vector Word 4 := #v[l.getD 0 0, l.getD 1 0, l.getD 2 0, l.getD 3 0]

/-- The update by a posted store's pair witness (R150). -/
def Thread.ownStore (h : Thread) (tick : Nat) (w : Word) : Thread :=
  let l := h.ownList
  if l.any fun e => fld e 61 38 == fld w 61 38 then
    { h with own := packOwn ((l.filter fun e => fld e 61 38 != fld w 61 38) ++ [w]) }
  else
    match takeFirst (fun e => witDst e == witDst w) l with
    | some (e, r) => { h with own := packOwn (r ++ [w]), ownOver := wjoin tick h.ownOver (wcoarsen tick e) }
    | none =>
      match l with
      | [a, b, c, d] => { h with own := packOwn [b, c, d, w], ownOver := wjoin tick h.ownOver (wcoarsen tick a) }
      | _ => { h with own := packOwn (l ++ [w]) }

/-- WSELF: the join of the table and the overflow, in position order (R159). -/
def Thread.wself (h : Thread) (tick : Nat) : Word :=
  (h.own.toList ++ [h.ownOver]).foldl (wjoin tick) 0

/-- The first malformed word of a context's table (R142): a position must be null or a well-formed pair, the
overflow null or a tick. -/
def Thread.ownBad (h : Thread) (grade : Nat) : Option Word :=
  match h.own.toList.find? fun e => !(e == 0 || (witKind e == 1 && witWf grade e)) with
  | some e => some e
  | none => if h.ownOver == 0 || witKind h.ownOver == 2 then none else some h.ownOver

/-- The occupied positions moved down (R332). -/
def Thread.ownCompact (h : Thread) : Thread := { h with own := packOwn h.ownList }

/-- The entry for a destination rank, null if there is none (R94, R151). -/
def Thread.ownFor (h : Thread) (rank : Nat) : Word := (h.ownList.find? fun e => witDst e == rank).getD 0

/-- An entry found satisfied leaves (R150). -/
def Thread.ownDrop (h : Thread) (e : Word) : Thread := { h with own := packOwn (h.ownList.filter (· != e)) }

/-! ### Checks (R144, R146, R147) -/

/-- What a check reports. -/
inductive Check where
  | satisfied | outstanding | poison
deriving DecidableEq, Repr

/-- A pair witness checked on the tile that holds its destination rank (R144, R147). -/
def Tile.checkPair (T : Tile) (w : Word) : Check :=
  let c := tgetD T.box.settled (witSrc w) 0
  let g := (witSeq w + 2 ^ 38 - c) % 2 ^ 38
  if 1 ≤ g && g ≤ 1024 then .outstanding
  else
    match tget T.box.marks (witSrc w) with
    | some m => if (witSeq w + 2 ^ 38 - m.seq) % 2 ^ 38 < 2 ^ 37 then .poison else .satisfied
    | none => .satisfied

/-- Any well-formed witness checked on a tile where it can be checked (R144 to R147); none when a pair names
another rank. -/
def State.checkOn (s : State) (t : Nat) (w : Word) : Option Check :=
  match witKind w with
  | 0 => some .satisfied
  | 1 => if s.rankOf t = witDst w then some ((s.tile t).checkPair w) else none
  | 2 => some (if witTick w ≤ (s.tile t).dtick then .satisfied else .outstanding)
  | _ => some .poison

/-- A witness checked by a node without a probe: a bridge holds no rank (R145). -/
def State.checkAtNode (s : State) (n : Node) (w : Word) : Option Check :=
  match n with
  | .tile t => s.checkOn t w
  | .bridge b => if witKind w = 1 then none else s.checkOn (bridgeTile b) w

/-- What an instruction's check finds: an answer, or what it must wait for. -/
inductive WaitRes where
  | satisfied
  | poison
  | wait
  /-- A probe must be sent (R145). -/
  | probe
deriving DecidableEq, Repr

/-- What a check and the answer of a probe, if one was sent, come to. -/
def waitRes (here : Option Check) (asked : Option (Option ProbeAns)) : WaitRes :=
  match here with
  | some .satisfied => .satisfied
  | some .poison => .poison
  | some .outstanding => .wait
  | none =>
    match asked with
    | some (some .satisfied) => .satisfied
    | some (some .poison) => .poison
    | some _ => .wait
    | none => .probe

/-- A witness as a context finds it, a probe's answer included (R145). -/
def State.checkFor (s : State) (a : Agent) (x : Ctx) (w : Word) : WaitRes :=
  waitRes (s.checkAtNode a.node w) ((x.probes.find? fun q => q.key == .wit w).map (·.ans))

/-- A witness as the issuing context finds it. -/
def State.checkCur (s : State) (w : Word) : WaitRes := s.checkFor s.focus s.cur w

/-! ### Probes of shells, engines, windows and bridges (R145, R166) -/

/-- The tile that a node's map holds for a rank (R95); a bridge's is the mill's. -/
def State.mapOfNode (s : State) (n : Node) (rank : Nat) : Option Nat :=
  match n with
  | .tile t => s.mapOf t rank
  | .bridge _ => s.homeOf rank

/-- A witness as a node finds it, a probe's answer included. -/
def State.checkAt (s : State) (n : Node) (w : Word) : WaitRes :=
  waitRes (s.checkAtNode n w) ((s.asks.find? fun q => q.node == n && q.wit == w).map (·.ans))

/-- The slot number that stands for a node's own probes: it is no slot. -/
def askSlot : Nat := 16

/-- The agent under whose name a node asks. -/
def Node.asker : Node → Agent
  | .tile t => .tile t
  | .bridge b => .mill (4 * b)

/-- A node sends a wait probe; none while its map has no place for the rank. -/
def State.ask (s : State) (n : Node) (w : Word) : Option State :=
  (s.mapOfNode n (witDst w)).map fun d =>
    let id := s.nextId
    let s : State := { s with nextId := id + 1, asks := s.asks ++ [⟨id, n, w, none⟩] }
    s.send n (.tile d) (some (witDst w)) 0 (.probe ⟨n.asker, askSlot, id⟩ (.wit w) true)

/-- An answer that has been used. -/
def State.dropAsk (s : State) (n : Node) (w : Word) : State :=
  { s with asks := s.asks.filter fun q => !(q.node == n && q.wit == w && q.ans.isSome) }

/-- A witness that a node needs for an event: what follows when it is satisfied or poison; a probe is sent when one is
needed, and nothing happens while the witness is outstanding. -/
def State.needWit (s : State) (n : Node) (w : Word) (bad good : State → Option State) : Option State :=
  match s.checkAt n w with
  | .satisfied => good (s.dropAsk n w)
  | .poison => bad (s.dropAsk n w)
  | .wait => none
  | .probe => s.ask n w

/-! ### Waiting -/

/-- A probe sent to the tile that the issuing tile's map holds for a rank (R145). -/
def State.sendProbe (s : State) (rank : Nat) (key : ProbeKey) (wait : Bool) : State :=
  let t := s.curTile
  match s.mapOfNode s.focus.node rank with
  | none => s
  | some d =>
    let id := s.nextId
    let who : Who := ⟨s.focus, s.curSlot, id⟩
    let s := { s with nextId := id + 1 }
    let acc := s.accOf t (.dram rank 0 false false)
    let s := s.modCur fun c => { c with probes := c.probes ++ [⟨id, key, none, acc⟩] }
    s.send s.focus.node (.tile d) (some rank) 0 (.probe who key wait)

/-- The context waits for a witness, parked on witness while it is outstanding; poison traps with cause 26 and the
given trap value (R147). -/
def State.awaitWit (s : State) (w tval : Word) (go : State → State) : State :=
  match s.checkCur w with
  | .satisfied => go s
  | .poison => s.trap 26 tval
  | .wait => s.park (.wit w)
  | .probe => (s.sendProbe (witDst w) (.wit w) true).park (.wit w)

/-- The posted-store class of a destination rank seen from a tile (R148, R152): 0 for the current rank, 1 within
the field, 2 elsewhere. -/
def State.classOf (s : State) (t rank : Nat) : Nat :=
  if s.rankOf t = rank then 0
  else
    match s.mapOf t rank with
    | some d => if fieldOf d = fieldOf t then 1 else 2
    | none => 2

/-- Whether a wait field selects a class (R152). -/
def waitSelects (wt : BitVec 2) (cls : Nat) : Bool := decide (1 ≤ cls) && decide (cls ≤ wt.toNat)

/-- Whether the counts of the selected classes are zero (R152). -/
def Ctx.countsClear (c : Ctx) (wt : BitVec 2) : Bool :=
  (!waitSelects wt 1 || c.c1 == 0) && (!waitSelects wt 2 || c.c2 == 0) && (!waitSelects wt 3 || c.c3 == 0)

/-- The own-store entries of the selected classes, oldest first, waited for one after the other; satisfied ones
leave the table. -/
def State.awaitEntries (go : State → State) : List Word → State → State
  | [], s => go s
  | e :: l, s =>
    s.awaitWit e e fun s => State.awaitEntries go l (s.modCur fun c => { c with th := c.th.ownDrop e })

/-- The overflow waited for; satisfied, it becomes null (R150). -/
def State.awaitOver (s : State) (go : State → State) : State :=
  s.awaitWit s.cur.th.ownOver s.cur.th.ownOver fun s => go (s.modCur fun c => { c with th := { c.th with ownOver := 0 } })

/-- A context that inherited its table waits for the entries that name the current rank, and for the overflow, before
its first access here (08_frame.md R170, R173; R155 item 5). -/
def State.awaitHere (s : State) (go : State → State) : State :=
  if !s.cur.inherited then go s
  else
    s.awaitOver fun s =>
      State.awaitEntries (fun s => go (s.modCur fun c => { c with inherited := false }))
        (s.cur.th.ownList.filter fun e => witDst e == s.curRank) s

/-- A wait field honoured (R152). -/
def State.awaitField (s : State) (wt : BitVec 2) (go : State → State) : State :=
  if wt = 0 then go s
  else if !s.cur.countsClear wt then s.park (.counts wt)
  else
    let entries := s.cur.th.ownList.filter fun e => waitSelects wt (s.classOf s.curTile (witDst e))
    State.awaitEntries (fun s => s.awaitOver go) entries s

/-- A presented witness's format checked (R142): cause 25. -/
def State.validWit (s : State) (w : Word) (go : State → State) : State :=
  if witWf s.grade w then go s else s.trap 25 w

/-! ### The instructions -/

/-- WJOIN (R159). -/
def execWjoin (rd rs1 rs2 : XReg) (s : State) : Out :=
  issue (.wjoin rd rs1 rs2) s fun s =>
    let a := s.x1 rs1
    let b := s.x2 rs1 rs2
    s.validWit a fun s => s.validWit b fun s => (s.setX rd (wjoin s.tick a b)).retire

/-- WCOARSEN (R159). -/
def execWcoarsen (rd rs1 : XReg) (s : State) : Out :=
  issue (.wcoarsen rd rs1) s fun s =>
    let a := s.x1 rs1
    s.validWit a fun s => (s.setX rd (wcoarsen s.tick a)).retire

/-- WSELF (R159). -/
def execWself (rd : XReg) (s : State) : Out :=
  issue (.wself rd) s fun s => (s.setX rd (s.cur.th.wself s.tick)).retire

/-- WWAIT (R160): the trap value of poison is the witness presented. -/
def execWwait (rs1 : XReg) (s : State) : Out :=
  issue (.wwait rs1) s fun s =>
    let a := s.x1 rs1
    s.validWit a fun s => s.awaitWit a a State.retire

/-- A producer claims a destination, and its retirement counts what it is given; x0 claims nothing but is still answered (R59). A bound register takes the next
place of its stream's write buffer (06_float.md R138, R140), x15 of a furrow-bound context one of its outbound queue
(11_stream.md R225). -/
def State.claimAs (s : State) (counts : Counts) (d : Dest) (kind : ProdKind) (acc : Nat) : State :=
  let c := s.cur
  let id := s.nextId
  let put (s : State) (d : Dest) (old : Word) : State :=
    State.modCur { s with nextId := id + 1 } fun c => { c with pend := c.pend ++ [⟨id, d, counts, old, c.th.pc, kind, acc⟩] }
  match d with
  | .x r =>
    if r = 0 then put s .none 0
    else if s.isPort r then
      put (s.modTile s.curTile fun T =>
        { T with port := T.port.map fun P => { P with outq := P.outq ++ [(id, none)] } }) (.furrow id) 0
    else put s d (c.x r)
  | .f r =>
    if c.bound r then
      let y := c.stream r
      put (s.modCur fun c => c.setStream r { y with out := y.out ++ [(id, none)], pos := y.pos + 1 }) (.stream r id) 0
    else put s d (c.f r)
  | _ => put s .none 0

/-- A claim of an instruction that is counted at issue, or not at all. -/
def State.claim (s : State) (d : Dest) (kind : ProdKind) (acc : Nat) : State := s.claimAs .none d kind acc

/-- WTEST (R161): 0 outstanding, 1 satisfied, 2 poison; a test probe when the pair lies elsewhere. -/
def execWtest (rd rs1 : XReg) (s : State) : Out :=
  issue (.wtest rd rs1) s fun s =>
    let a := s.x1 rs1
    s.validWit a fun s =>
      match s.checkAtNode s.focus.node a with
      | some .outstanding => (s.setX rd 0).retire
      | some .satisfied => (s.setX rd 1).retire
      | some .poison => (s.setX rd 2).retire
      | none =>
        match s.mapOfNode s.focus.node (witDst a) with
        | none => s.park (.map (witDst a))
        | some d =>
          let who : Who := ⟨s.focus, s.curSlot, s.nextId⟩
          let acc := s.accOf s.curTile (.dram (witDst a) 0 false false)
          ((s.claim (.x rd) .answer acc).retire).send s.focus.node (.tile d) (some (witDst a)) 0
            (.probe who (.wit a) false)

/-- PFENCE (R162). -/
def execPfence (wt : BitVec 2) (s : State) : Out :=
  issue (.pfence wt) s fun s => s.awaitField wt State.retire

/-- FENCE is PFENCE with wait field 11 (03_encoding.md R68). -/
def execFence (fm pred succ : BitVec 4) (rs1 rd : BitVec 5) (s : State) : Out :=
  issue (.fence fm pred succ rs1 rd) s fun s => s.awaitField 3#2 State.retire

end Sys2Proof.Machine
end

