-- ==== Sys2Proof/Machine/Home.lean ====
section
/-! DEFINITION. What a home does in one perform instant: posted operations applied, refused, held and settled; frames,
task counters, groups and barriers updated (07_witness.md R143, R147, R154, R412; 08_frame.md R172, R177; 09_group.md
R186, R187; 10_barrier.md R192 to R199; 18_fault.md R333). -/
namespace Sys2Proof.Machine

/-! ### Task counters and frames -/

/-- A task counter's first doubleword after an addition of n to its count (R177), and whether its descriptor is
queued. TDEC is an addition of -1 that never starts an idle counter. -/
def counterStep (dw0 n : Word) (arm : Bool) : Word × Bool :=
  let count := BitVec.extractLsb' 32 32 dw0 + n.extractLsb' 0 32
  let armed := bit dw0 31
  let low := dw0.extractLsb' 0 31
  if (arm || armed) && count == 0 then (0#32 ++ 0#1 ++ low, true)
  else (count ++ (if arm || armed then 1#1 else 0#1) ++ low, false)

/-- The descriptor of a task counter's second doubleword (R176). -/
def descOf (dw1 : Word) : Desc := ⟨BitVec.ofNat 64 (fld dw1 51 0), fld dw1 63 52⟩

/-- A frame after an exit (R172): count - 1, and fwit joined with w at the home's TICK unless it is malformed. -/
def frameExitStep (grade tick : Nat) (count fwit w : Word) : Word × Word :=
  (count - 1, if witWf grade fwit then wjoin tick fwit w else fwit)

/-! ### Group records (R183, R186, R187) -/

/-- A group record's four doublewords. -/
structure GroupRec where
  state : Nat
  gen : Nat
  members : Nat
  arrived : Nat
  phase : Nat
  low1 : Nat
  swit : Word
  pwit : Word
deriving DecidableEq, Repr

def GroupRec.ofWords (a b c d : Word) : GroupRec :=
  ⟨fld a 63 62, fld a 61 40, fld a 39 20, fld a 19 0, fld b 63 32, fld b 31 0, c, d⟩

/-- Its first doubleword. A GSYNC on a record whose arrived field software has made 2^20 - 1 carries into members
(log 96, DESIGN CHOICE). -/
def GroupRec.dw0 (g : GroupRec) : Word :=
  BitVec.ofNat 64 (g.state * 2 ^ 62 + g.gen * 2 ^ 40 + g.members * 2 ^ 20 + g.arrived)

def GroupRec.words (g : GroupRec) : List Word :=
  [g.dw0, BitVec.ofNat 64 (g.phase * 2 ^ 32 + g.low1), g.swit, g.pwit]

/-- A phase completes (R186). -/
def GroupRec.complete (g : GroupRec) : GroupRec :=
  { g with pwit := g.swit, swit := 0, arrived := 0, phase := (g.phase + 1) % 2 ^ 32 }

/-- A witness folded in (R186); a malformed swit is left as it is. -/
def GroupRec.fold (grade tick : Nat) (w : Word) (g : GroupRec) : GroupRec :=
  if witWf grade g.swit then { g with swit := wjoin tick g.swit w } else g

/-- After members fell (R187): the record and whether a phase completed. -/
def GroupRec.lowered (g : GroupRec) : GroupRec × Bool :=
  if g.members = 0 && g.state = 2 then ({ g with state := 0, arrived := 0 }, false)
  else if g.members ≤ g.arrived && 0 < g.arrived then (g.complete, true)
  else (g, false)

/-- One group instruction at its perform instant (R186): the record, the reply, and whether a phase completed; none
is the group-state trap. -/
def groupStep (grade tick : Nat) (op : GroupOp) (w : Word) (g : GroupRec) : Option (GroupRec × ReplyVal × Bool) :=
  match op with
  | .create =>
    if g.state = 0 then
      let gen := if g.gen = 2 ^ 22 - 1 then 1 else g.gen + 1
      some ({ g with state := 1, gen := gen, members := 1, arrived := 0, swit := 0 },
        .value (BitVec.ofNat 64 gen), false)
    else if g.state = 3 then none
    else some (g, .value 0, false)
  | .join =>
    if g.state = 1 && g.members < 2 ^ 20 - 1 then some ({ g with members := g.members + 1 }, .value 0, false) else none
  | .leave =>
    if (g.state = 1 || g.state = 2) && 0 < g.members then
      let (g', done) := ({ g with members := g.members - 1 }.fold grade tick w).lowered
      some (g', .value 0, done)
    else none
  | .dissolve =>
    if g.state = 1 then
      if g.members = 0 then some ({ g with state := 0 }, .value 0, false)
      else
        let (g', done) := ({ g with members := g.members - 1, state := 2 }.fold grade tick w).lowered
        some (g', .value 0, done)
    else none
  | .sync =>
    if (g.state = 1 || g.state = 2) && 0 < g.members then
      let phase := g.phase
      let g := { g with arrived := g.arrived + 1 }.fold grade tick w
      if g.arrived = g.members then
        let g := g.complete
        some (g, .phase phase true g.pwit, true)
      else some (g, .phase phase false 0, false)
    else none
  | .count => some (g, .value g.dw0, false)

/-! ### Barrier slots (R191 to R199) -/

/-- A barrier slot's two doublewords. -/
structure Slot where
  tag : Nat
  err : Bool
  phase : Bool
  res0 : Nat
  expected : Nat
  arrived : Nat
  home : Nat
  res1 : Nat
  pending : Nat
deriving DecidableEq, Repr

def Slot.ofWords (a b : Word) : Slot :=
  ⟨fld a 63 56, bit a 55, bit a 54, fld a 53 52, fld a 51 32, fld a 31 12, fld a 11 0, fld b 63 40, fld b 39 0⟩

def b2n (b : Bool) : Nat := if b then 1 else 0

def Slot.words (k : Slot) : List Word :=
  [BitVec.ofNat 64 (k.tag * 2 ^ 56 + b2n k.err * 2 ^ 55 + b2n k.phase * 2 ^ 54 + k.res0 * 2 ^ 52 +
     k.expected * 2 ^ 32 + k.arrived * 2 ^ 12 + k.home),
   BitVec.ofNat 64 (k.res1 * 2 ^ 40 + k.pending)]

/-- Live: the tag, and for space 1 the rank the slot was prepared in (R192). -/
def Slot.live (k : Slot) : Bool := k.tag == 0xA5

/-- complete_if_ready (R199), and whether the phase toggled. -/
def Slot.completeIfReady (k : Slot) : Slot × Bool :=
  if k.arrived = k.expected && k.pending = 0 then ({ k with phase := !k.phase, arrived := 0 }, true) else (k, false)

/-- What a barrier instruction answers: a value, or a trap with its cause (R192, R194 to R197). -/
inductive BarRes where
  | ok (k : Slot) (value : Word) (wake : Bool)
  | trap (cause : Nat)
deriving DecidableEq, Repr

/-- One barrier instruction at its perform instant; home is the value BINIT writes and, for space 1, the value the
slot must hold (R192, R194). -/
def barrierStep (space1 : Bool) (home : Nat) (op : BarOp) (k : Slot) : BarRes :=
  let usable := k.live && (!space1 || k.home == home)
  match op with
  | .init v =>
    if fld v 63 21 != 0 || fld v 19 0 == 0 || k.live then .trap 48
    else .ok ⟨0xA5, false, bit v 20, 0, fld v 19 0, 0, home, 0, 0⟩ 0 false
  | .arrive =>
    if !usable || k.arrived = k.expected then .trap 48
    else
      let token : Word := if k.phase then 1 else 0
      let (k', w) := { k with arrived := k.arrived + 1 }.completeIfReady
      .ok k' token w
  | .test token =>
    if !usable then .trap 48
    else .ok k (if k.err then 2 else if k.phase != token then 1 else 0) false
  | .expect n =>
    if !usable then .trap 48
    else if 2 ^ 40 ≤ n || 2 ^ 40 - 1 < k.pending + n then .trap 49
    else .ok { k with pending := k.pending + n } 0 false
  | .complete n =>
    if !usable then .trap 48
    else if k.pending < n then .trap 49
    else if n = 0 then .ok k 0 false
    else
      let (k', w) := { k with pending := k.pending - n }.completeIfReady
      .ok k' 0 w
  | .retire =>
    if !usable || k.arrived != 0 || k.pending != 0 then .trap 48
    else .ok ⟨0, false, false, 0, 0, 0, 0, 0, 0⟩ 0 true

/-- An engine's decrement (R198): the slot, whether pending fell short, and whether the phase toggled; none when the
slot is not live. -/
def engineDecrement (k : Slot) (n : Nat) : Option (Slot × Bool × Bool) :=
  if !k.live then none
  else
    let short := decide (k.pending < n)
    let changed := !(decide (k.pending = 0) || decide (n = 0))
    let k := { k with pending := k.pending - n, err := k.err || short }
    if changed then
      let (k', w) := k.completeIfReady
      some (k', short, w)
    else some (k, short, false)

/-! ### Reading and writing records -/

def State.readSlot (s : State) (key : Nat) : Slot := Slot.ofWords (s.rdWord key) (s.rdWord (key + 8))
def State.readGroup (s : State) (key : Nat) : GroupRec :=
  GroupRec.ofWords (s.rdWord key) (s.rdWord (key + 8)) (s.rdWord (key + 16)) (s.rdWord (key + 24))

def wordsBytes (l : List Word) : List Byte := l.flatMap wordBytes

/-! ### Posted operations -/

/-- The issuing tile's journal has a free entry (R109). -/
def Tile.journalRoom (T : Tile) : Bool := decide (T.journal.length < 1024)

/-- The journal index the next store takes: the lowest free one (log 9, DESIGN CHOICE). -/
def Tile.nextIdx (T : Tile) : Nat := lowestFree (T.journal.map (·.idx))

/-- A class count lowered (R152). -/
def Ctx.lower (c : Ctx) (cls : Nat) : Ctx :=
  match cls with
  | 1 => { c with c1 := c.c1 - 1 }
  | 2 => { c with c2 := c.c2 - 1 }
  | 3 => { c with c3 := c.c3 - 1 }
  | _ => c
def Ctx.raise (c : Ctx) (cls : Nat) : Ctx :=
  match cls with
  | 1 => { c with c1 := c.c1 + 1 }
  | 2 => { c with c2 := c.c2 + 1 }
  | 3 => { c with c3 := c.c3 + 1 }
  | _ => c

/-- A journal entry released, and its class count lowered at the same moment (R109); an engine's write that performed
leaves a decrement of its barrier slot to make (10_barrier.md R198). -/
def State.releaseEntry (s : State) (t jidx : Nat) (applied : Bool) : State :=
  match takeFirst (fun e => e.idx == jidx) (s.tile t).journal with
  | none => s
  | some (e, r) =>
    let dec := match e.eng with
      | some g => if applied && g.slot != 0 then [g] else []
      | none => []
    let s := s.modTile t fun T => { T with journal := r, decs := T.decs ++ dec }
    match e.slot with
    | some c => s.modTile t fun T => T.setSlot c ((T.slot c).lower e.cls)
    | none => s

/-- A refusal notice at the issuing tile (18_fault.md R333): it merges into the destination's entry or fills a free
one, releases the journal entry, and creates a kind 2 record (R335); none when no entry is free. -/
def State.enterRefusal (s : State) (t dst cause seq jidx : Nat) (addr gtid : Word) : Option State :=
  let T := s.tile t
  let src := s.rankOf t
  let merged : Option (Vector RefEntry 32) :=
    if T.refusals.toList.any fun e => e.valid && e.dst == dst then
      some (T.refusals.map fun e =>
        if e.valid && e.dst == dst then { e with count := min (2 ^ 32 - 1) (e.count + 1), last := seq } else e)
    else
      match (List.range 32).find? fun i => !(T.refusals.toList.getD i RefEntry.empty).valid with
      | none => none
      | some i =>
        if h : i < 32 then
          some (T.refusals.set i ⟨true, false, cause, dst, 1, seq, seq, addr, gtid, poisonWit src jidx, (pcoord t, src, s.gen)⟩)
        else none
  merged.map fun r =>
    let s := (s.modTile t fun T => { T with refusals := r }).releaseEntry t jidx false
    match s.partOf src with
    | some p => s.tileFault t p 2 cause jidx addr (poisonWit src jidx) gtid
    | none => s

/-- A home's settlement of the next operation of a source (R143); a bridge has no pair. -/
def State.settle (s : State) (t src seq : Nat) : State :=
  if src = 4095 then s
  else s.modTile t fun T => { T with box := { T.box with settled := tput T.box.settled src seq } }

/-- The refusal mark of a source at its home (R147, R334). -/
def State.markRefused (s : State) (t src seq jidx : Nat) : State :=
  if src = 4095 then { s with bridgeRefused := s.bridgeRefused ++ [jidx] }
  else s.modTile t fun T =>
    let m := match tget T.box.marks src with
      | some m => { m with latest := seq }
      | none => ⟨seq, jidx, seq⟩
    { T with box := { T.box with marks := tput T.box.marks src m } }

/-- Contexts and held probes that a JOIN parked on a frame, woken with its fwit (R173). -/
def State.wakeJoins (s : State) (t off : Nat) (fwit : Word) : State :=
  let s := s.modTile t fun T =>
    { T with slots := T.slots.map fun c =>
        if c.stage == .joinParked off then { c with stage := .joinWit fwit, st := .ready } else c }
  let (hit, rest) := (s.tile t).heldProbes.partition fun h => h.join == some off
  hit.foldl (fun s h => s.reply (.tile t) (h.ret.since h.since s.clock) none (.proxyRep h.who h.own (.value fwit)))
    (s.modTile t fun T => { T with heldProbes := rest })

/-- A descriptor appended to the run list (R177). -/
def State.queueDesc (s : State) (t : Nat) (d : Desc) : State :=
  s.modTile t fun T => { T with runList := T.runList ++ [d] }

/-- Whether a posted operation would queue a descriptor while the run list is full (R177). -/
def State.runListBlocks (s : State) (t key : Nat) (op : PostOp) : Bool :=
  match op with
  | .tdec => (counterStep (s.rdWord key) (-1) false).2 && decide (128 ≤ (s.tile t).runList.length)
  | _ => false

/-- Bytes written to a tile's scratchpad: a line they cover whole is correct again (26_prog_gangmatmul.md R405). -/
def State.spadWrite (s : State) (t off : Nat) (b : List Byte) : State :=
  let whole (l : Nat) : Bool := decide (off ≤ l * 64) && decide (l * 64 + 64 ≤ off + b.length)
  (s.modTile t fun T => { T with badLines := T.badLines.filter fun l => !whole l }).wrMem (spadKey t off) b

/-- The mirror word of a copy transfer after n more bytes performed at a tile (13_channel.md R255 step 6): a scratchpad store of
the tile; no bytes: the first 0. -/
def State.countMirror (s : State) (t n : Nat) (mirror : Option (Nat × Nat)) : State :=
  match mirror with
  | none => s
  | some (off, x) =>
    let k := if n = 0 then 0 else tgetD (s.tile t).mirrors x 0 + n
    (s.modTile t fun T => { T with mirrors := tput T.mirrors x k }).wrWord (spadKey t off) (BitVec.ofNat 64 k)

/-- A posted operation applied at its home's memory (R154, R163, R172, R177). -/
def State.applyPost (s : State) (t off src : Nat) (op : PostOp) : State :=
  let key := dramKey t off
  match op with
  | .store b => s.homeWrite t off src b
  | .atomic a v => s.homeWrite t off src (wordBytes (a.apply (s.rdWord key) v))
  | .tdec =>
    let (dw, q) := counterStep (s.rdWord key) (-1) false
    let s' := s.homeWrite t off src (wordBytes dw)
    if q then s'.queueDesc t (descOf (s.rdWord (key + 8))) else s'
  | .copy b spad mirror =>
    (if b.isEmpty then s else if spad then s.spadWrite t off b else s.homeWrite t off src b).countMirror t b.length mirror
  | .frameExit w =>
    let (count, fwit) := frameExitStep s.grade (s.tickOf t) (s.rdWord key) (s.rdWord (key + 8)) w
    let s := s.homeWrite t off src (wordsBytes [count, fwit])
    if count = 0 then s.wakeJoins t off fwit else s

/-- A posted operation applied to a tile's scratchpad (R148, R163, R177 space 1). -/
def State.applySpad (s : State) (t off : Nat) (op : PostOp) : State :=
  let key := spadKey t off
  match op with
  | .store b => s.wrMem key b
  | .atomic a v => s.wrWord key (a.apply (s.rdWord key) v)
  | .tdec =>
    let (dw, q) := counterStep (s.rdWord key) (-1) false
    let s' := s.wrWord key dw
    if q then s'.queueDesc t (descOf (s.rdWord (key + 8))) else s'
  | .copy b _ _ => s.spadWrite t off b
  | .frameExit _ => s

/-- Whether an operation touches the home's DRAM. -/
def PostOp.inDram : PostOp → Bool
  | .copy _ spad _ => !spad
  | _ => true

/-- Why a home refuses a posted operation (R147, 17_page.md R320), as the cause codes of R333; a bridge's that is for no
partition needs no admission. -/
def State.refuseCause (s : State) (t : Nat) (p : Posted) : Option Nat :=
  if !p.op.inDram then none else
  match s.poison t p.off with
  | 1 => some 1
  | 2 => some 2
  | _ =>
    if (p.src == 4095 && p.part.isNone) || s.partOf p.rank == p.part then none
    else if (s.tile t).box.admitRange.any fun (_, q, lo, hi) => some q == p.part && lo ≤ p.off && decide (p.off < hi) then none
    else some 4

/-- Whether an operation is next in its pair's sequence at its home (R143); a bridge's has no pair. -/
def State.inSequence (s : State) (t : Nat) (p : Posted) : Bool :=
  p.src == 4095 || p.seq == (tgetD (s.tile t).box.settled p.src 0 + 1) % 2 ^ 38

/-- The settlement notice to the tile of the issuing rank; at once when the home is the issuing tile (R109, R143). -/
def State.notifySettled (s : State) (t : Nat) (p : Posted) (applied : Bool) (ret : Ret) : State :=
  if p.src = 4095 then { s with bridgeOut := tdel s.bridgeOut p.jidx }
  else if p.srcTile = t then s.releaseEntry t p.jidx applied
  else s.reply (.tile t) ret (some p.src) (.settled p.jidx p.acc applied)

/-- The bytes of a posted operation. -/
def PostOp.size : PostOp → Nat
  | .store b => b.length
  | .copy b _ _ => b.length
  | .frameExit _ => 16
  | _ => 8

/-- A frame exit into the frame of a task block, which is never checked (R275). -/
def State.taskExit (s : State) (part : Nat) (p : Posted) : Bool :=
  match p.op, tget s.parts part with
  | .frameExit _, some P =>
    P.ranks.contains p.rank && decide (P.win.tboff ≤ p.off) && (p.off - P.win.tboff) % 64 == 0 &&
    decide (p.off - P.win.tboff < 512)
  | _, _ => false

/-- Whether the home refuses a store of a contained entry because its writer table no longer allows it (R276). -/
def State.squashedStore (s : State) (p : Posted) : Bool :=
  match p.kpos, p.part with
  | some pos, some part => p.op.inDram && !s.taskExit part p && !s.extentOf part pos p.rank p.off p.op.size
  | _, _ => false

/-- A squashed entry's store counted by its partition's shells (R276, 18_fault.md R335). -/
def State.countSquashed (s : State) (part : Option Nat) : State :=
  match part with
  | none => s
  | some q => s.modWin q fun W => { W with squashedStores := W.squashedStores + 1 }

/-- A posted operation that reached its home performs, or is refused, and settles (R143, R147); a store of a
squashed entry settles, writes nothing and leaves no mark (R276). -/
def State.performPosted (s : State) (t : Nat) (p : Posted) (ret : Ret) : State :=
  if s.squashedStore p then ((s.countSquashed p.part).settle t p.src p.seq).notifySettled t p false ret else
  match s.refuseCause t p with
  | none => ((s.applyPost t p.off p.src p.op).settle t p.src p.seq).notifySettled t p true ret
  | some cause =>
    let s := (s.markRefused t p.src p.seq p.jidx).settle t p.src p.seq
    if p.src = 4095 then s.notifySettled t p false ret else
    let addr : Word := BitVec.ofNat 64 (p.rank * 2 ^ 33 + p.off)
    let mail := fun s : State =>
      s.reply (.tile t) ret (some p.src) (.refusal p.jidx cause p.rank p.seq addr p.gtid p.acc)
    if p.srcTile = t then (s.enterRefusal t p.rank cause p.seq p.jidx addr p.gtid).getD (mail s) else mail s

/-! ### Held accesses (R412) -/

/-- Whether an addition to a task counter would queue a descriptor while the run list is full (R177). -/
def State.armBlocks (s : State) (t key : Nat) (op : ProxOp) : Bool :=
  match op with
  | .tarm n => (counterStep (s.rdWord key) n true).2 && decide (128 ≤ (s.tile t).runList.length)
  | _ => false

/-- Whether a home must hold a request: its range awaits evacuation (19_tile.md R350), or it would queue a descriptor
while the run list is full (R177). -/
def State.holdsProxy (s : State) (t : Nat) (r : ProxyReq) : Bool :=
  s.awaiting t r.off || s.armBlocks t (dramKey t r.off) r.op

/-- Whether a JOIN or TREAP would be held in the probe buffer (R173, R181): the frame's children have not all exited, or
fwit is outstanding. -/
def State.needsPlace (s : State) (t : Nat) (r : ProxyReq) : Bool :=
  let key := dramKey t r.off
  match r.op with
  | .join => s.rdWord key != 0
  | .treap =>
    let fwit := s.rdWord (key + 8)
    s.rdWord key == 0 && witWf s.grade fwit && (match s.checkAt (.tile t) fwit with
      | .wait | .probe => true
      | _ => false)
  | _ => false

/-- A JOIN or TREAP for which the 32 places of the probe buffer have no room waits (R145). -/
def State.placeless (s : State) (t : Nat) (r : ProxyReq) : Bool :=
  s.needsPlace t r && decide (32 ≤ (s.tile t).heldProbes.length)

/-- Whether a reader still waits for the place it has in a home's order. -/
def State.readerWaits (s : State) (t off : Nat) (r : Reader) : Bool :=
  match r with
  | .slot c => (s.tile t).coreAlive && ((s.tile t).slot c).wait == .held off && ((s.tile t).slot c).st == .parkedWit
  | .walk f va host asid => (s.field f).walks.any fun w => w.va == va && w.host == host && w.asid == asid
  | .matrix u => (s.tile u).mxRun.isSome
  | .copy u seq => (s.tile u).copyRun.any fun x => x.seq == seq
  | .decrement u => !(s.tile u).decs.isEmpty
  | .mill k => (s.mill k).ctx.st == .parkedWit

/-- Whether the i-th held access of a tile may perform: its condition has cleared, and no earlier held operation is of
the same source. -/
def State.heldReady (s : State) (t : Nat) (i : Nat) (h : Held) : Bool :=
  match h with
  | .posted p _ _ =>
    !(p.op.inDram && s.awaiting t p.off) && !s.runListBlocks t (dramKey t p.off) p.op &&
    !(((s.tile t).held.take i).any fun g => match g with
      | .posted q _ _ => q.src == p.src
      | _ => false)
  | .proxy r _ _ => !s.holdsProxy t r && !s.placeless t r
  | .mark by_ off => !s.awaiting t off && s.readerWaits t off by_

/-- The first held access of a tile that may perform, in the order in which they were held: its place in the list. -/
def State.firstHeld (s : State) (t : Nat) : Option (Nat × Held) :=
  (((List.range (s.tile t).held.length).zip (s.tile t).held).find? fun q => s.heldReady t q.1 q.2)

/-- Whether a held access of a tile may perform, which goes ahead of everything that reaches the home after its condition
cleared: of every access but a reader's whose own place is the first. -/
def State.heldAhead (s : State) (t : Nat) (me : Option Reader) : Bool :=
  match s.firstHeld t with
  | none => false
  | some (_, .mark r _) => me != some r
  | some _ => true

/-- What a home does with a read of its own memory: it performs, is given a place in the order until its range has been
copied (R350), or waits. -/
inductive AtHome where
  | go (s : State)
  | held (s : State)
  | wait

def Held.isMark (r : Reader) : Held → Bool
  | .mark q _ => q == r
  | _ => false

def State.atHome (s : State) (t off : Nat) (me : Reader) : AtHome :=
  let drop (T : Tile) : Tile := { T with held := T.held.filter fun h => !h.isMark me }
  if !(s.tile t).shellAlive then .wait
  else if s.awaiting t off then
    if (s.tile t).held.any fun h => h == .mark me off then .wait
    else .held (s.modTile t fun T => { drop T with held := (drop T).held ++ [.mark me off] })
  else if s.heldAhead t (some me) then .wait
  else if (s.tile t).held.isEmpty then .go s
  else .go (s.modTile t drop)

/-- Whether the home must hold an operation: its run list is full, an earlier operation of its source is held, or
its range awaits evacuation (R177, R350, R412); an own one takes its place behind the held accesses that may perform. -/
def State.mustHold (s : State) (t : Nat) (p : Posted) : Bool :=
  (p.op.inDram && s.awaiting t p.off) || s.runListBlocks t (dramKey t p.off) p.op ||
  ((s.tile t).held.any fun h => match h with
    | .posted q _ _ => q.src == p.src
    | _ => false) || s.heldAhead t none

/-- A posted operation at its home: performed, refused or held. -/
def State.arrivePosted (s : State) (t : Nat) (p : Posted) (ret : Ret) : State :=
  if s.mustHold t p then s.modTile t fun T => { T with held := T.held ++ [.posted p ret s.clock] }
  else s.performPosted t p ret

/-- Who issues a posted operation: the tile, the slot whose class count it raises, the GTID, and the kernel entry or
engine command it belongs to. -/
structure PostSrc where
  tile : Nat
  slot : Option Nat
  gtid : Word
  kpos : Option Nat
  eng : Option EngRef
deriving DecidableEq, Repr

/-- The slot's class count raised (R152). -/
def State.raiseClass (s : State) (q : PostSrc) (cls : Nat) : State :=
  match q.slot with
  | some c => s.modTile q.tile fun T => T.setSlot c ((T.slot c).raise cls)
  | none => s

/-- A posted operation to a rank (R143, R148): its pair's next sequence, a journal entry, and the pair witness. -/
def State.postRank (s : State) (q : PostSrc) (op : PostOp) (rank off : Nat) : State × Word :=
  let t := q.tile
  let T := s.tile t
  let k := s.rankOf t
  let seq := (tgetD T.box.issue rank 0 + 1) % 2 ^ 38
  let cls := s.classOf t rank
  let idx := T.nextIdx
  let e : JEntry := ⟨idx, .rank rank, seq, s.tickOf t, q.slot, cls, q.gtid, false, q.eng,
    BitVec.ofNat 64 (rank * 2 ^ 33 + off)⟩
  let p : Posted := ⟨op, rank, off, k, t, seq, idx, s.partOf k, q.gtid, q.kpos,
    s.accOf t (.dram rank off false false)⟩
  let s := s.modTile t fun T =>
    { T with box := { T.box with issue := tput T.box.issue rank seq }, journal := T.journal ++ [e] }
  let w := pairWit k rank seq
  if rank = k then (s.arrivePosted t p ⟨.tile t, [], 0⟩, w)
  else
    ((s.raiseClass q cls).send (.tile t) (.tile ((s.mapOf t rank).getD t)) (some rank) 0 (.posted p), w)

/-- A posted operation issued (R148): scratchpad at once; space 0 with its pair's next sequence and a journal entry;
space 2 and 3 with a journal entry and class C3. The witness it yields comes with the state. -/
def State.post (s : State) (q : PostSrc) (op : PostOp) (l : Loc) : State × Word :=
  let t := q.tile
  let T := s.tile t
  let tick := s.tickOf t
  match l with
  | .spad off => (s.applySpad t off op, 0)
  | .dram rank off rep _ =>
    s.postRank q op (if rep then s.rankOf t else rank) off
  | .host a =>
    let idx := T.nextIdx
    let e : JEntry := ⟨idx, .host, 0, tick, q.slot, 3, q.gtid, false, q.eng, BitVec.ofNat 64 a⟩
    let bytes := match op with
      | .store b => b
      | .copy b _ _ => b
      | _ => []
    let s := { s.modTile t fun T => { T with journal := T.journal ++ [e] } with
      hostWrites := s.hostWrites ++ [(t, idx, a, bytes)] }
    (s.raiseClass q 3, tickWit (tick + 1))
  | .sram off =>
    let bytes := match op with
      | .store b => b
      | .atomic a v => wordBytes (a.apply (s.rdWord (sramKey off)) v)
      | _ => []
    ((s.wrMem (sramKey off) bytes).clearTag off, 0)
  | .peer p =>
    let idx := T.nextIdx
    let e : JEntry := ⟨idx, .peer, 0, tick, q.slot, 3, q.gtid, false, q.eng, p⟩
    let s := s.modTile t fun T => { T with journal := T.journal ++ [e] }
    let s := s.raiseClass q 3
    (s.send (.tile t) (.bridge (peerEp p % 4)) none 0 (.peerPost t idx (s.partOf (s.rankOf t)) p op), tickWit (tick + 1))

/-- A posted store of a bridge or its mill to a rank (07_witness.md R146): a ticket, no pair, no journal entry. One to a rank
that no tile and no stand-in answers for is refused (log 99, DEDUCED). -/
def State.postBridge (s : State) (b : Nat) (part : Option Nat) (rank off : Nat) (op : PostOp) : State × Nat :=
  let id := s.nextId
  let p : Posted := ⟨op, rank, off, 4095, 0, 0, id, part, 0, none, 0⟩
  let s : State := { s with nextId := id + 1, bridgeOut := tput s.bridgeOut id (b, s.tickOf (bridgeTile b)) }
  match s.takerOf rank with
  | some d => (s.send (.bridge b) (.tile d) (some rank) 0 (.posted p), id)
  | none => ({ s with bridgeOut := tdel s.bridgeOut id, bridgeRefused := s.bridgeRefused ++ [id] }, id)

/-- A store's effect on its context's own-store table (R148, R150). -/
def Ctx.noteStore (c : Ctx) (tick k : Nat) (w : Word) : Ctx :=
  match witKind w with
  | 1 => if witDst w = k then c else { c with th := c.th.ownStore tick w }
  | 2 => { c with th := { c.th with ownOver := wjoin tick c.th.ownOver w } }
  | _ => c

end Sys2Proof.Machine
end

