-- ==== Sys2Proof/Machine/Wait.lean ====
section
/-! DEFINITION. When a parked context's wait is over, and the state a context is in (04_context.md R87, R88). -/
namespace Sys2Proof.Machine

/-- Whether a context may be packed: every register full, no vector command running, and every access of memory answered
(03_encoding.md R61, 04_context.md R94, R98, 11_stream.md R212; log 97, DEDUCED). -/
def Ctx.packable (c : Ctx) : Bool := c.allFull && c.vcmds.isEmpty && !c.memBusy

/-- Whether a packet doubleword is a register that a producer still has to fill (R61). -/
def Ctx.wordEmpty (c : Ctx) (i : Nat) : Bool :=
  (decide (3 ≤ i) && decide (i < 18) && c.xEmpty (BitVec.ofNat 5 (i - 2))) ||
  (decide (18 ≤ i) && decide (i < 26) && c.fEmpty (BitVec.ofNat 3 (i - 18)))

/-- A KAPPEND of the context is outstanding. -/
def Ctx.appending (c : Ctx) : Bool := c.pend.any fun q => q.kind == .append

/-- A slot as the reader of its own home's memory. -/
def Agent.reader (a : Agent) (c : Nat) : Reader :=
  match a with
  | .tile _ => .slot c
  | .mill k => .mill k

/-- Whether what the context in a slot waits for has come. -/
def State.waitOver (s : State) (a : Agent) (c : Nat) : Bool :=
  let t := a.tileOf
  let x := s.ctx a c
  match x.wait with
  | .event => false
  | .reg d => !(x.pend.any fun p => p.dest == d)
  | .full => x.packable
  | .reply => !x.memBusy
  | .wit w => s.checkFor a x w != .wait
  | .counts wt => x.countsClear wt
  | .c3 => x.c3 == 0
  | .journal => (s.tile t).journalRoom
  | .held off => !s.awaiting t off && !s.heldAhead t (some (a.reader c))
  | .range rank off =>
    match s.homeOf rank with
    | some d => !s.awaiting d off
    | none => true
  | .map rank => (s.mapOfNode a.node rank).isSome
  | .slot off tok =>
    match barrierStep true (s.rankOf t) (.test tok) (s.readSlot (spadKey t off)) with
    | .ok _ v _ => v != 0
    | .trap _ => true
  | .transfer seq => !((s.tile t).copyQueue ++ (s.tile t).copyRun).any fun y => y.seq == seq
  | .word c i => !((s.tile t).slot c).wordEmpty i
  | .append => !x.appending

/-- The state the context in a slot is in: parked only while its wait lasts (R88). -/
def State.stateOf (s : State) (a : Agent) (c : Nat) : CState :=
  match (s.ctx a c).st with
  | .parkedReg | .parkedWit | .parkedJoin => if s.waitOver a c then .ready else (s.ctx a c).st
  | st => st

/-- The state of a tile's slot. -/
def State.slotState (s : State) (t c : Nat) : CState := s.stateOf (.tile t) c

/-- A store of a context to its own rank that the home holds: the context issues nothing before it is settled
(07_witness.md R143, R155 item 3; log 98, DEDUCED). -/
def Tile.ownHeld (T : Tile) (g : Word) : Bool :=
  T.held.any fun h => match h with
    | .posted p _ _ => some p.src == T.rank && p.src == p.rank && p.gtid == g &&
      T.journal.any (fun e => e.idx == p.jidx && e.eng.isNone)
    | _ => false

end Sys2Proof.Machine
end

