-- ==== Sys2Proof/Machine/Access.lean ====
section
/-! DEFINITION. Loads, stores and atomics of a context, and the instructions that are no more than one such access:
the standard and witnessed loads and stores, LDREM, MIGRATE, HOME, PADD, the posted and returning atomics
(05_scalar.md R106 to R115; 07_witness.md R148, R157, R158, R163 to R165; 06_float.md R136). -/
namespace Sys2Proof.Machine

/-! ### Performing at a place -/

/-- The memory effect and value of a load, a returning atomic or a TARM at a key (R154, 08_frame.md R177): DRAM writes meet the watchpoints. -/
def State.accessMem (s : State) (t : Nat) (l : Loc) (op : ProxOp) : State × Word :=
  let key := l.key t
  match op with
  | .load n => (s, BitVec.ofNat 64 (leNat (s.rdMem key n)))
  | .ret r v cmp =>
    let m := s.rdWord key
    let new := wordBytes (r.apply m v cmp)
    match l with
    | .dram _ off _ _ => (s.homeWrite t off (s.rankOf t) new, m)
    | .sram off => ((s.wrMem key new).clearTag off, m)
    | _ => (s.wrMem key new, m)
  | .tarm n =>
    let (dw, q) := counterStep (s.rdWord key) n true
    let s' := match l with
      | .dram _ off _ _ => s.homeWrite t off (s.rankOf t) (wordBytes dw)
      | _ => s.wrWord key dw
    (if q then s'.queueDesc t (descOf (s.rdWord (key + 8))) else s', 0)
  | _ => (s, 0)

/-- The value a load's extension makes of what memory gave. -/
def Ext.ofWord (e : Ext) (w : Word) : Word := e.apply w.toNat

/-- A load's value put where it goes: an integer register, or a floating one or its stream (06_float.md R136, R138). -/
def State.deliver (s : State) (d : Dest) (e : Ext) (v : Word) : State :=
  match d with
  | .x r => s.setX r v
  | .f r => s.setFv e.code r v.toNat 0#5
  | _ => s

/-- The parts of a load-like access. -/
structure Access where
  kind : AKind
  op : ProxOp
  n : Nat
  ext : Ext
  base : XReg
  ptr : Word
  /-- The presented witness and the wait field (R157). -/
  wit : Word
  wt : BitVec 2
  dst : Dest
  /-- Delivered late even when it performs here: LDREM and the returning atomics (R115, R164). -/
  late : Bool
  /-- Never migrates: LDREM, and loads into a bound stream register (R115, 06_float.md R140). -/
  stay : Bool
  /-- What its retirement counts when it is performed late: run alone for LDREM (R115). -/
  counts : Counts
deriving DecidableEq, Repr

/-- An access that does not deliver in its turn: the destination is claimed, and the context goes on; the access is counted
when its reply has come (log 92, DEDUCED). -/
def State.claimAccess (s : State) (a : Access) (l : Loc) : State :=
  let kind := match l with
    | .host addr => ProdKind.host addr a.n a.ext
    | _ => .access a.ext
  (s.claimAs a.counts a.dst kind (s.accOf s.curTile l)).retireQuiet

/-- The line of a local DRAM access is present, or the access reads no cached line (R101, R110). -/
def State.lineReady (s : State) (l : Loc) (op : ProxOp) : Bool :=
  match l, op with
  | .dram _ off _ _, .load _ => s.curT.lines.contains (lineOf off)
  | _, _ => true

/-- The fill of a missing line starts (R101). -/
def State.startFill (s : State) (off : Nat) : State :=
  s.modTile s.curTile fun T =>
    if T.fills.contains (lineOf off) then T else { T with fills := T.fills ++ [lineOf off] }

/-- The access waits at its own home, which holds it (R412, 08_frame.md R177). -/
def State.holdHere (s : State) (a : Access) (l : Loc) (off : Nat) : State :=
  let t := s.curTile
  let who : Who := ⟨s.focus, s.curSlot, s.nextId⟩
  let req : ProxyReq := ⟨who, a.op, s.curRank, off, a.ptr, 0, 0, s.curPart⟩
  (s.claimAccess a l).modTile t fun T => { T with held := T.held ++ [.proxy req ⟨s.focus.node, [], 0⟩ s.clock] }

/-- The access takes effect on the current tile: a late producer answers itself. -/
def State.performNow (s : State) (a : Access) (l : Loc) : State :=
  let (s, v) := s.accessMem s.curTile l a.op
  if a.late then
    let who : Who := ⟨s.focus, s.curSlot, s.nextId⟩
    (s.claimAccess a l).send s.focus.node s.focus.node none 0 (.proxyRep who 0 (.value v))
  else (s.deliver a.dst a.ext (a.ext.ofWord v)).retire

/-- A class-00 load that has missed in the home cache adds its replays to the tile's accumulator (21_observe.md R373). -/
def State.noteReplays (s : State) (off : Nat) : State :=
  match s.cur.missed, s.cur.replayFrom with
  | true, some c0 => s.addDelay s.curTile (off / 256 % 16) (s.curT.cycles - c0)
  | _, _ => s

/-- An access to the tile's own DRAM in its turn at the home (R110, R412): a load's missing line replays; an operation whose
descriptor the run list cannot take is held. -/
def State.performDram (s : State) (a : Access) (l : Loc) (off : Nat) : State :=
  match s.atHome s.curTile off (s.focus.reader s.curSlot) with
  | .held s => s.park (.held off)
  | .wait => s.forfeit
  | .go s =>
    if s.armBlocks s.curTile (l.key s.curTile) a.op then s.holdHere a l off
    else if !s.lineReady l a.op then
      (s.modCur fun c => { c with missed := true }).replay fun s => s.startFill off
    else (s.noteReplays off).performNow a l

/-- The access performs on the current tile (R108, R110): a marked range traps with cause 53 (R111, R327), an uncorrectable
scratchpad line is a load access fault (26_prog_gangmatmul.md R405). -/
def State.performHere (s : State) (a : Access) (l : Loc) : State :=
  match l with
  | .dram _ off _ _ => if s.poison s.curTile off != 0 then s.trap 53 a.ptr else s.performDram a l off
  | .spad o =>
    if s.curT.badLines.contains (o / 64) then s.trap a.kind.access a.ptr
    else if s.armBlocks s.curTile (l.key s.curTile) a.op then s.forfeit
    else s.performNow a l
  | _ => s.performNow a l

/-- The access is proxied (04_context.md R94): the overflow is waited for, and the request carries the own-store
entry for the owner (R151). One that stays counts in run alone (R115, 06_float.md R140). -/
def State.proxyAccess (s : State) (a : Access) (rank off : Nat) (l : Loc) : State :=
  s.awaitOver fun s =>
    match s.mapOfNode s.focus.node rank with
    | none => s.park (.map rank)
    | some d =>
      let who : Who := ⟨s.focus, s.curSlot, s.nextId⟩
      let req : ProxyReq := ⟨who, a.op, rank, off, a.ptr, a.wit, s.cur.th.ownFor rank, s.curPart⟩
      (s.claimAccess { a with counts := if a.stay then .run else a.counts } l).send s.focus.node (.tile d) (some rank) 0
        (.proxyReq req)

/-- The context departs for another rank with the pointer and offset of its access (R91, 17_page.md R324): it waits for its
registers (DEPARTURE packs it). -/
def State.depart (s : State) (rank acc : Nat) (explicit : Bool) (ptr : Word) (off : Nat) : State :=
  s.modCur fun c => { c with st := .departing, target := rank, explicit := explicit, macc := acc, probes := [],
                             replayFrom := none, missed := false, proxyNext := false, carried := some (ptr, off) }

/-- Whether completion interrupts of copy transfers tie a context to its tile (13_channel.md R261). -/
def Tile.tied (T : Tile) (g : Word) : Bool :=
  (T.copyQueue ++ T.copyRun).any (fun x => x.irq && x.who.gtid == g) || T.copyIrqs.any fun q => q.gtid == g

def State.tied (s : State) : Bool :=
  match s.focus with
  | .tile t => s.cur.handler || (s.tile t).tied s.cur.th.gtid
  | .mill _ => false

/-- Whether a load or returning atomic to another rank is proxied and does not migrate (R94, R96, R320): slot 0,
a mill core, a pinned, furrow-bound or tied context, an access that stays or has met its eighth refusal, a foreign
page with XP. -/
def State.proxied (s : State) (a : Access) (rank : Nat) (xp : Bool) : Bool :=
  s.full || s.cur.th.pinned || s.cur.th.furrow || a.stay || s.cur.proxyNext || s.tied || (xp && s.partOf rank != s.curPart)

/-- The request of a space-3 access goes to the bridge (R108) (log 36, DEDUCED). -/
def State.peerAccess (s : State) (a : Access) (p : Word) : State :=
  let who : Who := ⟨s.focus, s.curSlot, s.nextId⟩
  (s.claimAccess a (.peer p)).send s.focus.node (.bridge (peerEp p % 4)) none 0 (.peerReq who s.curPart p a.op)

/-- A load, LDREM or returning atomic once its pointer, witness and wait field have passed (R108, R157). -/
def State.place (s : State) (a : Access) (l : Loc) : State :=
  match l with
  | .spad _ => s.awaitWit a.wit a.wit fun s => s.performHere a l
  | .sram _ => s.awaitWit a.wit a.wit fun s => s.performHere a l
  | .dram rank off rep xp =>
    if s.focus == .tile s.curTile && (rep || rank == s.curRank) then
      s.awaitHere fun s => s.awaitWit a.wit a.wit fun s => s.performHere a l
    else if s.proxied a rank xp then s.proxyAccess a rank off l
    else s.depart rank (s.accOf s.curTile l) false a.ptr off
  | .host _ =>
    if 0 < s.cur.c3 then s.park .c3
    else s.awaitOver fun s => s.awaitWit a.wit a.wit fun s => s.claimAccess a l
  | .peer p =>
    if 0 < s.cur.c3 then s.park .c3
    else s.awaitOver fun s => s.awaitWit a.wit a.wit fun s => s.peerAccess a p

/-- The containment of a kernel instruction's write (14_kernel.md R275): cause 27 outside its writable extents. -/
def State.contained (s : State) (l : Loc) (n : Nat) (ptr : Word) (go : State → State) : State :=
  if s.mayWrite l n then go s else s.trap 27 ptr

/-- A load, LDREM or returning atomic (R157): translation and its faults, the presented witness's format, poison,
the wait field, then the place. A returning atomic of space 2 is a load access fault (R164), a TARM of space 2 or 3 a store access fault
(08_frame.md R178). -/
def State.doAccess (s : State) (a : Access) : State :=
  s.withBase a.kind a.n a.base a.ptr fun l s =>
    match l, a.op with
    | .host _, .ret _ _ _ => s.trap a.kind.access a.ptr
    | .host _, .tarm _ => s.trap a.kind.access a.ptr
    | .peer _, .tarm _ => s.trap a.kind.access a.ptr
    | .sram _, .tarm _ => s.trap a.kind.access a.ptr
    | _, .ret _ _ _ => s.contained l a.n a.ptr fun s => s.awaitField a.wt fun s => s.place a l
    | _, _ =>
      s.validWit a.wit fun s =>
        if witKind a.wit = 3 then s.trap 26 a.wit else s.awaitField a.wt fun s => s.place a l

/-! ### Stores (R108, R148, R158) -/

/-- Whether a location takes a journal entry (R109). -/
def Loc.journals : Loc → Bool
  | .spad _ => false
  | .sram _ => false
  | _ => true

/-- A posted operation of the issuing context once its location is known: the journal must have room, the class,
own-store table and rd follow R148. -/
def State.doPost (s : State) (rd : XReg) (op : PostOp) (l : Loc) (done : State → State) : State :=
  match s.focus, l with
  | .mill k, .dram rank off _ _ =>
    let w := tickWit (s.tick + 1)
    done ((((s.postBridge (k / 4) none rank off op).1).modCur fun c => c.noteStore s.tick 4095 w).setX rd w)
  | _, _ =>
  let t := s.curTile
  if l.journals && !s.curT.journalRoom then s.park .journal
  else if (match l with
      | .spad off => s.runListBlocks t (spadKey t off) op
      | _ => false) then s.forfeit
  else
    let c := s.cur
    let slot := match s.focus with
      | .tile _ => some s.curSlot
      | .mill _ => none
    let k := s.curRank
    let tick := s.tick
    let (s, w) := s.post ⟨t, slot, c.th.gtid, s.kernelPos, none⟩ op l
    done ((s.modCur fun c => c.noteStore tick k w).setX rd w)

/-- A store or posted atomic (R158): the wait field, the pointer's checks, containment, then the post. -/
def State.doStore (s : State) (rd : XReg) (op : PostOp) (n : Nat) (base : XReg) (ptr : Word) (wt : BitVec 2) : State :=
  s.awaitField wt fun s =>
    s.withBase akStore n base ptr fun l s =>
      match l, op with
      | .host _, .store _ => s.contained l n ptr fun s => s.doPost rd op l State.retire
      -- a posted atomic of space 2 is a store access fault (R163); so is a TDEC of space 2 or 3 (R179)
      | .host _, _ => s.trap 7 ptr
      | .peer _, .tdec => s.trap 7 ptr
      | .sram _, .tdec => s.trap 7 ptr
      | _, _ => s.contained l n ptr fun s => s.doPost rd op l State.retire

/-! ### The instructions -/

/-- A load of the issuing context (R106, R107, R157). -/
def State.load (s : State) (d : Dest) (e : Ext) (base : XReg) (p w : Word) (wt : BitVec 2) : State :=
  let stay := match d with
    | .f r => s.cur.bound r
    | _ => false
  s.doAccess ⟨akLoad, .load e.size, e.size, e, base, p, w, wt, d, false, stay, .all⟩

/-- LB (R107, R108). -/
def execLb (rd : XReg) (rs1 : XReg) (imm : BitVec 12) (s : State) : Out :=
  issue (.lb rd rs1 imm) s fun s => s.load (.x rd) .s8 rs1 (effPtr (s.x1 rs1) (imm.signExtend 64)) 0 0#2

/-- LH (R107, R108). -/
def execLh (rd : XReg) (rs1 : XReg) (imm : BitVec 12) (s : State) : Out :=
  issue (.lh rd rs1 imm) s fun s => s.load (.x rd) .s16 rs1 (effPtr (s.x1 rs1) (imm.signExtend 64)) 0 0#2

/-- LW (R107, R108). -/
def execLw (rd : XReg) (rs1 : XReg) (imm : BitVec 12) (s : State) : Out :=
  issue (.lw rd rs1 imm) s fun s => s.load (.x rd) .s32 rs1 (effPtr (s.x1 rs1) (imm.signExtend 64)) 0 0#2

/-- LD (R107, R108). -/
def execLd (rd : XReg) (rs1 : XReg) (imm : BitVec 12) (s : State) : Out :=
  issue (.ld rd rs1 imm) s fun s => s.load (.x rd) .d64 rs1 (effPtr (s.x1 rs1) (imm.signExtend 64)) 0 0#2

/-- LBU (R107, R108). -/
def execLbu (rd : XReg) (rs1 : XReg) (imm : BitVec 12) (s : State) : Out :=
  issue (.lbu rd rs1 imm) s fun s => s.load (.x rd) .u8 rs1 (effPtr (s.x1 rs1) (imm.signExtend 64)) 0 0#2

/-- LHU (R107, R108). -/
def execLhu (rd : XReg) (rs1 : XReg) (imm : BitVec 12) (s : State) : Out :=
  issue (.lhu rd rs1 imm) s fun s => s.load (.x rd) .u16 rs1 (effPtr (s.x1 rs1) (imm.signExtend 64)) 0 0#2

/-- LWU (R107, R108). -/
def execLwu (rd : XReg) (rs1 : XReg) (imm : BitVec 12) (s : State) : Out :=
  issue (.lwu rd rs1 imm) s fun s => s.load (.x rd) .u32 rs1 (effPtr (s.x1 rs1) (imm.signExtend 64)) 0 0#2

/-- FLW (06_float.md R136). -/
def execFlw (fd : FReg) (rs1 : XReg) (imm : BitVec 12) (s : State) : Out :=
  issue (.flw fd rs1 imm) s fun s => s.load (.f fd) .box32 rs1 (effPtr (s.x1 rs1) (imm.signExtend 64)) 0 0#2

/-- FLD (06_float.md R136). -/
def execFld (fd : FReg) (rs1 : XReg) (imm : BitVec 12) (s : State) : Out :=
  issue (.fld fd rs1 imm) s fun s => s.load (.f fd) .d64 rs1 (effPtr (s.x1 rs1) (imm.signExtend 64)) 0 0#2

/-- LB.W (R157). -/
def execLbW (rd rs1 rs2 : XReg) (wt : BitVec 2) (s : State) : Out :=
  issue (.lbW rd rs1 rs2 wt) s fun s => s.load (.x rd) .s8 rs1 (effPtr (s.x1 rs1) 0) (s.x2 rs1 rs2) wt

/-- LH.W (R157). -/
def execLhW (rd rs1 rs2 : XReg) (wt : BitVec 2) (s : State) : Out :=
  issue (.lhW rd rs1 rs2 wt) s fun s => s.load (.x rd) .s16 rs1 (effPtr (s.x1 rs1) 0) (s.x2 rs1 rs2) wt

/-- LW.W (R157). -/
def execLwW (rd rs1 rs2 : XReg) (wt : BitVec 2) (s : State) : Out :=
  issue (.lwW rd rs1 rs2 wt) s fun s => s.load (.x rd) .s32 rs1 (effPtr (s.x1 rs1) 0) (s.x2 rs1 rs2) wt

/-- LD.W (R157). -/
def execLdW (rd rs1 rs2 : XReg) (wt : BitVec 2) (s : State) : Out :=
  issue (.ldW rd rs1 rs2 wt) s fun s => s.load (.x rd) .d64 rs1 (effPtr (s.x1 rs1) 0) (s.x2 rs1 rs2) wt

/-- LBU.W (R157). -/
def execLbuW (rd rs1 rs2 : XReg) (wt : BitVec 2) (s : State) : Out :=
  issue (.lbuW rd rs1 rs2 wt) s fun s => s.load (.x rd) .u8 rs1 (effPtr (s.x1 rs1) 0) (s.x2 rs1 rs2) wt

/-- LHU.W (R157). -/
def execLhuW (rd rs1 rs2 : XReg) (wt : BitVec 2) (s : State) : Out :=
  issue (.lhuW rd rs1 rs2 wt) s fun s => s.load (.x rd) .u16 rs1 (effPtr (s.x1 rs1) 0) (s.x2 rs1 rs2) wt

/-- LWU.W (R157). -/
def execLwuW (rd rs1 rs2 : XReg) (wt : BitVec 2) (s : State) : Out :=
  issue (.lwuW rd rs1 rs2 wt) s fun s => s.load (.x rd) .u32 rs1 (effPtr (s.x1 rs1) 0) (s.x2 rs1 rs2) wt

/-- SB (R107, R108). -/
def execSb (rs1 rs2 : XReg) (imm : BitVec 12) (s : State) : Out :=
  issue (.sb rs1 rs2 imm) s fun s =>
    s.doStore 0 (.store (leBytes 1 (s.x2 rs1 rs2).toNat)) 1 rs1 (effPtr (s.x1 rs1) (imm.signExtend 64)) 0#2

/-- SH (R107, R108). -/
def execSh (rs1 rs2 : XReg) (imm : BitVec 12) (s : State) : Out :=
  issue (.sh rs1 rs2 imm) s fun s =>
    s.doStore 0 (.store (leBytes 2 (s.x2 rs1 rs2).toNat)) 2 rs1 (effPtr (s.x1 rs1) (imm.signExtend 64)) 0#2

/-- SW (R107, R108). -/
def execSw (rs1 rs2 : XReg) (imm : BitVec 12) (s : State) : Out :=
  issue (.sw rs1 rs2 imm) s fun s =>
    s.doStore 0 (.store (leBytes 4 (s.x2 rs1 rs2).toNat)) 4 rs1 (effPtr (s.x1 rs1) (imm.signExtend 64)) 0#2

/-- SD (R107, R108). -/
def execSd (rs1 rs2 : XReg) (imm : BitVec 12) (s : State) : Out :=
  issue (.sd rs1 rs2 imm) s fun s =>
    s.doStore 0 (.store (leBytes 8 (s.x2 rs1 rs2).toNat)) 8 rs1 (effPtr (s.x1 rs1) (imm.signExtend 64)) 0#2

/-- FSW (06_float.md R136, R138): a popped element's conversion flags are raised. -/
def execFsw (rs1 : XReg) (fs2 : FReg) (imm : BitVec 12) (s : State) : Out :=
  issue (.fsw rs1 fs2 imm) s fun s =>
    let (v, fl) := s.fBits 2 fs2
    let s' := s.doStore 0 (.store (leBytes 4 v)) 4 rs1 (effPtr (s.x1 rs1) (imm.signExtend 64)) 0#2
    if fl = 0#5 then s' else if s'.cur.retired then s'.modCur fun c => c.orFlags fl else s'

/-- FSD (06_float.md R136, R138): a popped element's conversion flags are raised. -/
def execFsd (rs1 : XReg) (fs2 : FReg) (imm : BitVec 12) (s : State) : Out :=
  issue (.fsd rs1 fs2 imm) s fun s =>
    let (v, fl) := s.fBits 1 fs2
    let s' := s.doStore 0 (.store (leBytes 8 v)) 8 rs1 (effPtr (s.x1 rs1) (imm.signExtend 64)) 0#2
    if fl = 0#5 then s' else if s'.cur.retired then s'.modCur fun c => c.orFlags fl else s'

/-- SB.W (R158). -/
def execSbW (rd rs1 rs2 : XReg) (wt : BitVec 2) (s : State) : Out :=
  issue (.sbW rd rs1 rs2 wt) s fun s =>
    s.doStore rd (.store (leBytes 1 (s.x2 rs1 rs2).toNat)) 1 rs1 (effPtr (s.x1 rs1) 0) wt

/-- SH.W (R158). -/
def execShW (rd rs1 rs2 : XReg) (wt : BitVec 2) (s : State) : Out :=
  issue (.shW rd rs1 rs2 wt) s fun s =>
    s.doStore rd (.store (leBytes 2 (s.x2 rs1 rs2).toNat)) 2 rs1 (effPtr (s.x1 rs1) 0) wt

/-- SW.W (R158). -/
def execSwW (rd rs1 rs2 : XReg) (wt : BitVec 2) (s : State) : Out :=
  issue (.swW rd rs1 rs2 wt) s fun s =>
    s.doStore rd (.store (leBytes 4 (s.x2 rs1 rs2).toNat)) 4 rs1 (effPtr (s.x1 rs1) 0) wt

/-- SD.W (R158). -/
def execSdW (rd rs1 rs2 : XReg) (wt : BitVec 2) (s : State) : Out :=
  issue (.sdW rd rs1 rs2 wt) s fun s =>
    s.doStore rd (.store (leBytes 8 (s.x2 rs1 rs2).toNat)) 8 rs1 (effPtr (s.x1 rs1) 0) wt

/-- AADD.P (R163). -/
def execAaddP (rd rs1 rs2 : XReg) (wt : BitVec 2) (s : State) : Out :=
  issue (.aaddP rd rs1 rs2 wt) s fun s => s.doStore rd (.atomic .add (s.x2 rs1 rs2)) 8 rs1 (effPtr (s.x1 rs1) 0) wt

/-- AAND.P (R163). -/
def execAandP (rd rs1 rs2 : XReg) (wt : BitVec 2) (s : State) : Out :=
  issue (.aandP rd rs1 rs2 wt) s fun s => s.doStore rd (.atomic .and (s.x2 rs1 rs2)) 8 rs1 (effPtr (s.x1 rs1) 0) wt

/-- AOR.P (R163). -/
def execAorP (rd rs1 rs2 : XReg) (wt : BitVec 2) (s : State) : Out :=
  issue (.aorP rd rs1 rs2 wt) s fun s => s.doStore rd (.atomic .or (s.x2 rs1 rs2)) 8 rs1 (effPtr (s.x1 rs1) 0) wt

/-- AXOR.P (R163). -/
def execAxorP (rd rs1 rs2 : XReg) (wt : BitVec 2) (s : State) : Out :=
  issue (.axorP rd rs1 rs2 wt) s fun s => s.doStore rd (.atomic .xor (s.x2 rs1 rs2)) 8 rs1 (effPtr (s.x1 rs1) 0) wt

/-- AMIN.P (R163). -/
def execAminP (rd rs1 rs2 : XReg) (wt : BitVec 2) (s : State) : Out :=
  issue (.aminP rd rs1 rs2 wt) s fun s => s.doStore rd (.atomic .min (s.x2 rs1 rs2)) 8 rs1 (effPtr (s.x1 rs1) 0) wt

/-- AMAX.P (R163). -/
def execAmaxP (rd rs1 rs2 : XReg) (wt : BitVec 2) (s : State) : Out :=
  issue (.amaxP rd rs1 rs2 wt) s fun s => s.doStore rd (.atomic .max (s.x2 rs1 rs2)) 8 rs1 (effPtr (s.x1 rs1) 0) wt

/-- AMINU.P (R163). -/
def execAminuP (rd rs1 rs2 : XReg) (wt : BitVec 2) (s : State) : Out :=
  issue (.aminuP rd rs1 rs2 wt) s fun s => s.doStore rd (.atomic .minu (s.x2 rs1 rs2)) 8 rs1 (effPtr (s.x1 rs1) 0) wt

/-- AMAXU.P (R163). -/
def execAmaxuP (rd rs1 rs2 : XReg) (wt : BitVec 2) (s : State) : Out :=
  issue (.amaxuP rd rs1 rs2 wt) s fun s => s.doStore rd (.atomic .maxu (s.x2 rs1 rs2)) 8 rs1 (effPtr (s.x1 rs1) 0) wt

/-- AFADD.P (R163). -/
def execAfaddP (rd rs1 rs2 : XReg) (wt : BitVec 2) (s : State) : Out :=
  issue (.afaddP rd rs1 rs2 wt) s fun s => s.doStore rd (.atomic .fadd (s.x2 rs1 rs2)) 8 rs1 (effPtr (s.x1 rs1) 0) wt

/-- TDEC (R165, 08_frame.md R179). -/
def execTdec (rd rs1 : XReg) (wt : BitVec 2) (s : State) : Out :=
  issue (.tdec rd rs1 wt) s fun s => s.doStore rd .tdec 16 rs1 (effPtr (s.x1 rs1) 0) wt

/-- A returning atomic of the issuing context (R164). -/
def State.returning (s : State) (rd : XReg) (op : RetOp) (v cmp : Word) (base : XReg) (p : Word) (wt : BitVec 2) : State :=
  s.doAccess ⟨akRet, .ret op v cmp, 8, .d64, base, p, 0, wt, .x rd, true, false, .all⟩

/-- AADD (R164). -/
def execAadd (rd rs1 rs2 : XReg) (wt : BitVec 2) (s : State) : Out :=
  issue (.aadd rd rs1 rs2 wt) s fun s => s.returning rd .add (s.x2 rs1 rs2) 0 rs1 (effPtr (s.x1 rs1) 0) wt

/-- ASWAP (R164). -/
def execAswap (rd rs1 rs2 : XReg) (wt : BitVec 2) (s : State) : Out :=
  issue (.aswap rd rs1 rs2 wt) s fun s => s.returning rd .swap (s.x2 rs1 rs2) 0 rs1 (effPtr (s.x1 rs1) 0) wt

/-- ACAS (R164): rd holds the comparand. -/
def execAcas (rd rs1 rs2 : XReg) (wt : BitVec 2) (s : State) : Out :=
  issue (.acas rd rs1 rs2 wt) s fun s =>
    s.returning rd .cas (s.x2 rs1 rs2) (s.x3 rs1 rs2 rd) rs1 (effPtr (s.x1 rs1) 0) wt

/-- LDREM (R115): a null witness, never a migration, always a late value. -/
def execLdrem (rd rs1 : XReg) (wt : BitVec 2) (s : State) : Out :=
  issue (.ldrem rd rs1 wt) s fun s =>
    s.doAccess ⟨akLoad, .load 8, 8, .d64, rs1, effPtr (s.x1 rs1) 0, 0, wt, .x rd, true, true, .run⟩

/-- MIGRATE (R114). -/
def execMigrate (rs1 : XReg) (s : State) : Out :=
  issueIf (s.full || s.cur.th.furrow || s.tied) (.migrate rs1) s fun s =>
    s.withLoc akLoad 1 (effPtr (s.x1 rs1) 0) fun l s =>
      match l with
      | .spad _ => s.retire
      | .dram rank off rep xp =>
        if rep || rank == s.curRank then s.retire
        else s.depart rank (s.accOf s.curTile (.dram rank off rep xp)) true (effPtr (s.x1 rs1) 0) off
      | .host _ => s.trap 5 (effPtr (s.x1 rs1) 0)
      | .peer _ => s.trap 5 (effPtr (s.x1 rs1) 0)
      | .sram _ => s.trap 5 (effPtr (s.x1 rs1) 0)

/-- What HOME reports of a location (R113). -/
def State.homeWord (s : State) (p : Word) (l : Loc) : Word :=
  let t := s.curTile
  let sp := ptrSpace p * 2 ^ 60
  BitVec.ofNat 64 (match l with
    | .spad _ => sp + s.curRank * 2 ^ 16 + 1
    | .dram rank off rep _ =>
      let rank := if rep then s.curRank else rank
      (if s.focus == .tile t then s.classOf t rank else 2) * 2 ^ 62 + sp + rank * 2 ^ 16 + off / 256 % 16 * 2 ^ 12 + 1
    | .host _ => 3 * 2 ^ 62 + sp + 1
    | .peer _ => 3 * 2 ^ 62 + sp + 1
    | .sram _ => 0)

/-- HOME (R113): it never traps; a miss in the tile TLB replays it. -/
def execHome (rd rs1 : XReg) (s : State) : Out :=
  issue (.home rd rs1) s fun s =>
    let p := s.x1 rs1
    match s.xlat akLoad p with
    | .ok l => ((s.touch p).setX rd (s.homeWord p l)).retire
    | .miss host a => s.replay fun s => s.startXlat host a
    | .pageFault => (s.setX rd 0).retire
    | .accessFault => (s.setX rd 0).retire

/-- PADD (R112). -/
def execPadd (rd rs1 rs2 : XReg) (s : State) : Out :=
  aluOp (.padd rd rs1 rs2) rd (fun s => effPtr (s.x1 rs1) (s.x2 rs1 rs2)) s

end Sys2Proof.Machine
end

