-- ==== Sys2Proof/Machine/IntArith.lean ====
section
/-! DEFINITION. Integer arithmetic, branches and jumps (05_scalar.md R102 to R105). -/
namespace Sys2Proof.Machine

/-! ### Arithmetic (R102) -/

/-- The low 32 bits sign-extended. -/
def sext32 (v : BitVec 32) : Word := v.signExtend 64
/-- The low 32 bits of a register. -/
def lo32 (v : Word) : BitVec 32 := v.extractLsb' 0 32
/-- A 12-bit immediate sign-extended. -/
def simm (i : BitVec 12) : Word := i.signExtend 64
/-- An upper immediate: sext32 of the 20 bits above twelve zeros. -/
def upper (i : BitVec 20) : Word := sext32 (i ++ 0#12)
/-- 1 or 0. -/
def flag (b : Bool) : Word := if b then 1 else 0
/-- The number of 1 bits. -/
def popcount (v : Word) : Nat := ((List.range 64).filter fun i => v.getLsbD i).length
/-- The number of leading zero bits, 64 for zero. -/
def clz64 (v : Word) : Nat := if v = 0 then 64 else 63 - Nat.log2 v.toNat
/-- The number of trailing zero bits, 64 for zero. -/
def ctz64 (v : Word) : Nat := ((List.range 64).find? fun i => v.getLsbD i).getD 64
/-- The eight bytes in reverse order. -/
def rev8 (v : Word) : Word := BitVec.ofNat 64 (leNat (leBytes 8 v.toNat).reverse)

/-- ADD (R102). -/
def execAdd (rd rs1 rs2 : XReg) (s : State) : Out :=
  aluOp (.add rd rs1 rs2) rd (fun s => let a := s.x1 rs1; let b := s.x2 rs1 rs2; a + b) s

/-- SUB (R102). -/
def execSub (rd rs1 rs2 : XReg) (s : State) : Out :=
  aluOp (.sub rd rs1 rs2) rd (fun s => let a := s.x1 rs1; let b := s.x2 rs1 rs2; a - b) s

/-- AND (R102). -/
def execAnd (rd rs1 rs2 : XReg) (s : State) : Out :=
  aluOp (.and rd rs1 rs2) rd (fun s => let a := s.x1 rs1; let b := s.x2 rs1 rs2; a &&& b) s

/-- OR (R102). -/
def execOr (rd rs1 rs2 : XReg) (s : State) : Out :=
  aluOp (.or rd rs1 rs2) rd (fun s => let a := s.x1 rs1; let b := s.x2 rs1 rs2; a ||| b) s

/-- XOR (R102). -/
def execXor (rd rs1 rs2 : XReg) (s : State) : Out :=
  aluOp (.xor rd rs1 rs2) rd (fun s => let a := s.x1 rs1; let b := s.x2 rs1 rs2; a ^^^ b) s

/-- SLT (R102). -/
def execSlt (rd rs1 rs2 : XReg) (s : State) : Out :=
  aluOp (.slt rd rs1 rs2) rd (fun s => let a := s.x1 rs1; let b := s.x2 rs1 rs2; flag (a.slt b)) s

/-- SLTU (R102). -/
def execSltu (rd rs1 rs2 : XReg) (s : State) : Out :=
  aluOp (.sltu rd rs1 rs2) rd (fun s => let a := s.x1 rs1; let b := s.x2 rs1 rs2; flag (a.ult b)) s

/-- SLL (R102). -/
def execSll (rd rs1 rs2 : XReg) (s : State) : Out :=
  aluOp (.sll rd rs1 rs2) rd (fun s => let a := s.x1 rs1; let b := s.x2 rs1 rs2; a <<< fld b 5 0) s

/-- SRL (R102). -/
def execSrl (rd rs1 rs2 : XReg) (s : State) : Out :=
  aluOp (.srl rd rs1 rs2) rd (fun s => let a := s.x1 rs1; let b := s.x2 rs1 rs2; a >>> fld b 5 0) s

/-- SRA (R102). -/
def execSra (rd rs1 rs2 : XReg) (s : State) : Out :=
  aluOp (.sra rd rs1 rs2) rd (fun s => let a := s.x1 rs1; let b := s.x2 rs1 rs2; a.sshiftRight (fld b 5 0)) s

/-- ADDW (R102). -/
def execAddw (rd rs1 rs2 : XReg) (s : State) : Out :=
  aluOp (.addw rd rs1 rs2) rd (fun s => let a := s.x1 rs1; let b := s.x2 rs1 rs2; sext32 (lo32 a + lo32 b)) s

/-- SUBW (R102). -/
def execSubw (rd rs1 rs2 : XReg) (s : State) : Out :=
  aluOp (.subw rd rs1 rs2) rd (fun s => let a := s.x1 rs1; let b := s.x2 rs1 rs2; sext32 (lo32 a - lo32 b)) s

/-- SLLW (R102). -/
def execSllw (rd rs1 rs2 : XReg) (s : State) : Out :=
  aluOp (.sllw rd rs1 rs2) rd (fun s => let a := s.x1 rs1; let b := s.x2 rs1 rs2; sext32 (lo32 a <<< fld b 4 0)) s

/-- SRLW (R102). -/
def execSrlw (rd rs1 rs2 : XReg) (s : State) : Out :=
  aluOp (.srlw rd rs1 rs2) rd (fun s => let a := s.x1 rs1; let b := s.x2 rs1 rs2; sext32 (lo32 a >>> fld b 4 0)) s

/-- SRAW (R102). -/
def execSraw (rd rs1 rs2 : XReg) (s : State) : Out :=
  aluOp (.sraw rd rs1 rs2) rd (fun s => let a := s.x1 rs1; let b := s.x2 rs1 rs2; sext32 ((lo32 a).sshiftRight (fld b 4 0))) s

/-- SH1ADD (R102). -/
def execSh1add (rd rs1 rs2 : XReg) (s : State) : Out :=
  aluOp (.sh1add rd rs1 rs2) rd (fun s => let a := s.x1 rs1; let b := s.x2 rs1 rs2; b + a <<< 1) s

/-- SH2ADD (R102). -/
def execSh2add (rd rs1 rs2 : XReg) (s : State) : Out :=
  aluOp (.sh2add rd rs1 rs2) rd (fun s => let a := s.x1 rs1; let b := s.x2 rs1 rs2; b + a <<< 2) s

/-- SH3ADD (R102). -/
def execSh3add (rd rs1 rs2 : XReg) (s : State) : Out :=
  aluOp (.sh3add rd rs1 rs2) rd (fun s => let a := s.x1 rs1; let b := s.x2 rs1 rs2; b + a <<< 3) s

/-- MIN (R102). -/
def execMin (rd rs1 rs2 : XReg) (s : State) : Out :=
  aluOp (.min rd rs1 rs2) rd (fun s => let a := s.x1 rs1; let b := s.x2 rs1 rs2; if a.slt b then a else b) s

/-- MAX (R102). -/
def execMax (rd rs1 rs2 : XReg) (s : State) : Out :=
  aluOp (.max rd rs1 rs2) rd (fun s => let a := s.x1 rs1; let b := s.x2 rs1 rs2; if a.slt b then b else a) s

/-- MINU (R102). -/
def execMinu (rd rs1 rs2 : XReg) (s : State) : Out :=
  aluOp (.minu rd rs1 rs2) rd (fun s => let a := s.x1 rs1; let b := s.x2 rs1 rs2; if a.ult b then a else b) s

/-- MAXU (R102). -/
def execMaxu (rd rs1 rs2 : XReg) (s : State) : Out :=
  aluOp (.maxu rd rs1 rs2) rd (fun s => let a := s.x1 rs1; let b := s.x2 rs1 rs2; if a.ult b then b else a) s

/-- ADDI (R102). -/
def execAddi (rd rs1 : XReg) (imm : BitVec 12) (s : State) : Out :=
  aluOp (.addi rd rs1 imm) rd (fun s => s.x1 rs1 + simm imm) s

/-- SLTI (R102). -/
def execSlti (rd rs1 : XReg) (imm : BitVec 12) (s : State) : Out :=
  aluOp (.slti rd rs1 imm) rd (fun s => flag ((s.x1 rs1).slt (simm imm))) s

/-- SLTIU (R102). -/
def execSltiu (rd rs1 : XReg) (imm : BitVec 12) (s : State) : Out :=
  aluOp (.sltiu rd rs1 imm) rd (fun s => flag ((s.x1 rs1).ult (simm imm))) s

/-- XORI (R102). -/
def execXori (rd rs1 : XReg) (imm : BitVec 12) (s : State) : Out :=
  aluOp (.xori rd rs1 imm) rd (fun s => s.x1 rs1 ^^^ simm imm) s

/-- ORI (R102). -/
def execOri (rd rs1 : XReg) (imm : BitVec 12) (s : State) : Out :=
  aluOp (.ori rd rs1 imm) rd (fun s => s.x1 rs1 ||| simm imm) s

/-- ANDI (R102). -/
def execAndi (rd rs1 : XReg) (imm : BitVec 12) (s : State) : Out :=
  aluOp (.andi rd rs1 imm) rd (fun s => s.x1 rs1 &&& simm imm) s

/-- ADDIW (R102). -/
def execAddiw (rd rs1 : XReg) (imm : BitVec 12) (s : State) : Out :=
  aluOp (.addiw rd rs1 imm) rd (fun s => sext32 (lo32 (s.x1 rs1) + lo32 (simm imm))) s

/-- SLLI (R102). -/
def execSlli (rd rs1 : XReg) (shamt : BitVec 6) (s : State) : Out :=
  aluOp (.slli rd rs1 shamt) rd (fun s => s.x1 rs1 <<< shamt.toNat) s

/-- SRLI (R102). -/
def execSrli (rd rs1 : XReg) (shamt : BitVec 6) (s : State) : Out :=
  aluOp (.srli rd rs1 shamt) rd (fun s => s.x1 rs1 >>> shamt.toNat) s

/-- SRAI (R102). -/
def execSrai (rd rs1 : XReg) (shamt : BitVec 6) (s : State) : Out :=
  aluOp (.srai rd rs1 shamt) rd (fun s => (s.x1 rs1).sshiftRight shamt.toNat) s

/-- SLLIW (R102). -/
def execSlliw (rd rs1 : XReg) (shamt : BitVec 5) (s : State) : Out :=
  aluOp (.slliw rd rs1 shamt) rd (fun s => sext32 (lo32 (s.x1 rs1) <<< shamt.toNat)) s

/-- SRLIW (R102). -/
def execSrliw (rd rs1 : XReg) (shamt : BitVec 5) (s : State) : Out :=
  aluOp (.srliw rd rs1 shamt) rd (fun s => sext32 (lo32 (s.x1 rs1) >>> shamt.toNat)) s

/-- SRAIW (R102). -/
def execSraiw (rd rs1 : XReg) (shamt : BitVec 5) (s : State) : Out :=
  aluOp (.sraiw rd rs1 shamt) rd (fun s => sext32 ((lo32 (s.x1 rs1)).sshiftRight shamt.toNat)) s

/-- CLZ (R102). -/
def execClz (rd rs1 : XReg) (s : State) : Out :=
  aluOp (.clz rd rs1) rd (fun s => BitVec.ofNat 64 (clz64 (s.x1 rs1))) s

/-- CTZ (R102). -/
def execCtz (rd rs1 : XReg) (s : State) : Out :=
  aluOp (.ctz rd rs1) rd (fun s => BitVec.ofNat 64 (ctz64 (s.x1 rs1))) s

/-- CPOP (R102). -/
def execCpop (rd rs1 : XReg) (s : State) : Out :=
  aluOp (.cpop rd rs1) rd (fun s => BitVec.ofNat 64 (popcount (s.x1 rs1))) s

/-- REV8 (R102). -/
def execRev8 (rd rs1 : XReg) (s : State) : Out :=
  aluOp (.rev8 rd rs1) rd (fun s => rev8 (s.x1 rs1)) s

/-- LUI (R102). -/
def execLui (rd : XReg) (imm : BitVec 20) (s : State) : Out :=
  aluOp (.lui rd imm) rd (fun _ => upper imm) s

/-- AUIPC (R102). -/
def execAuipc (rd : XReg) (imm : BitVec 20) (s : State) : Out :=
  aluOp (.auipc rd imm) rd (fun s => s.cur.th.pc + upper imm) s

/-! ### Multiplication (R103) -/

/-- MUL (R103). -/
def execMul (rd rs1 rs2 : XReg) (s : State) : Out :=
  aluOp (.mul rd rs1 rs2) rd (fun s => let a := s.x1 rs1; let b := s.x2 rs1 rs2; a * b) s

/-- MULH (R103). -/
def execMulh (rd rs1 rs2 : XReg) (s : State) : Out :=
  aluOp (.mulh rd rs1 rs2) rd (fun s => let a := s.x1 rs1; let b := s.x2 rs1 rs2; ((a.signExtend 128) * (b.signExtend 128)).extractLsb' 64 64) s

/-- MULHSU (R103). -/
def execMulhsu (rd rs1 rs2 : XReg) (s : State) : Out :=
  aluOp (.mulhsu rd rs1 rs2) rd (fun s => let a := s.x1 rs1; let b := s.x2 rs1 rs2; ((a.signExtend 128) * (b.zeroExtend 128)).extractLsb' 64 64) s

/-- MULHU (R103). -/
def execMulhu (rd rs1 rs2 : XReg) (s : State) : Out :=
  aluOp (.mulhu rd rs1 rs2) rd (fun s => let a := s.x1 rs1; let b := s.x2 rs1 rs2; ((a.zeroExtend 128) * (b.zeroExtend 128)).extractLsb' 64 64) s

/-- MULW (R103). -/
def execMulw (rd rs1 rs2 : XReg) (s : State) : Out :=
  aluOp (.mulw rd rs1 rs2) rd (fun s => let a := s.x1 rs1; let b := s.x2 rs1 rs2; sext32 (lo32 a * lo32 b)) s

/-! ### Division (R104) -/

/-- A cycle count of the issuing barrel; a mill core's is that of its tile of entry. -/
def State.now (s : State) : Nat := s.curT.cycles

/-- A late integer result, written at a tile cycle. -/
def State.lateDiv (s : State) (rd : XReg) (after : Nat) (v : Word) : State :=
  (s.claim (.x rd) (.divide (s.now + after) v) 0).retire

/-- DIV (R104). -/
def execDiv (rd rs1 rs2 : XReg) (s : State) : Out :=
  issue (.div rd rs1 rs2) s fun s =>
    let a := s.x1 rs1
    let b := s.x2 rs1 rs2
    s.lateDiv rd 40 (if b = 0 then -1 else if a = BitVec.intMin 64 && b = -1 then a else a.sdiv b)

/-- DIVU (R104). -/
def execDivu (rd rs1 rs2 : XReg) (s : State) : Out :=
  issue (.divu rd rs1 rs2) s fun s =>
    let a := s.x1 rs1
    let b := s.x2 rs1 rs2
    s.lateDiv rd 40 (if b = 0 then -1 else a / b)

/-- REM (R104). -/
def execRem (rd rs1 rs2 : XReg) (s : State) : Out :=
  issue (.rem rd rs1 rs2) s fun s =>
    let a := s.x1 rs1
    let b := s.x2 rs1 rs2
    s.lateDiv rd 40 (if b = 0 then a else if a = BitVec.intMin 64 && b = -1 then 0 else a.srem b)

/-- REMU (R104). -/
def execRemu (rd rs1 rs2 : XReg) (s : State) : Out :=
  issue (.remu rd rs1 rs2) s fun s =>
    let a := s.x1 rs1
    let b := s.x2 rs1 rs2
    s.lateDiv rd 40 (if b = 0 then a else a % b)

/-- DIVW (R104). -/
def execDivw (rd rs1 rs2 : XReg) (s : State) : Out :=
  issue (.divw rd rs1 rs2) s fun s =>
    let a := lo32 (s.x1 rs1)
    let b := lo32 (s.x2 rs1 rs2)
    s.lateDiv rd 24 (sext32 (if b = 0 then -1 else if a = BitVec.intMin 32 && b = -1 then a else a.sdiv b))

/-- DIVUW (R104). -/
def execDivuw (rd rs1 rs2 : XReg) (s : State) : Out :=
  issue (.divuw rd rs1 rs2) s fun s =>
    let a := lo32 (s.x1 rs1)
    let b := lo32 (s.x2 rs1 rs2)
    s.lateDiv rd 24 (sext32 (if b = 0 then -1 else a / b))

/-- REMW (R104). -/
def execRemw (rd rs1 rs2 : XReg) (s : State) : Out :=
  issue (.remw rd rs1 rs2) s fun s =>
    let a := lo32 (s.x1 rs1)
    let b := lo32 (s.x2 rs1 rs2)
    s.lateDiv rd 24 (sext32 (if b = 0 then a else if a = BitVec.intMin 32 && b = -1 then 0 else a.srem b))

/-- REMUW (R104). -/
def execRemuw (rd rs1 rs2 : XReg) (s : State) : Out :=
  issue (.remuw rd rs1 rs2) s fun s =>
    let a := lo32 (s.x1 rs1)
    let b := lo32 (s.x2 rs1 rs2)
    s.lateDiv rd 24 (sext32 (if b = 0 then a else a % b))

/-! ### Branches and jumps (R105) -/

/-- A branch or jump to a target: a target with bit 1 set is a misaligned instruction address and nothing else
happens. -/
def State.jump (s : State) (target : Word) (link : State → State) : State :=
  if bit target 1 then s.trap 0 target else (link s).modCur fun c => c.retireTo target

/-- A branch: its target when the condition holds, else the next instruction. -/
def branch (i : Instr) (off : BitVec 12) (taken : State → Bool) (s : State) : Out :=
  issue i s fun s =>
    if taken s then s.jump (s.cur.th.pc + (off ++ 0#1).signExtend 64) id else s.retire

/-- BEQ (R105). -/
def execBeq (rs1 rs2 : XReg) (off : BitVec 12) (s : State) : Out :=
  branch (.beq rs1 rs2 off) off (fun s => s.x1 rs1 == s.x2 rs1 rs2) s

/-- BNE (R105). -/
def execBne (rs1 rs2 : XReg) (off : BitVec 12) (s : State) : Out :=
  branch (.bne rs1 rs2 off) off (fun s => s.x1 rs1 != s.x2 rs1 rs2) s

/-- BLT (R105). -/
def execBlt (rs1 rs2 : XReg) (off : BitVec 12) (s : State) : Out :=
  branch (.blt rs1 rs2 off) off (fun s => (s.x1 rs1).slt (s.x2 rs1 rs2)) s

/-- BGE (R105). -/
def execBge (rs1 rs2 : XReg) (off : BitVec 12) (s : State) : Out :=
  branch (.bge rs1 rs2 off) off (fun s => !(s.x1 rs1).slt (s.x2 rs1 rs2)) s

/-- BLTU (R105). -/
def execBltu (rs1 rs2 : XReg) (off : BitVec 12) (s : State) : Out :=
  branch (.bltu rs1 rs2 off) off (fun s => (s.x1 rs1).ult (s.x2 rs1 rs2)) s

/-- BGEU (R105). -/
def execBgeu (rs1 rs2 : XReg) (off : BitVec 12) (s : State) : Out :=
  branch (.bgeu rs1 rs2 off) off (fun s => !(s.x1 rs1).ult (s.x2 rs1 rs2)) s

/-- JAL (R105). -/
def execJal (rd : XReg) (off : BitVec 20) (s : State) : Out :=
  issue (.jal rd off) s fun s =>
    let pc := s.cur.th.pc
    s.jump (pc + (off ++ 0#1).signExtend 64) fun s => s.setX rd (pc + 4)

/-- JALR (R105): rs1 is read before rd is written. -/
def execJalr (rd rs1 : XReg) (imm : BitVec 12) (s : State) : Out :=
  issue (.jalr rd rs1 imm) s fun s =>
    let pc := s.cur.th.pc
    s.jump ((s.x1 rs1 + simm imm) &&& ~~~1#64) fun s => s.setX rd (pc + 4)

end Sys2Proof.Machine
end

