-- ==== Sys2Proof/Machine/FloatInstr.lean ====
section
/-! DEFINITION. Scalar floating point (06_float.md R126 to R135): each operand is the register or the next element of
its bound stream, each result goes to the register or the stream (R138). -/
namespace Sys2Proof.Machine

/-- The mode of an rm field (02_numbers.md R42); issue has checked that it names one. -/
def State.rnd (s : State) (rm : BitVec 3) : Rnd := (Rnd.ofField rm s.cur.frm).getD .rne

/-- One operand in format a, a result in format d. -/
def fop1 (i : Instr) (a d : Nat) (fd fs1 : FReg) (f : State → Nat → Nat × Flags) (s : State) : Out :=
  issue i s fun s =>
    let (x, f1) := s.fArg [] a fs1
    let (v, fl) := f s x
    (s.setFv d fd v (f1 ||| fl)).retire

/-- Two operands and a result in one format. -/
def fop2 (i : Instr) (a : Nat) (fd fs1 fs2 : FReg) (f : State → Nat → Nat → Nat × Flags) (s : State) : Out :=
  issue i s fun s =>
    let (x, f1) := s.fArg [] a fs1
    let (y, f2) := s.fArg [fs1] a fs2
    let (v, fl) := f s x y
    (s.setFv a fd v (f1 ||| f2 ||| fl)).retire

/-- Three operands and a result in one format. -/
def fop3 (i : Instr) (a : Nat) (fd fs1 fs2 fs3 : FReg) (f : State → Nat → Nat → Nat → Nat × Flags) (s : State) : Out :=
  issue i s fun s =>
    let (x, f1) := s.fArg [] a fs1
    let (y, f2) := s.fArg [fs1] a fs2
    let (z, f3) := s.fArg [fs1, fs2] a fs3
    let (v, fl) := f s x y z
    (s.setFv a fd v (f1 ||| f2 ||| f3 ||| fl)).retire

/-- Two operands and an integer result (R131). -/
def fcmp (i : Instr) (a : Nat) (rd : XReg) (fs1 fs2 : FReg) (f : Nat → Nat → Bool × Flags) (s : State) : Out :=
  issue i s fun s =>
    let (x, f1) := s.fArg [] a fs1
    let (y, f2) := s.fArg [fs1] a fs2
    let (v, fl) := f x y
    ((s.setX rd (flag v)).modCur fun c => c.orFlags (f1 ||| f2 ||| fl)).retire

/-- One operand and an integer result (R131, R133). -/
def ftox (i : Instr) (a : Nat) (rd : XReg) (fs1 : FReg) (f : State → Nat → Word × Flags) (s : State) : Out :=
  issue i s fun s =>
    let (x, f1) := s.fArg [] a fs1
    let (v, fl) := f s x
    ((s.setX rd v).modCur fun c => c.orFlags (f1 ||| fl)).retire

/-- An integer operand and a floating result (R134). -/
def xtof (i : Instr) (d : Nat) (fd : FReg) (rs1 : XReg) (f : State → Word → Nat × Flags) (s : State) : Out :=
  issue i s fun s =>
    let (v, fl) := f s (s.x1 rs1)
    (s.setFv d fd v fl).retire

/-- The late operations (R129): fd claimed, the result written at a tile cycle with its flags and those of the operands' pops
(R138). -/
def State.lateFloat (s : State) (code : Nat) (fd : FReg) (after : Nat) (v : Nat) (fl popped : Flags) : State :=
  (s.claim (.f fd) (.float (s.now + after) code (BitVec.ofNat 64 v) (fl ||| popped)) 0).retire

/-- The sign bit of a code. -/
def signOf (F : Fmt) (v : Nat) : Bool := F.signBit ≤ v % 2 ^ F.width

/-- A code with a sign (R130). -/
def putSign (F : Fmt) (v : Nat) (b : Bool) : Nat := F.withSign b (v % F.signBit)

/-- faddS (R128). -/
def execFaddS (fd fs1 fs2 : FReg) (rm : BitVec 3) (s : State) : Out :=
  fop2 (.faddS fd fs1 fs2 rm) 2 fd fs1 fs2 (fun s => fp32.add (s.rnd rm)) s

/-- fsubS (R128). -/
def execFsubS (fd fs1 fs2 : FReg) (rm : BitVec 3) (s : State) : Out :=
  fop2 (.fsubS fd fs1 fs2 rm) 2 fd fs1 fs2 (fun s => fp32.sub (s.rnd rm)) s

/-- fmulS (R128). -/
def execFmulS (fd fs1 fs2 : FReg) (rm : BitVec 3) (s : State) : Out :=
  fop2 (.fmulS fd fs1 fs2 rm) 2 fd fs1 fs2 (fun s => fp32.mul (s.rnd rm)) s

/-- fdivS (R128, R129). -/
def execFdivS (fd fs1 fs2 : FReg) (rm : BitVec 3) (s : State) : Out :=
  issue (.fdivS fd fs1 fs2 rm) s fun s =>
    let (x, f1) := s.fArg [] 2 fs1
    let (y, f2) := s.fArg [fs1] 2 fs2
    let (v, fl) := fp32.div (s.rnd rm) x y
    s.lateFloat 2 fd 40 v fl (f1 ||| f2)

/-- fsqrtS (R128, R129). -/
def execFsqrtS (fd fs1 : FReg) (rm : BitVec 3) (s : State) : Out :=
  issue (.fsqrtS fd fs1 rm) s fun s =>
    let (x, f1) := s.fArg [] 2 fs1
    let (v, fl) := fp32.sqrt (s.rnd rm) x
    s.lateFloat 2 fd 40 v fl f1

/-- fmaddS (R128). -/
def execFmaddS (fd fs1 fs2 fs3 : FReg) (rm : BitVec 3) (s : State) : Out :=
  fop3 (.fmaddS fd fs1 fs2 fs3 rm) 2 fd fs1 fs2 fs3 (fun s => fp32.fma (s.rnd rm) false false) s

/-- fmsubS (R128). -/
def execFmsubS (fd fs1 fs2 fs3 : FReg) (rm : BitVec 3) (s : State) : Out :=
  fop3 (.fmsubS fd fs1 fs2 fs3 rm) 2 fd fs1 fs2 fs3 (fun s => fp32.fma (s.rnd rm) false true) s

/-- fnmsubS (R128). -/
def execFnmsubS (fd fs1 fs2 fs3 : FReg) (rm : BitVec 3) (s : State) : Out :=
  fop3 (.fnmsubS fd fs1 fs2 fs3 rm) 2 fd fs1 fs2 fs3 (fun s => fp32.fma (s.rnd rm) true false) s

/-- fnmaddS (R128). -/
def execFnmaddS (fd fs1 fs2 fs3 : FReg) (rm : BitVec 3) (s : State) : Out :=
  fop3 (.fnmaddS fd fs1 fs2 fs3 rm) 2 fd fs1 fs2 fs3 (fun s => fp32.fma (s.rnd rm) true true) s

/-- fsgnjS (R130). -/
def execFsgnjS (fd fs1 fs2 : FReg) (s : State) : Out :=
  fop2 (.fsgnjS fd fs1 fs2) 2 fd fs1 fs2 (fun _ x y => (putSign fp32 x (signOf fp32 y), 0#5)) s

/-- fsgnjnS (R130). -/
def execFsgnjnS (fd fs1 fs2 : FReg) (s : State) : Out :=
  fop2 (.fsgnjnS fd fs1 fs2) 2 fd fs1 fs2 (fun _ x y => (putSign fp32 x (!signOf fp32 y), 0#5)) s

/-- fsgnjxS (R130). -/
def execFsgnjxS (fd fs1 fs2 : FReg) (s : State) : Out :=
  fop2 (.fsgnjxS fd fs1 fs2) 2 fd fs1 fs2 (fun _ x y => (putSign fp32 x (signOf fp32 x != signOf fp32 y), 0#5)) s

/-- fminS (R130). -/
def execFminS (fd fs1 fs2 : FReg) (s : State) : Out :=
  fop2 (.fminS fd fs1 fs2) 2 fd fs1 fs2 (fun _ => fp32.minMax false) s

/-- fmaxS (R130). -/
def execFmaxS (fd fs1 fs2 : FReg) (s : State) : Out :=
  fop2 (.fmaxS fd fs1 fs2) 2 fd fs1 fs2 (fun _ => fp32.minMax true) s

/-- feqS (R131). -/
def execFeqS (rd : XReg) (fs1 fs2 : FReg) (s : State) : Out :=
  fcmp (.feqS rd fs1 fs2) 2 rd fs1 fs2 fp32.feq s

/-- fltS (R131). -/
def execFltS (rd : XReg) (fs1 fs2 : FReg) (s : State) : Out :=
  fcmp (.fltS rd fs1 fs2) 2 rd fs1 fs2 fp32.flt s

/-- fleS (R131). -/
def execFleS (rd : XReg) (fs1 fs2 : FReg) (s : State) : Out :=
  fcmp (.fleS rd fs1 fs2) 2 rd fs1 fs2 fp32.fle s

/-- fclassS (R131). -/
def execFclassS (rd : XReg) (fs1 : FReg) (s : State) : Out :=
  ftox (.fclassS rd fs1) 2 rd fs1 (fun _ x => (BitVec.ofNat 64 (2 ^ fp32.classBit x), 0#5)) s

/-- faddD (R128). -/
def execFaddD (fd fs1 fs2 : FReg) (rm : BitVec 3) (s : State) : Out :=
  fop2 (.faddD fd fs1 fs2 rm) 1 fd fs1 fs2 (fun s => fp64.add (s.rnd rm)) s

/-- fsubD (R128). -/
def execFsubD (fd fs1 fs2 : FReg) (rm : BitVec 3) (s : State) : Out :=
  fop2 (.fsubD fd fs1 fs2 rm) 1 fd fs1 fs2 (fun s => fp64.sub (s.rnd rm)) s

/-- fmulD (R128). -/
def execFmulD (fd fs1 fs2 : FReg) (rm : BitVec 3) (s : State) : Out :=
  fop2 (.fmulD fd fs1 fs2 rm) 1 fd fs1 fs2 (fun s => fp64.mul (s.rnd rm)) s

/-- fdivD (R128, R129). -/
def execFdivD (fd fs1 fs2 : FReg) (rm : BitVec 3) (s : State) : Out :=
  issue (.fdivD fd fs1 fs2 rm) s fun s =>
    let (x, f1) := s.fArg [] 1 fs1
    let (y, f2) := s.fArg [fs1] 1 fs2
    let (v, fl) := fp64.div (s.rnd rm) x y
    s.lateFloat 1 fd 72 v fl (f1 ||| f2)

/-- fsqrtD (R128, R129). -/
def execFsqrtD (fd fs1 : FReg) (rm : BitVec 3) (s : State) : Out :=
  issue (.fsqrtD fd fs1 rm) s fun s =>
    let (x, f1) := s.fArg [] 1 fs1
    let (v, fl) := fp64.sqrt (s.rnd rm) x
    s.lateFloat 1 fd 72 v fl f1

/-- fmaddD (R128). -/
def execFmaddD (fd fs1 fs2 fs3 : FReg) (rm : BitVec 3) (s : State) : Out :=
  fop3 (.fmaddD fd fs1 fs2 fs3 rm) 1 fd fs1 fs2 fs3 (fun s => fp64.fma (s.rnd rm) false false) s

/-- fmsubD (R128). -/
def execFmsubD (fd fs1 fs2 fs3 : FReg) (rm : BitVec 3) (s : State) : Out :=
  fop3 (.fmsubD fd fs1 fs2 fs3 rm) 1 fd fs1 fs2 fs3 (fun s => fp64.fma (s.rnd rm) false true) s

/-- fnmsubD (R128). -/
def execFnmsubD (fd fs1 fs2 fs3 : FReg) (rm : BitVec 3) (s : State) : Out :=
  fop3 (.fnmsubD fd fs1 fs2 fs3 rm) 1 fd fs1 fs2 fs3 (fun s => fp64.fma (s.rnd rm) true false) s

/-- fnmaddD (R128). -/
def execFnmaddD (fd fs1 fs2 fs3 : FReg) (rm : BitVec 3) (s : State) : Out :=
  fop3 (.fnmaddD fd fs1 fs2 fs3 rm) 1 fd fs1 fs2 fs3 (fun s => fp64.fma (s.rnd rm) true true) s

/-- fsgnjD (R130). -/
def execFsgnjD (fd fs1 fs2 : FReg) (s : State) : Out :=
  fop2 (.fsgnjD fd fs1 fs2) 1 fd fs1 fs2 (fun _ x y => (putSign fp64 x (signOf fp64 y), 0#5)) s

/-- fsgnjnD (R130). -/
def execFsgnjnD (fd fs1 fs2 : FReg) (s : State) : Out :=
  fop2 (.fsgnjnD fd fs1 fs2) 1 fd fs1 fs2 (fun _ x y => (putSign fp64 x (!signOf fp64 y), 0#5)) s

/-- fsgnjxD (R130). -/
def execFsgnjxD (fd fs1 fs2 : FReg) (s : State) : Out :=
  fop2 (.fsgnjxD fd fs1 fs2) 1 fd fs1 fs2 (fun _ x y => (putSign fp64 x (signOf fp64 x != signOf fp64 y), 0#5)) s

/-- fminD (R130). -/
def execFminD (fd fs1 fs2 : FReg) (s : State) : Out :=
  fop2 (.fminD fd fs1 fs2) 1 fd fs1 fs2 (fun _ => fp64.minMax false) s

/-- fmaxD (R130). -/
def execFmaxD (fd fs1 fs2 : FReg) (s : State) : Out :=
  fop2 (.fmaxD fd fs1 fs2) 1 fd fs1 fs2 (fun _ => fp64.minMax true) s

/-- feqD (R131). -/
def execFeqD (rd : XReg) (fs1 fs2 : FReg) (s : State) : Out :=
  fcmp (.feqD rd fs1 fs2) 1 rd fs1 fs2 fp64.feq s

/-- fltD (R131). -/
def execFltD (rd : XReg) (fs1 fs2 : FReg) (s : State) : Out :=
  fcmp (.fltD rd fs1 fs2) 1 rd fs1 fs2 fp64.flt s

/-- fleD (R131). -/
def execFleD (rd : XReg) (fs1 fs2 : FReg) (s : State) : Out :=
  fcmp (.fleD rd fs1 fs2) 1 rd fs1 fs2 fp64.fle s

/-- fclassD (R131). -/
def execFclassD (rd : XReg) (fs1 : FReg) (s : State) : Out :=
  ftox (.fclassD rd fs1) 1 rd fs1 (fun _ x => (BitVec.ofNat 64 (2 ^ fp64.classBit x), 0#5)) s

/-- fcvtSD (R132). -/
def execFcvtSD (fd fs1 : FReg) (rm : BitVec 3) (s : State) : Out :=
  fop1 (.fcvtSD fd fs1 rm) 1 2 fd fs1 (fun s => fp64.convert fp32 (s.rnd rm) false) s

/-- fcvtDS (R132). -/
def execFcvtDS (fd fs1 : FReg) (rm : BitVec 3) (s : State) : Out :=
  fop1 (.fcvtDS fd fs1 rm) 2 1 fd fs1 (fun s => fp32.convert fp64 (s.rnd rm) false) s

/-- fcvtSH (R132). -/
def execFcvtSH (fd fs1 : FReg) (rm : BitVec 3) (s : State) : Out :=
  fop1 (.fcvtSH fd fs1 rm) 3 2 fd fs1 (fun s => fp16.convert fp32 (s.rnd rm) false) s

/-- fcvtHS (R132). -/
def execFcvtHS (fd fs1 : FReg) (rm : BitVec 3) (sat : Bool) (s : State) : Out :=
  fop1 (.fcvtHS fd fs1 rm sat) 2 3 fd fs1 (fun s => fp32.convert fp16 (s.rnd rm) sat) s

/-- fcvtSBf (R132). -/
def execFcvtSBf (fd fs1 : FReg) (rm : BitVec 3) (s : State) : Out :=
  fop1 (.fcvtSBf fd fs1 rm) 4 2 fd fs1 (fun s => bf16.convert fp32 (s.rnd rm) false) s

/-- fcvtBfS (R132). -/
def execFcvtBfS (fd fs1 : FReg) (rm : BitVec 3) (sat : Bool) (s : State) : Out :=
  fop1 (.fcvtBfS fd fs1 rm sat) 2 4 fd fs1 (fun s => fp32.convert bf16 (s.rnd rm) sat) s

/-- fcvtSE4 (R132). -/
def execFcvtSE4 (fd fs1 : FReg) (rm : BitVec 3) (s : State) : Out :=
  fop1 (.fcvtSE4 fd fs1 rm) 5 2 fd fs1 (fun s => e4m3.convert fp32 (s.rnd rm) false) s

/-- fcvtE4S (R132). -/
def execFcvtE4S (fd fs1 : FReg) (rm : BitVec 3) (sat : Bool) (s : State) : Out :=
  fop1 (.fcvtE4S fd fs1 rm sat) 2 5 fd fs1 (fun s => fp32.convert e4m3 (s.rnd rm) sat) s

/-- fcvtSE5 (R132). -/
def execFcvtSE5 (fd fs1 : FReg) (rm : BitVec 3) (s : State) : Out :=
  fop1 (.fcvtSE5 fd fs1 rm) 6 2 fd fs1 (fun s => e5m2.convert fp32 (s.rnd rm) false) s

/-- fcvtE5S (R132). -/
def execFcvtE5S (fd fs1 : FReg) (rm : BitVec 3) (sat : Bool) (s : State) : Out :=
  fop1 (.fcvtE5S fd fs1 rm sat) 2 6 fd fs1 (fun s => fp32.convert e5m2 (s.rnd rm) sat) s

/-- fcvtDH (R132). -/
def execFcvtDH (fd fs1 : FReg) (rm : BitVec 3) (s : State) : Out :=
  fop1 (.fcvtDH fd fs1 rm) 3 1 fd fs1 (fun s => fp16.convert fp64 (s.rnd rm) false) s

/-- fcvtHD (R132). -/
def execFcvtHD (fd fs1 : FReg) (rm : BitVec 3) (sat : Bool) (s : State) : Out :=
  fop1 (.fcvtHD fd fs1 rm sat) 1 3 fd fs1 (fun s => fp64.convert fp16 (s.rnd rm) sat) s

/-- fcvtDBf (R132). -/
def execFcvtDBf (fd fs1 : FReg) (rm : BitVec 3) (s : State) : Out :=
  fop1 (.fcvtDBf fd fs1 rm) 4 1 fd fs1 (fun s => bf16.convert fp64 (s.rnd rm) false) s

/-- fcvtBfD (R132). -/
def execFcvtBfD (fd fs1 : FReg) (rm : BitVec 3) (sat : Bool) (s : State) : Out :=
  fop1 (.fcvtBfD fd fs1 rm sat) 1 4 fd fs1 (fun s => fp64.convert bf16 (s.rnd rm) sat) s

/-- fcvtDE4 (R132). -/
def execFcvtDE4 (fd fs1 : FReg) (rm : BitVec 3) (s : State) : Out :=
  fop1 (.fcvtDE4 fd fs1 rm) 5 1 fd fs1 (fun s => e4m3.convert fp64 (s.rnd rm) false) s

/-- fcvtE4D (R132). -/
def execFcvtE4D (fd fs1 : FReg) (rm : BitVec 3) (sat : Bool) (s : State) : Out :=
  fop1 (.fcvtE4D fd fs1 rm sat) 1 5 fd fs1 (fun s => fp64.convert e4m3 (s.rnd rm) sat) s

/-- fcvtDE5 (R132). -/
def execFcvtDE5 (fd fs1 : FReg) (rm : BitVec 3) (s : State) : Out :=
  fop1 (.fcvtDE5 fd fs1 rm) 6 1 fd fs1 (fun s => e5m2.convert fp64 (s.rnd rm) false) s

/-- fcvtE5D (R132). -/
def execFcvtE5D (fd fs1 : FReg) (rm : BitVec 3) (sat : Bool) (s : State) : Out :=
  fop1 (.fcvtE5D fd fs1 rm sat) 1 6 fd fs1 (fun s => fp64.convert e5m2 (s.rnd rm) sat) s

/-- fcvtWS (R133). -/
def execFcvtWS (rd : XReg) (fs1 : FReg) (rm : BitVec 3) (sat : Bool) (s : State) : Out :=
  ftox (.fcvtWS rd fs1 rm sat) 2 rd fs1 (fun s x =>
    let (v, fl) := (fp32.value x).toInt (s.rnd rm) sat true 32
    (sext32 (BitVec.ofNat 32 v), fl)) s

/-- fcvtWuS (R133). -/
def execFcvtWuS (rd : XReg) (fs1 : FReg) (rm : BitVec 3) (sat : Bool) (s : State) : Out :=
  ftox (.fcvtWuS rd fs1 rm sat) 2 rd fs1 (fun s x =>
    let (v, fl) := (fp32.value x).toInt (s.rnd rm) sat false 32
    (sext32 (BitVec.ofNat 32 v), fl)) s

/-- fcvtLS (R133). -/
def execFcvtLS (rd : XReg) (fs1 : FReg) (rm : BitVec 3) (sat : Bool) (s : State) : Out :=
  ftox (.fcvtLS rd fs1 rm sat) 2 rd fs1 (fun s x =>
    let (v, fl) := (fp32.value x).toInt (s.rnd rm) sat true 64
    (BitVec.ofNat 64 v, fl)) s

/-- fcvtLuS (R133). -/
def execFcvtLuS (rd : XReg) (fs1 : FReg) (rm : BitVec 3) (sat : Bool) (s : State) : Out :=
  ftox (.fcvtLuS rd fs1 rm sat) 2 rd fs1 (fun s x =>
    let (v, fl) := (fp32.value x).toInt (s.rnd rm) sat false 64
    (BitVec.ofNat 64 v, fl)) s

/-- fcvtSW (R134). -/
def execFcvtSW (fd : FReg) (rs1 : XReg) (rm : BitVec 3) (s : State) : Out :=
  xtof (.fcvtSW fd rs1 rm) 2 fd rs1 (fun s v => fp32.ofInt (s.rnd rm) false (lo32 v).toInt) s

/-- fcvtSWu (R134). -/
def execFcvtSWu (fd : FReg) (rs1 : XReg) (rm : BitVec 3) (s : State) : Out :=
  xtof (.fcvtSWu fd rs1 rm) 2 fd rs1 (fun s v => fp32.ofInt (s.rnd rm) false (lo32 v).toNat) s

/-- fcvtSL (R134). -/
def execFcvtSL (fd : FReg) (rs1 : XReg) (rm : BitVec 3) (s : State) : Out :=
  xtof (.fcvtSL fd rs1 rm) 2 fd rs1 (fun s v => fp32.ofInt (s.rnd rm) false v.toInt) s

/-- fcvtSLu (R134). -/
def execFcvtSLu (fd : FReg) (rs1 : XReg) (rm : BitVec 3) (s : State) : Out :=
  xtof (.fcvtSLu fd rs1 rm) 2 fd rs1 (fun s v => fp32.ofInt (s.rnd rm) false v.toNat) s

/-- fcvtWD (R133). -/
def execFcvtWD (rd : XReg) (fs1 : FReg) (rm : BitVec 3) (sat : Bool) (s : State) : Out :=
  ftox (.fcvtWD rd fs1 rm sat) 1 rd fs1 (fun s x =>
    let (v, fl) := (fp64.value x).toInt (s.rnd rm) sat true 32
    (sext32 (BitVec.ofNat 32 v), fl)) s

/-- fcvtWuD (R133). -/
def execFcvtWuD (rd : XReg) (fs1 : FReg) (rm : BitVec 3) (sat : Bool) (s : State) : Out :=
  ftox (.fcvtWuD rd fs1 rm sat) 1 rd fs1 (fun s x =>
    let (v, fl) := (fp64.value x).toInt (s.rnd rm) sat false 32
    (sext32 (BitVec.ofNat 32 v), fl)) s

/-- fcvtLD (R133). -/
def execFcvtLD (rd : XReg) (fs1 : FReg) (rm : BitVec 3) (sat : Bool) (s : State) : Out :=
  ftox (.fcvtLD rd fs1 rm sat) 1 rd fs1 (fun s x =>
    let (v, fl) := (fp64.value x).toInt (s.rnd rm) sat true 64
    (BitVec.ofNat 64 v, fl)) s

/-- fcvtLuD (R133). -/
def execFcvtLuD (rd : XReg) (fs1 : FReg) (rm : BitVec 3) (sat : Bool) (s : State) : Out :=
  ftox (.fcvtLuD rd fs1 rm sat) 1 rd fs1 (fun s x =>
    let (v, fl) := (fp64.value x).toInt (s.rnd rm) sat false 64
    (BitVec.ofNat 64 v, fl)) s

/-- fcvtDW (R134). -/
def execFcvtDW (fd : FReg) (rs1 : XReg) (rm : BitVec 3) (s : State) : Out :=
  xtof (.fcvtDW fd rs1 rm) 1 fd rs1 (fun s v => fp64.ofInt (s.rnd rm) false (lo32 v).toInt) s

/-- fcvtDWu (R134). -/
def execFcvtDWu (fd : FReg) (rs1 : XReg) (rm : BitVec 3) (s : State) : Out :=
  xtof (.fcvtDWu fd rs1 rm) 1 fd rs1 (fun s v => fp64.ofInt (s.rnd rm) false (lo32 v).toNat) s

/-- fcvtDL (R134). -/
def execFcvtDL (fd : FReg) (rs1 : XReg) (rm : BitVec 3) (s : State) : Out :=
  xtof (.fcvtDL fd rs1 rm) 1 fd rs1 (fun s v => fp64.ofInt (s.rnd rm) false v.toInt) s

/-- fcvtDLu (R134). -/
def execFcvtDLu (fd : FReg) (rs1 : XReg) (rm : BitVec 3) (s : State) : Out :=
  xtof (.fcvtDLu fd rs1 rm) 1 fd rs1 (fun s v => fp64.ofInt (s.rnd rm) false v.toNat) s

/-- FMV.X.W (R130): no boxing check. -/
def execFmvXW (rd : XReg) (fs1 : FReg) (s : State) : Out :=
  issue (.fmvXW rd fs1) s fun s =>
    let (v, fl) := s.fBits 2 fs1
    ((s.setX rd (sext32 (BitVec.ofNat 32 v))).modCur fun c => c.orFlags fl).retire

/-- FMV.X.D (R130). -/
def execFmvXD (rd : XReg) (fs1 : FReg) (s : State) : Out :=
  issue (.fmvXD rd fs1) s fun s =>
    let (v, fl) := s.fBits 1 fs1
    ((s.setX rd (BitVec.ofNat 64 v)).modCur fun c => c.orFlags fl).retire

/-- FMV.W.X (R130). -/
def execFmvWX (fd : FReg) (rs1 : XReg) (s : State) : Out :=
  xtof (.fmvWX fd rs1) 2 fd rs1 (fun _ v => ((lo32 v).toNat, 0#5)) s

/-- FMV.D.X (R130). -/
def execFmvDX (fd : FReg) (rs1 : XReg) (s : State) : Out :=
  xtof (.fmvDX fd rs1) 1 fd rs1 (fun _ v => (v.toNat, 0#5)) s

/-- frecipS (R135, 02_numbers.md R51). -/
def execFrecipS (fd fs1 : FReg) (rm : BitVec 3) (s : State) : Out :=
  fop1 (.frecipS fd fs1 rm) 2 2 fd fs1 (fun _ => fp32.recip) s

/-- frecipD (R135, 02_numbers.md R51). -/
def execFrecipD (fd fs1 : FReg) (rm : BitVec 3) (s : State) : Out :=
  fop1 (.frecipD fd fs1 rm) 1 1 fd fs1 (fun _ => fp64.recip) s

/-- frecipH (R135, 02_numbers.md R51). -/
def execFrecipH (fd fs1 : FReg) (rm : BitVec 3) (s : State) : Out :=
  fop1 (.frecipH fd fs1 rm) 3 3 fd fs1 (fun _ => fp16.recip) s

/-- frecipBf (R135, 02_numbers.md R51). -/
def execFrecipBf (fd fs1 : FReg) (rm : BitVec 3) (s : State) : Out :=
  fop1 (.frecipBf fd fs1 rm) 4 4 fd fs1 (fun _ => bf16.recip) s

/-- frsqrtS (R135, 02_numbers.md R51). -/
def execFrsqrtS (fd fs1 : FReg) (rm : BitVec 3) (s : State) : Out :=
  fop1 (.frsqrtS fd fs1 rm) 2 2 fd fs1 (fun _ => fp32.rsqrt) s

/-- frsqrtD (R135, 02_numbers.md R51). -/
def execFrsqrtD (fd fs1 : FReg) (rm : BitVec 3) (s : State) : Out :=
  fop1 (.frsqrtD fd fs1 rm) 1 1 fd fs1 (fun _ => fp64.rsqrt) s

/-- frsqrtH (R135, 02_numbers.md R51). -/
def execFrsqrtH (fd fs1 : FReg) (rm : BitVec 3) (s : State) : Out :=
  fop1 (.frsqrtH fd fs1 rm) 3 3 fd fs1 (fun _ => fp16.rsqrt) s

/-- frsqrtBf (R135, 02_numbers.md R51). -/
def execFrsqrtBf (fd fs1 : FReg) (rm : BitVec 3) (s : State) : Out :=
  fop1 (.frsqrtBf fd fs1 rm) 4 4 fd fs1 (fun _ => bf16.rsqrt) s

end Sys2Proof.Machine
end

