-- ==== Sys2Proof/Machine/Csr.lean ====
section
/-! DEFINITION. Control and status registers and the instructions that read and write them (05_scalar.md R117 to R120,
03_encoding.md R62, R63, R68; 04_context.md R90, R92; 06_float.md R137; 17_page.md R316; 18_fault.md R328). -/
namespace Sys2Proof.Machine

/-! ### Layouts -/

def bn (b : Bool) (n : Nat) : Nat := if b then n else 0

/-- The status word of a context (R90). -/
def Thread.status (h : Thread) : Word :=
  BitVec.ofNat 64 (bn h.furrow (2 ^ 41) + bn (h.pinned || h.furrow) (2 ^ 40) + h.pth * 2 ^ 37 + h.bounce * 2 ^ 34 +
    h.pcount * 2 ^ 25 + h.run * 2 ^ 20 + h.refuse * 2 ^ 16 + h.fcsr.toNat)

/-- A status word stored: the writable fields, clamped (R90); a furrow-bound context keeps pinned as it stands. -/
def Thread.putStatus (h : Thread) (w : Word) : Thread :=
  { h with pinned := bit w 40, pth := max 2 (fld w 39 37), bounce := fld w 36 34, pcount := min 256 (fld w 33 25),
           run := min 16 (fld w 24 20), refuse := min 8 (fld w 19 16), fcsr := w.extractLsb' 0 8 }

/-- festate (R63): a bound register and x15 of a furrow-bound context read full (R204, R225). -/
def Ctx.festate (c : Ctx) (full : Bool) : Word :=
  let xs := (List.range 32).filter fun i =>
    (full || decide (i < 16)) && (i == 0 || !c.xEmpty (BitVec.ofNat 5 i) || (c.th.furrow && i == 15))
  let fs := (List.range 8).filter fun i => !c.fEmpty (BitVec.ofNat 3 i) || c.bound (BitVec.ofNat 3 i)
  BitVec.ofNat 64 ((xs.map fun i => 2 ^ i).sum + (fs.map fun i => 2 ^ (32 + i)).sum)

/-- The writable bits of fepol (R62). -/
def fepolMask (full : Bool) : Word := if full then 0xFFFFFFFFFE#64 else 0xFF0000FFFE#64

/-- mstatus as it reads (R120): SD, SXL, UXL and FS are fixed. -/
def readMstatus (p : Priv) : Word := p.mstatus ||| 0x8000000A00006000#64
/-- Its writable bits: TSR, TW, TVM, MXR, SUM, MPRV, MPP, SPP, MPIE, SPIE, MIE, SIE. -/
def mstatusMask : Word := 0x7E19AA#64
/-- The bits of the view sstatus, and those it writes. -/
def sstatusMask : Word := 0x80000003000DE122#64
def sstatusWrite : Word := 0xC0122#64

/-- A write of mstatus (R120): MPP 10 stores 00. -/
def Priv.putMstatus (p : Priv) (w mask : Word) : Priv :=
  let v := (p.mstatus &&& ~~~mask) ||| (w &&& mask)
  { p with mstatus := if fld v 12 11 = 2 then setBits v 11 2 0 else v }

/-- The interrupt codes of R328, and those mideleg may delegate (log 34, DEDUCED). -/
def irqMask : Word := 0x3F000A#64
def delegMask : Word := 0x1F0002#64
/-- The read-write pending bits: codes 1, 3, 18, 19, 20. -/
def mipMask : Word := 0x1C000A#64

/-- A vector register's write: modes 10 and 11 store 00 (R120). -/
def vecOf (w : Word) : Word := if bit w 1 then w &&& ~~~3#64 else w

/-- mip as it reads (R328): the condition bits 16, 17 and 21 beside the stored ones. -/
def State.mip (s : State) (a : Agent) : Word :=
  let stored := (s.priv a).mip
  match a with
  | .mill _ => stored
  | .tile t =>
    let T := s.tile t
    let trapped := (List.range 16).any fun c => c != 0 && (T.slot c).st == .trapped
    let refused := T.refusals.toList.any fun e => e.valid && !e.ackpend
    let watchdog := T.journal.any fun e => e.checked
    stored ||| BitVec.ofNat 64 (bn trapped (2 ^ 16) + bn refused (2 ^ 17) + bn watchdog (2 ^ 21))

/-! ### The writes that are operations of the table as well -/

/-- MIP_WRITE (R328): the read-write bits of a selection take their new values. -/
def State.writeMip (s : State) (a : Agent) (mask w : Word) : State :=
  s.modPriv a fun p => { p with mip := (p.mip &&& ~~~(mask &&& mipMask)) ||| (w &&& mask &&& mipMask) }

/-- satp with its reserved bits 43:28 zero (R316). -/
def satpOf (w : Word) : Word := w &&& 0xFFFFFFFF0FFFFFFF#64

/-- SATP_WRITE (R316): any mode but 0 and 9 leaves satp unchanged. -/
def State.writeSatp (s : State) (a : Agent) (w : Word) : State :=
  if fld w 63 60 = 0 || fld w 63 60 = 9 then s.modPriv a fun p => { p with satp := satpOf w } else s

/-- ARRCFG_WRITE (R92). -/
def State.writeArrcfg (s : State) (t : Nat) (w : Word) : State :=
  s.modTile t fun T => { T with pth0 := max 2 (fld w 10 8), adepth := min 32 (max 2 (fld w 5 0)) }

/-- arrcfg as it reads (R92). -/
def Tile.arrcfg (T : Tile) : Word :=
  BitVec.ofNat 64 (T.arrivals.length * 2 ^ 16 + T.pth0 * 2 ^ 8 + T.adepth)

/-- Whether an access to fflags, frm or fcsr must wait (R137); not for the flags that a late FLW or FLD into a bound stream raises
(log 108, DEDUCED). -/
def Ctx.fcsrBusy (c : Ctx) : Bool :=
  !c.vcmds.isEmpty || c.pend.any fun p => match p.kind with
    | .float _ _ _ _ => true
    | _ => false

/-- FCSR_ACCESS (R137): fcsr's selected bits take their new values. -/
def Ctx.putFcsr (c : Ctx) (mask v : BitVec 8) : Ctx :=
  { c with th := { c.th with fcsr := (c.th.fcsr &&& ~~~mask) ||| (v &&& mask) } }

/-! ### Access -/

/-- The user CSRs (R118). -/
def userCsr (n : Nat) : Bool :=
  [0x001, 0x002, 0x003, 0x800, 0x840, 0xC00, 0xC01, 0xCC0, 0xCC1, 0xCC2, 0xCC3, 0xCC4, 0xCC5, 0xCC6, 0xCC7,
   0xCD0].contains n || (0xC80 ≤ n && n ≤ 0xCBF)

/-- The CSRs of slot 0 (R120). -/
def privCsr (n : Nat) : Bool :=
  [0x100, 0x104, 0x144, 0x105, 0x305, 0x140, 0x340, 0x141, 0x341, 0x142, 0x342, 0x143, 0x343, 0x180, 0x300, 0x301,
   0x302, 0x303, 0x304, 0x344, 0x5C0, 0xF14].contains n

/-- Whether the issuing slot may access a CSR, writing it or not (R68, R120, R125); arrcfg is slot 0's of a tile
(04_context.md R92). -/
def State.csrLegal (s : State) (n : Nat) (write : Bool) : Bool :=
  (userCsr n || (s.full && privCsr n)) &&
  (match n / 256 % 4 with
   | 0 => true
   | 1 => s.mode != .u
   | _ => s.mode == .m) &&
  !(write && n / 1024 == 3) && (n != 0x5C0 || s.focus == .tile s.curTile) &&
  !(n == 0x180 && s.mode == .s && bit (s.priv s.focus).mstatus 20)

/-- A delay accumulator as it reads (R374). -/
def Acc.word (a : Acc) : Word := BitVec.ofNat 64 (a.events * 2 ^ 40 + a.cycles)

/-- hartrank (R119); a mill core, which holds no rank, reads rank 4,095 (log 109, DESIGN CHOICE). -/
def State.hartrank (s : State) (slot : Nat) : Word :=
  match s.focus with
  | .tile t => BitVec.ofNat 64 (s.rankOf t * 16 + slot)
  | .mill _ => BitVec.ofNat 64 (4095 * 16 + slot)

/-- A CSR read by the issuing context: the value, and the state with FTIME's reading. A mill core reads the counters, times and
pcoord of its bridge's tile (log 109, DESIGN CHOICE). -/
def State.readCsr (s : State) (n : Nat) : Word × State :=
  let c := s.cur
  let t := s.curTile
  let p := s.priv s.focus
  if 0xC80 ≤ n && n ≤ 0xCBF then ((tgetD s.curT.acc (n - 0xC80) ⟨0, 0⟩).word, s)
  else
    match n with
    | 0x001 => ((c.th.fcsr &&& 0x1F#8).zeroExtend 64, s)
    | 0x002 => ((c.th.fcsr >>> 5).zeroExtend 64, s)
    | 0x003 => (c.th.fcsr.zeroExtend 64, s)
    | 0x800 => (c.th.fepol, s)
    | 0x840 => (c.uiepc, s)
    | 0xC00 => (BitVec.ofNat 64 s.curT.cycles, s)
    | 0xC01 => (BitVec.ofNat 64 s.tick, s)
    | 0xCC0 => (c.festate s.full, s)
    | 0xCC1 => (c.th.status, s)
    | 0xCC2 => (c.th.gtid, s)
    | 0xCC3 => (s.hartrank s.curSlot, s)
    | 0xCC4 => (BitVec.ofNat 64 (pcoord t), s)
    | 0xCC5 => let (ft, s) := s.readFtime t; (BitVec.ofNat 64 ft, s)
    | 0xCC6 => let (ft, s) := s.readFtime t; (BitVec.ofNat 64 (s.tick % 2 ^ 32 * 2 ^ 32 + ft), s)
    | 0xCC7 => (BitVec.ofNat 64 s.curT.dtick, s)
    | 0xCD0 => (c.uixid.zeroExtend 64, s)
    | 0x100 => (readMstatus p &&& sstatusMask, s)
    | 0x104 => (p.mie &&& p.mideleg, s)
    | 0x144 => (s.mip s.focus &&& p.mideleg, s)
    | 0x105 => (p.stvec, s)
    | 0x305 => (p.mtvec, s)
    | 0x140 => (p.sscratch, s)
    | 0x340 => (p.mscratch, s)
    | 0x141 => (p.sepc, s)
    | 0x341 => (p.mepc, s)
    | 0x142 => (p.scause, s)
    | 0x342 => (p.mcause, s)
    | 0x143 => (p.stval, s)
    | 0x343 => (p.mtval, s)
    | 0x180 => (p.satp, s)
    | 0x300 => (readMstatus p, s)
    | 0x301 => (0x8000000000941128#64, s)
    | 0x302 => (p.medeleg, s)
    | 0x303 => (p.mideleg, s)
    | 0x304 => (p.mie, s)
    | 0x344 => (s.mip s.focus, s)
    | 0x5C0 => (s.curT.arrcfg, s)
    | 0xF14 => (s.hartrank 0, s)
    | _ => (0, s)

/-- A CSR written by the issuing context. -/
def State.writeCsr (s : State) (n : Nat) (w : Word) : State :=
  let low := w.extractLsb' 0 8
  let setP (f : Priv → Priv) : State := s.modPriv s.focus f
  match n with
  | 0x001 => s.modCur fun c => c.putFcsr 0x1F#8 low
  | 0x002 => s.modCur fun c => c.putFcsr 0xE0#8 (low <<< 5)
  | 0x003 => s.modCur fun c => c.putFcsr 0xFF#8 low
  | 0x800 => s.modCur fun c => { c with th := { c.th with fepol := w &&& fepolMask s.full } }
  | 0x840 => s.modCur fun c => { c with uiepc := w &&& ~~~3#64 }
  | 0x100 => setP fun p => p.putMstatus w sstatusWrite
  | 0x104 => setP fun p => { p with mie := (p.mie &&& ~~~p.mideleg) ||| (w &&& p.mideleg) }
  | 0x144 => s.writeMip s.focus (s.priv s.focus).mideleg w
  | 0x105 => setP fun p => { p with stvec := vecOf w }
  | 0x305 => setP fun p => { p with mtvec := vecOf w }
  | 0x140 => setP fun p => { p with sscratch := w }
  | 0x340 => setP fun p => { p with mscratch := w }
  | 0x141 => setP fun p => { p with sepc := w &&& ~~~3#64 }
  | 0x341 => setP fun p => { p with mepc := w &&& ~~~3#64 }
  | 0x142 => setP fun p => { p with scause := w }
  | 0x342 => setP fun p => { p with mcause := w }
  | 0x143 => setP fun p => { p with stval := w }
  | 0x343 => setP fun p => { p with mtval := w }
  | 0x180 => s.writeSatp s.focus w
  | 0x300 => setP fun p => p.putMstatus w mstatusMask
  | 0x302 => setP fun p => { p with medeleg := w }
  | 0x303 => setP fun p => { p with mideleg := w &&& delegMask }
  | 0x304 => setP fun p => { p with mie := w &&& irqMask }
  | 0x344 => s.writeMip s.focus mipMask w
  | 0x5C0 => s.writeArrcfg s.curTile w
  | _ => s

/-- Whether the number names fflags, frm or fcsr (R137). -/
def fcsrNumber (n : Nat) : Bool := n == 1 || n == 2 || n == 3

/-- One CSR instruction (R117): the old value read, a new one written, the old value to rd. -/
def csrOp (i : Instr) (rd : XReg) (csr : BitVec 12) (write : Bool) (f : State → Word → Word) (s : State) : Out :=
  let n := csr.toNat
  issueIf (!s.csrLegal n write) i s fun s =>
    if fcsrNumber n && s.cur.fcsrBusy then s.forfeit
    else
      let (old, s) := s.readCsr n
      ((if write then s.writeCsr n (f s old) else s).setX rd old).retire

/-- CSRRW (R117). -/
def execCsrrw (rd : XReg) (csr : BitVec 12) (rs1 : XReg) (s : State) : Out :=
  csrOp (.csrrw rd csr rs1) rd csr true (fun s _ => s.x1 rs1) s

/-- CSRRS (R117): no write when rs1 is x0. -/
def execCsrrs (rd : XReg) (csr : BitVec 12) (rs1 : XReg) (s : State) : Out :=
  csrOp (.csrrs rd csr rs1) rd csr (rs1 != 0) (fun s old => old ||| s.x1 rs1) s

/-- CSRRC (R117). -/
def execCsrrc (rd : XReg) (csr : BitVec 12) (rs1 : XReg) (s : State) : Out :=
  csrOp (.csrrc rd csr rs1) rd csr (rs1 != 0) (fun s old => old &&& ~~~(s.x1 rs1)) s

/-- CSRRWI (R117). -/
def execCsrrwi (rd : XReg) (csr : BitVec 12) (uimm : BitVec 5) (s : State) : Out :=
  csrOp (.csrrwi rd csr uimm) rd csr true (fun _ _ => uimm.zeroExtend 64) s

/-- CSRRSI (R117): no write when the immediate is 0. -/
def execCsrrsi (rd : XReg) (csr : BitVec 12) (uimm : BitVec 5) (s : State) : Out :=
  csrOp (.csrrsi rd csr uimm) rd csr (uimm != 0) (fun _ old => old ||| uimm.zeroExtend 64) s

/-- CSRRCI (R117). -/
def execCsrrci (rd : XReg) (csr : BitVec 12) (uimm : BitVec 5) (s : State) : Out :=
  csrOp (.csrrci rd csr uimm) rd csr (uimm != 0) (fun _ old => old &&& ~~~(uimm.zeroExtend 64)) s

/-! ### The same writes as operations of their own -/

/-- MIP_WRITE (R328): slot 0 of a tile, in M mode, writes mip. -/
def execMipWrite (t : Nat) (w : Word) (s : State) : Out :=
  .next (if (s.priv (.tile t)).mode = .m then s.writeMip (.tile t) mipMask w else s)

/-- SATP_WRITE (R316): slot 0 of a tile, in M mode, or in S mode with TVM 0, writes satp. -/
def execSatpWrite (t : Nat) (w : Word) (s : State) : Out :=
  let p := s.priv (.tile t)
  .next (if p.mode = .m || (p.mode = .s && !bit p.mstatus 20) then s.writeSatp (.tile t) w else s)

/-- ARRCFG_WRITE (R92): slot 0 of a tile, in S or M mode, writes arrcfg. -/
def execArrcfgWrite (t : Nat) (w : Word) (s : State) : Out :=
  .next (if (s.priv (.tile t)).mode = .u then s else s.writeArrcfg t w)

/-- FCSR_ACCESS (R137): the context of a slot writes fcsr once no float or vector work of its is outstanding. -/
def execFcsrAccess (t c : Nat) (w : Word) (s : State) : Out :=
  .next (if (s.ctx (.tile t) c).fcsrBusy then s
    else s.modCtx (.tile t) c fun x => x.putFcsr 0xFF#8 (w.extractLsb' 0 8))

end Sys2Proof.Machine
end

