-- ==== Sys2Proof/Machine/System.lean ====
section
/-! DEFINITION. Environment calls, returns, waits, fences, topology and pinning (05_scalar.md R116, R121 to R124;
04_context.md R97; 17_page.md R325; 18_fault.md R328), and the events about interrupts. -/
namespace Sys2Proof.Machine

/-! ### Traps by instruction (R122, R74) -/

/-- ECALL (R122). -/
def execEcall (s : State) : Out :=
  issue .ecall s fun s =>
    s.trap (match s.mode with
      | .u => 8
      | .s => 9
      | .m => 11) 0

/-- EBREAK (R122). -/
def execEbreak (s : State) : Out := issue .ebreak s fun s => s.trap 3 s.cur.th.pc

/-- ILLEGAL_INSTRUCTION (R74): the issuing slot's word decodes to no instruction. -/
def execIllegalInstruction (w : Word32) (s : State) : Out := .next (s.illegal w)

/-! ### Returns (R121) -/

/-- A return: its new privileged state, and the PC. -/
def State.returnTo (s : State) (p : Priv × Word) : State :=
  (s.modPriv s.focus fun _ => p.1).modCur fun c => c.retireTo p.2

/-- MRET (R121). -/
def execMret (s : State) : Out := issue .mret s fun s => s.returnTo (s.priv s.focus).mret

/-- SRET (R121): illegal in S mode under TSR. -/
def execSret (s : State) : Out :=
  issueIf (s.mode == .s && bit (s.priv s.focus).mstatus 22) .sret s fun s => s.returnTo (s.priv s.focus).sret

/-! ### Interrupts (R121, R123, 18_fault.md R328) -/

/-- Whether an interrupt is pending and taken now, and the mode it goes to is M. -/
def State.irqTaken (s : State) (a : Agent) (code : Nat) : Option Bool :=
  let p := s.priv a
  if !bit (s.mip a) code then none
  else if code = 21 then some true
  else if !bit p.mie code then none
  else if bit p.mideleg code then
    match p.mode with
    | .u => some false
    | .s => if bit p.mstatus 1 then some false else none
    | .m => none
  else if p.mode != .m || bit p.mstatus 3 then some true else none

/-- The interrupt slot 0 takes: those for M mode first, the highest code first (R328). -/
def State.irqNext (s : State) (a : Agent) : Option Nat :=
  let order := [21, 20, 19, 18, 17, 16, 3, 1]
  match order.find? fun c => s.irqTaken a c == some true with
  | some c => some c
  | none => order.find? fun c => s.irqTaken a c == some false

/-- Whether slot 0 stands between instructions, or in one that starts again without harm. -/
def Stage.interruptible : Stage → Bool
  | .none => true
  | .wfi => true
  | .joinParked _ => true
  | .joinWit _ => true
  | .drain _ => true
  | _ => false

/-- Whether some enabled interrupt is pending, whatever MIE and SIE hold (R123). -/
def State.wfiReady (s : State) (a : Agent) : Bool := s.mip a &&& (s.priv a).mie != 0

/-- Slot 0 of a tile, or a mill core, takes its interrupt (R121); none when it has none to take. -/
def takeIrqOf (a : Agent) (s : State) : Option State :=
  let c := s.ctx a 0
  match s.irqNext a with
  | some code =>
    if (c.st == .ready || c.st == .parkedReg || c.st == .parkedWit || c.st == .parkedJoin) && c.stage.interruptible then
      let pc := if c.stage == .wfi && s.wfiReady a then c.th.pc + 4 else c.th.pc
      let (p, target) := (s.priv a).enter true code 0 pc
      some ((s.modPriv a fun _ => p).modCtx a 0 fun c =>
        { c with th := { c.th with pc := target }, st := .ready, wait := .event, stage := .none, probes := [], replayFrom := none,
                 missed := false, carried := none, walkFault := none })
    else none
  | none => none

def takeIrq (t : Nat) (s : State) : Option State := takeIrqOf (.tile t) s

/-- INTERRUPT_TAKE (R121). -/
def execInterruptTake (t : Nat) (s : State) : Out := .next ((takeIrq t s).getD s)

/-- WFI (R123): illegal in S mode under TW; it waits for an enabled pending interrupt. -/
def execWfi (s : State) : Out :=
  issueIf (s.mode == .s && bit (s.priv s.focus).mstatus 21) .wfi s fun s =>
    if s.wfiReady s.focus then s.retire else s.modCur fun c => { c with st := .ready, stage := .wfi }

/-- A waiting WFI whose condition holds retires. -/
def wakeWfi (t : Nat) (s : State) : Option State :=
  let a := Agent.tile t
  if (s.ctx a 0).stage == .wfi && s.wfiReady a then some (s.modCtx a 0 Ctx.retire) else none

/-- WFI_WAKE (R123). -/
def execWfiWake (t : Nat) (s : State) : Out := .next ((wakeWfi t s).getD s)

/-- A pending bit of a tile's slot 0 set (R328). -/
def State.raiseIrq (s : State) (t code : Nat) : State :=
  s.modPriv (.tile t) fun p => { p with mip := p.mip ||| BitVec.ofNat 64 (2 ^ code) }

/-! ### Fences (R124, 17_page.md R325) -/

/-- What an instruction does on the tile on which the context stands: nothing for a mill core (16_queue.md R312; log 11, DEDUCED). -/
def State.onTile (s : State) (f : Tile → Tile) : State :=
  match s.focus with
  | .tile t => s.modTile t f
  | .mill _ => s

/-- FENCE.I (R124): stores to the tile's own DRAM are applied before the next instruction issues (07_witness.md R143), so
the lines go. -/
def execFenceI (s : State) : Out :=
  issue .fenceI s fun s =>
    (s.onTile fun T => { T with slots := T.slots.map fun c => { c with pref := none } }).retire

/-- Whether an SFENCE selection names a cached translation (log 90, DEDUCED). -/
def TlbEntry.selected (e : TlbEntry) (va : Option (Bool × Nat)) (asid : Option Nat) : Bool :=
  (match va with
   | none => true
   | some (host, a) => e.host == host && decide (e.va ≤ a) && decide (a < e.va + 2 ^ e.size)) &&
  (match asid with
   | none => true
   | some k => e.asid == k || bit e.leaf 7)

/-- The tiles that hold a partition's ranks. -/
def State.tilesOf (s : State) (p : Nat) : List Nat :=
  match tget s.parts p with
  | some P => P.ranks.filterMap s.homeOf
  | none => []

/-- The tiles and fields whose TLBs serve a partition: its fields, and those in which its ranks have adopters
(01_wafer.md R25); for a tile of no partition, itself and its field (log 90, DEDUCED). -/
def State.tlbsOf (s : State) (t : Nat) (part : Option Nat) : List Nat × List Nat :=
  match part with
  | some p =>
    let tiles := s.tilesOf p
    (tiles, (tiles.map fieldOf ++ (match tget s.parts p with
      | some P => P.fields
      | none => [])).eraseDups)
  | none => ([t], [fieldOf t])

/-- The selections sent over the partition (R325 step 1) (log 90, DEDUCED). -/
def State.sendSfence (s : State) (va : Option (Bool × Nat)) (asid : Option Nat) : State :=
  let t := s.curTile
  let (tiles, fields) := s.tlbsOf t s.curPart
  let s := tiles.foldl (fun s d => s.send (.tile t) (.tile d) (s.tile d).rank 0 (.sfence t none va asid)) s
  let s := fields.foldl (fun s f => s.send (.tile t) (.tile (tileOfField f 0)) none 0 (.sfence t (some f) va asid)) s
  s.modCur fun c => { c with st := .ready, stage := .sfence tiles fields }

/-- SFENCE.VMA (R124, R325): illegal in S mode under TVM; waits as pfence 3, sends the selection, retires when every
acknowledgement has come. A mill core, which translates nothing, has nothing to select (log 11, DEDUCED). -/
def execSfenceVma (rs1 rs2 : XReg) (s : State) : Out :=
  issueIf (s.mode == .s && bit (s.priv s.focus).mstatus 20) (.sfenceVma rs1 rs2) s fun s =>
    match s.cur.stage with
    | .sfence [] [] => s.retire
    | .sfence _ _ => s.forfeit
    | _ =>
      s.awaitField 3#2 fun s =>
        if s.focus != .tile s.curTile then s.retire else
        let p := s.x1 rs1
        let va := if rs1 = 0 then none else some (ptrSpace p == 2, ptrAddr p)
        let asid := if rs2 = 0 then none else some (fld (s.x2 rs1 rs2) 15 0)
        (s.modTile s.curTile fun T => { T with tlb := T.tlb.filter fun e => !e.selected va asid }).sendSfence va asid

/-- The contexts with an access that is translated and has not performed: departing, in flight, refused, or arrived and not
yet performed (R325 step 2), by GTID. -/
def State.inMotion (s : State) : List Word :=
  (s.tiles.flatMap fun q =>
    (q.2.slots.toList.filterMap fun c =>
      if c.carried.isSome || c.st == .departing || c.st == .inFlight || c.st == .refused then some c.th.gtid else none) ++
    q.2.arrivals.filterMap fun a => if a.carried.isSome then some a.th.gtid else none) ++
  s.net.filterMap fun g => match g.body with
    | .migrate h _ _ (some _) => some h.gtid
    | _ => none

/-- What a tile or a field has translated and not finished (R325 steps 1 and 2). -/
def State.sfenceSnapshot (s : State) (d : Nat) (field : Option Nat) :
    List (Nat × Nat) × List Nat × List Word × List Nat × List Nat :=
  match field with
  | some f => ([], [], [], (s.field f).walks.map (·.va), [])
  | none =>
    let T := s.tile d
    let cs := T.slots.toList
    (T.journal.map fun e => (e.idx, e.tick),
     cs.flatMap fun c => c.pend.filterMap fun p => match p.kind with
       | .access _ | .host _ _ _ | .answer => some p.id
       | _ => none,
     s.inMotion,
     ((s.field (fieldOf d)).walks.filter fun w => w.waiters.any fun x => x.1 == d).map (·.va),
     (T.mxQueue ++ T.mxRun.toList ++ T.mxHeld.toList).map (·.seq))

/-- A tile's TLB loses what is selected; a spilled context that was departing is translated again when it is resumed
(log 94, DEDUCED). -/
def Tile.invalidate (T : Tile) (va : Option (Bool × Nat)) (asid : Option Nat) : Tile :=
  { T with tlb := T.tlb.filter fun e => !e.selected va asid,
           saved := T.saved.map fun q => (q.1, { q.2 with carried := none }) }

/-- A field's TLB loses what is selected, and the walks under way fill no TLB when they end (log 90, DEDUCED). -/
def Field.invalidate (F : Field) (va : Option (Bool × Nat)) (asid : Option Nat) : Field :=
  { F with tlb := F.tlb.filter fun e => !e.selected va asid, walks := F.walks.map fun w => { w with stale := true } }

/-- Whether a fence's selection for a field's TLB is still on its way: a tile of the field is invalidated after it, so that
the tile refills from nothing older (log 90, DEDUCED). -/
def State.fieldPending (s : State) (b f : Nat) : Bool :=
  s.net.any fun g => match g.body with
    | .sfence b' (some f') _ _ => b' == b && f' == f
    | _ => false

/-- SFENCE_SELECTION (R325): a TLB invalidates what is selected, and when what it had translated has drained it
acknowledges. For a rank whose tile has been retired its adopter does so (R326). -/
def evSfence (m : Nat) (s : State) : Option State :=
  (s.takeMsg m).bind fun (g, s') =>
    let d := (g.rank.bind s'.homeOf).getD g.dst.tileOf
    match g.body with
    | .sfence b field va asid =>
      if field.isNone && s'.fieldPending b (fieldOf d) then none
      else
        let s1 := match field with
          | none => s'.modTile d fun T => T.invalidate va asid
          | some f => s'.modField f fun F => F.invalidate va asid
        let (j, r, c, w, x) := s1.sfenceSnapshot d field
        some (s1.send g.dst g.dst g.rank 0 (.sfenceDrain b field j r c w x))
    | .sfenceDrain b field j r c w x =>
      let (j', r', c', w', x') := s'.sfenceSnapshot d field
      if (j.any j'.contains) || (r.any r'.contains) || (c.any c'.contains) || (w.any w'.contains) || (x.any x'.contains) then none
      else some (s'.send g.dst (.tile b) none 0 (.sfenceAck g.dst.tileOf field))
    | _ => none

/-- SFENCE_SELECTION (R325). -/
def execSfenceSelection (m : Nat) (s : State) : Out := .next ((evSfence m s).getD s)

/-- An acknowledgement at the fencing slot 0. -/
def evSfenceAck (m : Nat) (s : State) : Option State :=
  (s.takeMsg m).bind fun (g, s') =>
    match g.body with
    | .sfenceAck d field =>
      some (s'.modCtx (.tile g.dst.tileOf) 0 fun c =>
        match c.stage, field with
        | .sfence ts fs, none => { c with stage := .sfence (ts.filter (· != d)) fs }
        | .sfence ts fs, some f => { c with stage := .sfence ts (fs.filter (· != f)) }
        | _, _ => c)
    | _ => none

/-- SFENCE_ACK (R325). -/
def execSfenceAck (m : Nat) (s : State) : Out := .next ((evSfenceAck m s).getD s)

/-! ### Topology and pinning -/

/-- The spares available to the module. -/
def State.spares (s : State) : Nat := (s.tiles.filter fun x => x.2.life == .spare).length

/-- A GTOPO selector's value (R116); none for the selectors that read all ones on a tile without a rank. A mill core stands on no
tile and in no field (log 109, DESIGN CHOICE). -/
def State.topo (s : State) (sel : Nat) : Option Nat :=
  let n := s.grade
  let home := s.focus == .tile s.curTile
  let T := if home then s.curT else Tile.reset
  let part := s.curPart.bind fun p => (tget s.parts p).map fun P => (p, P)
  let ceil30 (k : Nat) : Nat := (k + 29) / 30
  match sel with
  | 0 => some n
  | 1 => some 30
  | 2 => some (ceil30 n)
  | 3 => some (n - 30 * (ceil30 n - 1))
  | 4 => T.rank
  | 5 => T.rank.map (· % 30)
  | 6 => T.rank.map (· / 30)
  | 7 => part.map (·.1)
  | 8 => part.map (·.2.ranks.length)
  | 9 => T.rank.bind fun k => part.bind fun P => P.2.ranks.findIdx? (· == k)
  | 10 => T.rank.bind fun k => part.bind fun P => (P.2.ranks.findIdx? (· == k)).map (· % 30)
  | 11 => T.rank.bind fun k => part.bind fun P => (P.2.ranks.findIdx? (· == k)).map (· / 30)
  | 12 => part.map fun P => ceil30 P.2.ranks.length
  | 13 => part.map fun P => P.2.ranks.length - 30 * (ceil30 P.2.ranks.length - 1)
  | 14 => part.bind fun P => P.2.ranks.head?
  | 15 => some s.curSlot
  | 16 => some s.spares
  | 17 => some (if home then T.mapGen else s.gen)
  | 18 => if home then some (fieldOf s.curTile) else none
  | 19 => part.map fun P => (P.2.fields.map fun f => 2 ^ f).sum
  | _ => none

/-- GTOPO (R116); a selector of 20 or more is no instruction. -/
def execGtopo (rd : XReg) (uimm : BitVec 5) (s : State) : Out :=
  issueIf (decide (20 ≤ uimm.toNat)) (.gtopo rd uimm) s fun s =>
    (s.setX rd (match s.topo uimm.toNat with
      | some v => BitVec.ofNat 64 v
      | none => -1)).retire

/-- PIN (R97). -/
def execPin (s : State) : Out :=
  issue .pin s fun s =>
    (s.modCur fun c => if c.th.furrow then c else { c with th := { c.th with pinned := true, pcount := 0, bounce := 0 } }).retire

/-- UNPIN (R97). -/
def execUnpin (s : State) : Out :=
  issue .unpin s fun s =>
    (s.modCur fun c => if c.th.furrow then c else { c with th := { c.th with pinned := false, pcount := 0, bounce := 0 } }).retire

/-! ### IRQSEND (18_fault.md R337) -/

/-- IRQSEND: reserved bits and ranks outside the partition are store access faults; it waits as pfence 3 and sends one
message. -/
def execIrqsend (rs1 rs2 : XReg) (s : State) : Out :=
  issue (.irqsend rs1 rs2) s fun s =>
    let a := s.x1 rs1
    let b := s.x2 rs1 rs2
    let rank := fld a 11 0
    if fld a 63 12 != 0 || fld b 63 1 != 0 || s.partOf rank != s.curPart || s.curPart.isNone then s.trap 7 a
    else
      s.awaitField 3#2 fun s =>
        let t := s.curTile
        match s.mapOf t rank with
        | some d => (s.send (.tile t) (.tile d) (some rank) 0 (.irq rank (if bit b 0 then 1 else 3))).retire
        | none => s.park (.map rank)

/-- The message at its target (R337), forwarded to the rank's tile if need be. -/
def evIrq (m : Nat) (s : State) : Option State :=
  (s.arrive m).bind fun (r, s') =>
    match r.msg.body with
    | .irq _ code => some (if r.stand then s' else s'.raiseIrq r.at_ code)
    | _ => none

/-- IRQ_MESSAGE_ARRIVAL (R337). -/
def execIrqMessageArrival (m : Nat) (s : State) : Out := .next ((evIrq m s).getD s)

end Sys2Proof.Machine
end

