-- ==== Sys2Proof/Machine/Fill.lean ====
section
/-! DEFINITION. Replies and notices at the tile that waits for them: late results, proxy replies, probe answers,
settlement and refusal notices (03_encoding.md R59, 04_context.md R94, 05_scalar.md R104, R108, R109, 06_float.md R129,
R140, 07_witness.md R145, 18_fault.md R329, R333, R334). Each event of the table is a function that answers nothing
while the event cannot happen; the event then leaves the machine as it is (log 19, DESIGN CHOICE). -/
namespace Sys2Proof.Machine

/-! ### Filling a destination -/

/-- A value put into the place of an output stream kept for it, converted (R140, 11_stream.md R208). -/
def State.fillPlace (s : State) (t c : Nat) (r : FReg) (place code v : Nat) (fl : Flags) : State :=
  let y := ((s.tile t).slot c).stream r
  if !(y.out.any fun q => q.1 == place) then s.modCtx (.tile t) c fun x => x.orFlags fl
  else
    let i := y.done + (y.out.findIdx fun q => q.1 == place)
    let (y, sc) := s.pushScales t y i
    let (raw, f2) := y.encode sc code v
    let y := { y with out := y.out.map fun q => if q.1 == place then (place, some raw) else q }
    s.modCtx (.tile t) c fun x => (x.setStream r y).orFlags (fl ||| f2)

/-- A late value put where it goes: v is the value as memory or the unit gave it, in a floating format's code for f
registers and streams. -/
def State.fillDest (s : State) (a : Agent) (c : Nat) (d : Dest) (code : Nat) (v : Word) (fl : Flags) : State :=
  match d with
  | .none => s.modCtx a c fun x => x.orFlags fl
  | .x r =>
    let s := s.modCtx a c fun x => x.setX r v
    match a with
    | .tile _ => s
    | .mill k => { s with mills := tput s.mills k ((s.mill k).clearCap r) }
  | .f r => s.modCtx a c fun x => (x.setF r (box code v.toNat)).orFlags fl
  | .stream r place => s.fillPlace a.tileOf c r place code v.toNat fl
  | .furrow place =>
    s.modTile a.tileOf fun T => { T with port := T.port.map fun P =>
      { P with outq := P.outq.map fun q => if q.1 == place then (place, some v) else q } }

/-- The producer of a number taken from a slot. -/
def State.takeProducer (s : State) (a : Agent) (c id : Nat) : Option (Producer × State) :=
  (takeFirst (fun p : Producer => p.id == id) (s.ctx a c).pend).map fun (p, r) =>
    (p, s.modCtx a c fun x => { x with pend := r })

/-- A result delivered to the producer it answers (R59), whose instruction is counted now if it was not at issue (log 92, DEDUCED). -/
def State.fillProducer (s : State) (a : Agent) (c : Nat) (p : Producer) (w : Word) : State :=
  let s := s.modCtx a c fun x => x.count p.counts
  let put (e : Ext) : State :=
    match p.dest with
    | .f _ | .stream _ _ => s.fillDest a c p.dest e.code w 0#5
    | d => s.fillDest a c d 1 (e.ofWord w) 0#5
  match p.kind with
  | .access e => put e
  | .host _ _ e => put e
  | _ => s.fillDest a c p.dest 1 w 0#5

/-- A fault in a reply (R329, R140): the destination is full again with the value it had, and the context traps with the PC of
the producing instruction, which is not counted. A stream's place is released with those of the pushes after it, which are made
again when the context is resumed, and the position is what it was before the instruction; the port's place is released. -/
def State.failProducer (s : State) (a : Agent) (c : Nat) (p : Producer) (cause : Nat) (tval : Word) : State :=
  let s : State := match p.dest with
    | .x r => s.modCtx a c fun x => x.setX r p.old
    | .f r => s.modCtx a c fun x => x.setF r p.old
    | .stream r place =>
        let y := (s.ctx a c).stream r
        let before := y.out.takeWhile fun q => q.1 != place
        let y := { y with out := before, pos := y.pos - (y.out.length - before.length) }
        s.modCtx a c fun x => x.setStream r y
    | .furrow place => s.modTile a.tileOf fun T => { T with port := T.port.map fun P =>
        { P with outq := P.outq.filter fun q => q.1 != place } }
    | .none => s
  s.trapSlot a c false cause tval p.pc

/-! ### Units on the tile (R104, R129) -/

/-- The cycle count results of an agent are timed by. -/
def State.nowOf (s : State) (a : Agent) : Nat := (s.tile a.tileOf).cycles

/-- An integer divide whose time has come writes its result (R104). -/
def evDivide (t c : Nat) (s : State) : Option State :=
  let a := Agent.tile t
  (takeFirst (fun p : Producer => match p.kind with
    | .divide due _ => decide (due ≤ s.nowOf a)
    | _ => false) (s.ctx a c).pend).map fun (p, r) =>
      let s := s.modCtx a c fun x => { x with pend := r }
      match p.kind with
      | .divide _ v => s.fillDest a c p.dest 1 v 0#5
      | _ => s

/-- DIVIDE_RESULT (R104). -/
def execDivideResult (t c : Nat) (s : State) : Out := .next ((evDivide t c s).getD s)

/-- A floating divide or root whose time has come writes its result and flags (R129). -/
def evFdiv (t c : Nat) (s : State) : Option State :=
  let a := Agent.tile t
  (takeFirst (fun p : Producer => match p.kind with
    | .float due _ _ _ => decide (due ≤ s.nowOf a)
    | _ => false) (s.ctx a c).pend).map fun (p, r) =>
      let s := s.modCtx a c fun x => { x with pend := r }
      match p.kind with
      | .float _ code v fl => s.fillDest a c p.dest code v fl
      | _ => s

/-- FDIV_FSQRT_RESULT (R129). -/
def execFdivFsqrtResult (t c : Nat) (s : State) : Out := .next ((evFdiv t c s).getD s)

/-- Divides and roots of a mill core, whose slot has no tile (16_queue.md R312; log 11, DEDUCED). -/
def State.millResults (s : State) (k : Nat) : State :=
  let a := Agent.mill k
  let (due, rest) := (s.ctx a 0).pend.partition fun p => match p.kind with
    | .divide _ _ => true
    | .float _ _ _ _ => true
    | _ => false
  due.foldl (fun s p => match p.kind with
    | .divide _ v => s.fillDest a 0 p.dest 1 v 0#5
    | .float _ code v fl => s.fillDest a 0 p.dest code v fl
    | _ => s) (s.modCtx a 0 fun x => { x with pend := rest })

/-! ### Replies (R94, R108) -/

/-- The delay of a reply enters the access's accumulator (21_observe.md R373). -/
def State.noteDelay (s : State) (a : Agent) (acc d : Nat) : State :=
  match a with
  | .tile t => s.addDelay t acc d
  | .mill _ => s

/-- A value for whoever waits: a producer, or an instruction that stands in JOIN or GSYNC (08_frame.md R173,
09_group.md R189). -/
def State.replyTo (s : State) (w : Who) (own : Word) (v : ReplyVal) (d : Nat) : State :=
  let drop (s : State) : State := if own = 0 then s else s.modCtx w.agent w.slot fun c => { c with th := c.th.ownDrop own }
  match s.takeProducer w.agent w.slot w.id with
  | some (p, s) =>
    let s := (drop s).noteDelay w.agent p.acc d
    match v with
    | .value x => s.fillProducer w.agent w.slot p x
    | .phase _ _ x => s.fillProducer w.agent w.slot p x
    | .fault cause tval => s.failProducer w.agent w.slot p cause tval
  | none =>
    let c := s.ctx w.agent w.slot
    match c.probes.find? fun q => q.id == w.id with
    | none => s
    | some q =>
      let s := ((drop s).noteDelay w.agent q.acc d).modCtx w.agent w.slot fun c =>
        { c with probes := c.probes.filter fun q => q.id != w.id }
      match c.stage, v with
      | .joinProxied, .value x => s.modCtx w.agent w.slot fun c => { c with stage := .joinWit x, st := .ready }
      | .gsyncSent _ _, .phase _ true x => s.modCtx w.agent w.slot fun c => { c with stage := .gsyncWit x, st := .ready }
      | .gsyncSent rank off, .phase n false _ => s.modCtx w.agent w.slot fun c =>
          { c with stage := .gsyncPhase rank off n, st := .ready }
      | _, .fault cause tval => s.trapSlot w.agent w.slot false cause tval c.th.pc
      | _, _ => s

/-- A proxy's reply at the context's tile. -/
def evProxyReply (m : Nat) (s : State) : Option State :=
  (s.arrive m).bind fun (r, s') =>
    match r.msg.body with
    | .proxyRep who own v => some (s'.replyTo who own v r.delay)
    | _ => none

/-- PROXY_REPLY (R94). -/
def execProxyReply (m : Nat) (s : State) : Out := .next ((evProxyReply m s).getD s)

/-- The delay field that comes back to a tile from a host port (21_observe.md R372): out to a bridge and back by the same path, with
a free wait at the port; which bridge's port it is, is open (log 114, DESIGN CHOICE). -/
def State.hostTrip (s : State) (t : Nat) : Nat × Nat :=
  let (v, s) := s.free
  let out : Msg := ⟨0, .tile t, .bridge (v % 4), none, 0, [], s.clock, .notice 0 true⟩
  match s.arrivalDelay out with
  | none => (0, s.freeCount)
  | some (d, s) =>
    let path := reversePath t ((s.pathOf out).getD [])
    let (w, s) := s.free
    let back : Msg := ⟨0, .bridge (v % 4), .tile t, none, min 65535 (d + w), path, s.clock, .notice 0 true⟩
    match s.arrivalDelay back with
    | none => (0, s.freeCount)
    | some (d, s) => (d, s.freeCount)

/-- The cycles of that way out and back. -/
def State.hostDelay (s : State) (t : Nat) : Nat × State := ((s.hostTrip t).1, { s with freeCount := (s.hostTrip t).2 })

/-- A host's reply to a read of space 2 (R108): the data come from outside; its length is the access's. -/
def evHostReply (t c : Nat) (w : Word) (s : State) : Option State :=
  let a := Agent.tile t
  (takeFirst (fun p : Producer => match p.kind with
    | .host _ _ _ => true
    | _ => false) (s.ctx a c).pend).bind fun (p, r) =>
      let (d, s) := s.hostDelay t
      let s := (s.modCtx a c fun x => { x with pend := r }).addDelay t p.acc d
      match p.kind with
      | .host _ n _ =>
        some (s.fillProducer a c p (BitVec.ofNat 64 (w.toNat % 2 ^ (8 * n))))
      | _ => none

/-- HOST_READ_REPLY (R108). -/
def execHostReadReply (t c : Nat) (w : Word) (s : State) : Out := .next ((evHostReply t c w s).getD s)

/-- The host port's completion of a posted store of space 2 (07_witness.md R146): its delay enters the accumulator, and the entry is
released. -/
def evHostWrite (i : Nat) (s : State) : Option State :=
  s.hostWrites[i]?.map fun (t, idx, _, _) =>
    let s := { s with hostWrites := s.hostWrites.eraseIdx i }
    if t = 4095 then { s with bridgeOut := tdel s.bridgeOut idx }
    else if 1024 ≤ t then s.releaseEntry t idx true
    else
      let (d, s) := s.hostDelay t
      (s.addDelay t 48 d).releaseEntry t idx true

/-- HOST_WRITE_COMPLETION (R146). -/
def execHostWriteCompletion (i : Nat) (s : State) : Out := .next ((evHostWrite i s).getD s)

/-! ### Probes (R145) -/

/-- An answer to a node's own probe (R145, R166). -/
def State.answerAsk (s : State) (id : Nat) (ans : ProbeAns) : State :=
  { s with asks := s.asks.map fun q => if q.id == id then { q with ans := some ans } else q }

/-- A probe's answer at the context that asked: WTEST's register, or the wait it serves; or at the node that did. -/
def evProbeAnswer (m : Nat) (s : State) : Option State :=
  (s.arrive m).bind fun (r, s') =>
    match r.msg.body with
    | .probeAns who ans =>
      if who.slot = askSlot then some (s'.answerAsk who.id ans)
      else
      match s'.takeProducer who.agent who.slot who.id with
      | some (p, s') =>
        let v : Word := match ans with
          | .outstanding => 0
          | .satisfied => 1
          | .poison => 2
          | .value w => w
          | .fault _ => 0
        some ((s'.noteDelay who.agent p.acc r.delay).fillDest who.agent who.slot p.dest 1 v 0#5)
      | none =>
        match (s'.ctx who.agent who.slot).probes.find? fun q => q.id == who.id with
        | none => some s'
        | some p =>
          let set (q : Probe) : Probe := if q.id == who.id then { q with ans := some ans } else q
          some ((s'.noteDelay who.agent p.acc r.delay).modCtx who.agent who.slot fun c =>
            { c with probes := c.probes.map set, st := if c.st == .parkedJoin then .ready else c.st })
    | _ => none

/-- PROBE_ANSWER (R145). -/
def execProbeAnswer (m : Nat) (s : State) : Out := .next ((evProbeAnswer m s).getD s)

/-! ### Notices about posted operations (R109, R333, R334) -/

/-- A settlement notice releases its journal entry; those of a rank without an adopter are the mill's (R351). -/
def evSettled (m : Nat) (s : State) : Option State :=
  (s.arrive m).bind fun (r, s') =>
    match r.msg.body with
    | .settled jidx acc applied => some ((s'.addDelay r.holder acc r.delay).releaseEntry r.holder jidx applied)
    | _ => none

/-- SETTLEMENT_NOTICE (R109). -/
def execSettlementNotice (m : Nat) (s : State) : Out := .next ((evSettled m s).getD s)

/-- A posted store of space 3 whose connection was broken (20_link.md R365): it settles, and the context that issued it, if it
still is in its slot, traps with a load access fault where it stands; one that has left, or an engine, takes the refusal
(log 120, DEDUCED). -/
def State.brokenStore (s : State) (t jidx dst seq : Nat) (addr gtid : Word) : Option State :=
  let slot : Option Nat := ((s.tile t).journal.find? fun e => e.idx == jidx).bind fun e => if e.eng.isNone then e.slot else none
  match slot with
  | some c =>
    let x := (s.tile t).slot c
    if x.th.gtid == gtid && (x.st == .ready || x.st == .parkedReg || x.st == .parkedWit || x.st == .parkedJoin) then
      some ((s.releaseEntry t jidx true).trapSlot (.tile t) c false 5 addr x.th.pc)
    else s.enterRefusal t dst 4 seq jidx addr gtid
  | none => s.enterRefusal t dst 4 seq jidx addr gtid

/-- A refusal notice enters the refusal table; while no entry is free it waits in the network (R333). Cause 0 says that a
connection was broken. -/
def evRefusal (m : Nat) (s : State) : Option State :=
  (s.arrive m).bind fun (r, s') =>
    match r.msg.body with
    | .refusal jidx cause dst seq addr gtid acc =>
      let s1 := s'.addDelay r.holder acc r.delay
      if cause = 0 then s1.brokenStore r.holder jidx dst seq addr gtid else s1.enterRefusal r.holder dst cause seq jidx addr gtid
    | _ => none

/-- REFUSAL_ENTRY_FILL (R333). -/
def execRefusalEntryFill (m : Nat) (s : State) : Out := .next ((evRefusal m s).getD s)

/-- An acknowledgement at the home (R334): it clears the source's mark when the latest refused sequence is the one
acknowledged. -/
def evRefAck (m : Nat) (s : State) : Option State :=
  (s.arrive m).bind fun (r, s') =>
    match r.msg.body with
    | .refAck src dst last =>
      let clear := match tget (s'.tile r.holder).box.marks src with
        | some k => k.latest == last
        | none => true
      let s1 := if clear then s'.modTile r.holder fun T => { T with box := { T.box with marks := tdel T.box.marks src } }
        else s'
      some (s1.reply (.tile r.at_) r.ret none (.refAckAns dst clear))
    | _ => none

/-- REFUSAL_ACK_ARRIVAL (R334). -/
def execRefusalAckArrival (m : Nat) (s : State) : Out := .next ((evRefAck m s).getD s)

/-- The home's answer at the issuing tile: the entry is freed, or may be acknowledged again (R334). -/
def evRefAckAns (m : Nat) (s : State) : Option State :=
  (s.arrive m).bind fun (r, s') =>
    match r.msg.body with
    | .refAckAns dst clear =>
      some (s'.modTile r.at_ fun T => { T with refusals := T.refusals.map fun e =>
        if e.valid && e.ackpend && e.dst == dst then (if clear then RefEntry.empty else { e with ackpend := false })
        else e })
    | _ => none

/-- REFUSAL_ACK_ANSWER (R334). -/
def execRefusalAckAnswer (m : Nat) (s : State) : Out := .next ((evRefAckAns m s).getD s)

end Sys2Proof.Machine
end

