-- ==== Sys2Proof/Machine/Serve.lean ====
section
/-! DEFINITION. What a tile's shell does for others: proxy requests, group and barrier requests, posted operations,
probes, held accesses, line fills and page walks (04_context.md R94, 07_witness.md R143, R145, R412, 08_frame.md R172,
R173, R177, R181, 09_group.md R186, R187, 10_barrier.md R192, R196, R199, 05_scalar.md R101, 17_page.md R317 to R323,
19_tile.md R351). -/
namespace Sys2Proof.Machine

/-! ### Proxied accesses -/

/-- What the witness checks of a request find at its home (R94, R151). -/
inductive Ready where
  | yes
  | no
  /-- The owner must probe for the presented witness (R145). -/
  | ask
  /-- A poison witness or entry. -/
  | poison (w : Word)
deriving DecidableEq, Repr

/-- The context's own-store entry, then the presented witness (R94, R151, R157). -/
def State.requestReady (s : State) (t : Nat) (r : ProxyReq) : Ready :=
  match (if r.own = 0 then Check.satisfied else (s.tile t).checkPair r.own) with
  | .outstanding => .no
  | .poison => .poison r.own
  | .satisfied =>
    match s.checkAt (.tile t) r.wit with
    | .wait => .no
    | .probe => .ask
    | .poison => .poison r.wit
    | .satisfied => .yes

/-- The access-fault cause of a proxied operation (18_fault.md R327). -/
def ProxOp.accessCause : ProxOp → Nat
  | .load _ => 5
  | .ret _ _ _ => 5
  | _ => 7

/-- A read of one's own range by another partition needs the home's admission (17_page.md R320). -/
def State.admits (s : State) (t : Nat) (part : Option Nat) (rank off : Nat) : Bool :=
  s.partOf rank == part ||
  (s.tile t).box.admitRange.any fun (_, q, lo, hi) => some q == part && lo ≤ off && decide (off < hi)

/-- A reply to the requester. -/
def State.answer (s : State) (t : Nat) (ret : Ret) (r : ProxyReq) (v : ReplyVal) : State :=
  s.reply (.tile t) ret none (.proxyRep r.who r.own v)

/-- Held wait probes answered (R145): those of one record, with one answer. -/
def State.answerProbes (s : State) (t : Nat) (hit : HeldProbe → Bool) (ans : ProbeAns) : State :=
  let (h, rest) := (s.tile t).heldProbes.partition hit
  h.foldl (fun s q => s.reply (.tile t) (q.ret.since q.since s.clock) none (.probeAns q.who ans))
    (s.modTile t fun T => { T with heldProbes := rest })

/-- A group phase has completed: the wait probes held for the record are answered with pwit (R186). -/
def State.groupDone (s : State) (t off : Nat) (pwit : Word) : State :=
  s.answerProbes t (fun q => match q.key with
    | .group _ o _ _ => o == off
    | _ => false) (.value pwit)

/-- A barrier slot in space 0 has changed phase, err or life: the wait probes held for it that now have an answer are
answered (R196, R199). -/
def State.barrierDone (s : State) (t off : Nat) : State :=
  let k := s.readSlot (dramKey t off)
  let isOver (tok : Bool) : Bool := !k.live || k.err || k.phase != tok
  s.answerProbes t (fun q => match q.key with
    | .barrier _ o tok _ => o == off && isOver tok
    | _ => false) (if !k.live || k.err then .fault 48 else .satisfied)

/-- What a frame's count and fwit answer a TREAP (R181): none while fwit is outstanding. -/
def State.treapValue (s : State) (t : Nat) (fwit : Word) : Option Word :=
  if !witWf s.grade fwit then some 0x8000000000000000#64
  else
    match s.checkAt (.tile t) fwit with
    | .satisfied => some 0
    | .poison => some 0x8000000000000000#64
    | _ => none

/-- A request put into the probe buffer (R173, R181): a JOIN until its frame's count is 0, a TREAP until fwit is satisfied
(log 100, DEDUCED). -/
def State.holdProbe (s : State) (t : Nat) (ret : Ret) (r : ProxyReq) (key : ProbeKey) (join : Option Nat) (treap : Bool) : State :=
  s.modTile t fun T => { T with heldProbes := T.heldProbes ++ [⟨ret, s.clock, r.who, key, join, treap, r.own, r.ptr⟩] }

/-- A request at its perform instant (R94): its effect on memory, and its reply or the place where it is held. -/
def State.serve (s : State) (t : Nat) (ret : Ret) (r : ProxyReq) : State :=
  let key := dramKey t r.off
  let from_ := match ret.node with
    | .tile u => s.rankOf u
    | .bridge _ => 4095
  let mill := match r.who.agent with
    | .tile _ => false
    | .mill _ => true
  if !mill && !s.admits t r.part r.rank r.off then s.answer t ret r (.fault r.op.accessCause r.ptr)
  else if s.poison t r.off != 0 then s.answer t ret r (.fault 53 r.ptr)
  else
    match r.op with
    | .load n => s.answer t ret r (.value (BitVec.ofNat 64 (leNat (s.rdMem key n))))
    | .ret op v cmp =>
      let m := s.rdWord key
      (s.homeWrite t r.off from_ (wordBytes (op.apply m v cmp))).answer t ret r (.value m)
    | .join =>
      if s.rdWord key = 0 then s.answer t ret r (.value (s.rdWord (key + 8)))
      else s.holdProbe t ret r (.wit 0) (some r.off) false
    | .treap =>
      let count := s.rdWord key
      if count != 0 then s.answer t ret r (.value count)
      else
        let fwit := s.rdWord (key + 8)
        match s.treapValue t fwit with
        | some v => (s.dropAsk (.tile t) fwit).answer t ret r (.value v)
        | none => s.holdProbe t ret r (.wit fwit) none true
    | .tarm n =>
      let (dw, q) := counterStep (s.rdWord key) n true
      let s' := s.homeWrite t r.off from_ (wordBytes dw)
      (if q then s'.queueDesc t (descOf (s.rdWord (key + 8))) else s').answer t ret r (.value 0)
    | .group op w =>
      match groupStep s.grade (s.tickOf t) op w (s.readGroup key) with
      | none => s.answer t ret r (.fault 31 r.ptr)
      | some (g, v, done) =>
        let s := if op = .count then s else s.homeWrite t r.off from_ (wordsBytes g.words)
        let s := if done then s.groupDone t r.off g.pwit else s
        s.answer t ret r v
    | .barrier op =>
      match barrierStep false 0xFFF op (s.readSlot key) with
      | .trap cause => s.answer t ret r (.fault cause r.ptr)
      | .ok k v wake =>
        let s := match op with
          | .test _ => s
          | _ => s.homeWrite t r.off from_ (wordsBytes k.words)
        (if wake then s.barrierDone t r.off else s).answer t ret r (.value v)

/-- A request of the owner's buffer once its witnesses are satisfied (R94): served, held by the home, or answered with a fault;
none while it waits. It does not go ahead of held accesses that may perform (R412). -/
def State.serveBuffered (s : State) (t : Nat) (b : Buffered) : Option State :=
  let out (s : State) : State := s.modTile t fun T => { T with proxyBuf := T.proxyBuf.filter fun c => c.id != b.id }
  let ret := b.ret.since b.since s.clock
  match s.requestReady t b.req with
  | .no => none
  | .ask => s.ask (.tile t) b.req.wit
  | .poison w => some (((out s).dropAsk (.tile t) b.req.wit).answer t ret b.req (.fault 26 w))
  | .yes =>
    if s.holdsProxy t b.req then
      some ((out s).modTile t fun T => { T with held := T.held ++ [.proxy b.req ret s.clock] })
    else if s.heldAhead t none || s.placeless t b.req then none
    else some (((out s).dropAsk (.tile t) b.req.wit).serve t ret b.req)

/-- The tile whose buffer holds the request that a message brought. -/
def State.bufferOf (s : State) (m : Nat) : Option (Nat × Buffered) :=
  s.tiles.findSome? fun q => (q.2.proxyBuf.find? fun b => b.id == m).map fun b => (q.1, b)

/-- A request at its home (R94): it enters the buffer, which holds 16, and is served from there as soon as it may be; a
stand-in answers as for lost data (R351). -/
def State.takeRequest (s : State) (a : Arrived) (r : ProxyReq) : Option State :=
  if a.stand then some (s.answer a.at_ a.ret r (.fault 53 r.ptr))
  else if 16 ≤ (s.tile a.at_).proxyBuf.length then none
  else
    let b : Buffered := ⟨a.msg.id, r, a.ret, s.clock⟩
    let s := s.modTile a.at_ fun T => { T with proxyBuf := T.proxyBuf ++ [b] }
    some ((s.serveBuffered a.at_ b).getD s)

/-- A request of a kind, taken from the network or from the buffer. -/
def evRequest (kind : ProxOp → Bool) (m : Nat) (s : State) : Option State :=
  match s.bufferOf m with
  | some (t, b) => if kind b.req.op && (s.tile t).shellAlive then s.serveBuffered t b else none
  | none =>
    (s.arrive m).bind fun (a, s') =>
      match a.msg.body with
      | .proxyReq r => if kind r.op then s'.takeRequest a r else none
      | _ => none

def ProxOp.isGroup : ProxOp → Bool
  | .group _ _ => true
  | _ => false
def ProxOp.isBarrier : ProxOp → Bool
  | .barrier _ => true
  | _ => false

/-- PROXY_REQUEST (R94). -/
def execProxyRequest (m : Nat) (s : State) : Out :=
  .next ((evRequest (fun o => !o.isGroup && !o.isBarrier) m s).getD s)

/-- GROUP_REQUEST (R186). -/
def execGroupRequest (m : Nat) (s : State) : Out := .next ((evRequest ProxOp.isGroup m s).getD s)

/-- BARRIER_REQUEST (R192). -/
def execBarrierRequest (m : Nat) (s : State) : Out := .next ((evRequest ProxOp.isBarrier m s).getD s)

/-! ### Posted operations (R143, R172, R177) -/

/-- A posted operation refused by a stand-in (R351): the rank's counts go on (07_witness.md R143, R147), for its adopter. -/
def State.standRefuse (s : State) (t : Nat) (p : Posted) (ret : Ret) : State :=
  if p.src = 4095 then { s with bridgeOut := tdel s.bridgeOut p.jidx, bridgeRefused := s.bridgeRefused ++ [p.jidx] }
  else
    ((s.markRefused (keepTile p.rank) p.src p.seq p.jidx).settle (keepTile p.rank) p.src p.seq).reply (.tile t) ret (some p.src)
      (.refusal p.jidx 2 p.rank p.seq (BitVec.ofNat 64 (p.rank * 2 ^ 33 + p.off)) p.gtid p.acc)

/-- A bridge's store would pass an earlier one of the same bridge to the same rank (22_host.md R388). -/
def State.overtakes (s : State) (g : Msg) (p : Posted) : Bool :=
  p.src == 4095 && (match s.net.find? fun x => x.src == g.src && (match x.body with
      | .posted q => q.src == 4095 && q.rank == p.rank
      | _ => false) with
    | some x => x.id != g.id
    | none => false)

/-- A posted operation of a kind, next in its pair's sequence, at its home. -/
def evPosted (kind : PostOp → Bool) (m : Nat) (s : State) : Option State :=
  (s.arrive m).bind fun (a, s') =>
    match a.msg.body with
    | .posted p =>
      if !kind p.op then none
      else if a.stand then (if s'.inSequence a.holder p then some (s'.standRefuse a.at_ p a.ret) else none)
      else if s'.inSequence a.at_ p && !s.overtakes a.msg p && !s'.heldAhead a.at_ none then
        some (s'.arrivePosted a.at_ p a.ret)
      else none
    | _ => none

def PostOp.isTdec : PostOp → Bool
  | .tdec => true
  | _ => false
def PostOp.isExit : PostOp → Bool
  | .frameExit _ => true
  | _ => false

/-- POSTED_STORE_ARRIVAL (R143). -/
def execPostedStoreArrival (m : Nat) (s : State) : Out :=
  .next ((evPosted (fun o => !o.isTdec && !o.isExit) m s).getD s)

/-- TDEC_ARRIVAL (R177). -/
def execTdecArrival (m : Nat) (s : State) : Out := .next ((evPosted PostOp.isTdec m s).getD s)

/-- FRAME_EXIT_ARRIVAL (R172). -/
def execFrameExitArrival (m : Nat) (s : State) : Out := .next ((evPosted PostOp.isExit m s).getD s)

/-! ### Held accesses (R412) -/

/-- The first held access that may perform does, while the shell lives (19_tile.md R413); one that its reader makes again is
not performed here. -/
def evHeld (t : Nat) (s : State) : Option State :=
  if !(s.tile t).shellAlive then none
  else
    match s.firstHeld t with
    | some (i, .posted p ret since) =>
      some ((s.modTile t fun T => { T with held := T.held.eraseIdx i }).performPosted t p (ret.since since s.clock))
    | some (i, .proxy r ret since) =>
      some ((s.modTile t fun T => { T with held := T.held.eraseIdx i }).serve t (ret.since since s.clock) r)
    | _ => none

/-- HELD_ACCESS_PERFORM (R412). -/
def execHeldAccessPerform (t : Nat) (s : State) : Out := .next ((evHeld t s).getD s)

/-! ### Probes (R145, R189, R196) -/

/-- What stands in the way of a probe of a record in a home's memory (log 43, DEDUCED): a partition that is not admitted, or
a marked range. -/
def State.probeFault (s : State) (t rank off : Nat) (part : Option Nat) : Option ProbeAns :=
  if !s.admits t part rank off then some (.fault 7)
  else if s.poison t off != 0 then some (.fault 53)
  else none

/-- What a shell answers a probe's key now; none while it must wait (log 43, DEDUCED). -/
def State.probeNow (s : State) (t : Nat) (key : ProbeKey) : Option ProbeAns :=
  match key with
  | .wit w =>
    match (s.tile t).checkPair w with
    | .satisfied => some .satisfied
    | .poison => some .poison
    | .outstanding => none
  | .group rank off phase part =>
    match s.probeFault t rank off part with
    | some f => some f
    | none =>
      let g := s.readGroup (dramKey t off)
      if s.awaiting t off then none else if g.phase != phase then some (.value g.pwit) else none
  | .barrier rank off tok part =>
    match s.probeFault t rank off part with
    | some f => some f
    | none =>
      let k := s.readSlot (dramKey t off)
      if s.awaiting t off then none
      else if !k.live || k.err then some (.fault 48)
      else if k.phase != tok then some .satisfied
      else none

/-- A wait probe at the shell that holds the record: answered when it has an answer, held otherwise; the buffer holds
32 (R145). A stand-in answers poison (R351). -/
def evWaitProbe (m : Nat) (s : State) : Option State :=
  (s.arrive m).bind fun (a, s') =>
    match a.msg.body with
    | .probe who key true =>
      if a.stand then some (s'.reply (.tile a.at_) a.ret none (.probeAns who .poison))
      else
        match s'.probeNow a.at_ key with
        | some ans => some (s'.reply (.tile a.at_) a.ret none (.probeAns who ans))
        | none =>
          if 32 ≤ (s'.tile a.at_).heldProbes.length then none
          else some (s'.modTile a.at_ fun T =>
            { T with heldProbes := T.heldProbes ++ [⟨a.ret, s'.clock, who, key, none, false, 0, 0⟩] })
    | _ => none

/-- WAIT_PROBE (R145). -/
def execWaitProbe (m : Nat) (s : State) : Out := .next ((evWaitProbe m s).getD s)

/-- A test probe is answered at once. -/
def evTestProbe (m : Nat) (s : State) : Option State :=
  (s.arrive m).bind fun (a, s') =>
    match a.msg.body with
    | .probe who key false =>
      let ans := if a.stand then .poison else (s'.probeNow a.at_ key).getD .outstanding
      some (s'.reply (.tile a.at_) a.ret none (.probeAns who ans))
    | _ => none

/-- TEST_PROBE (R145). -/
def execTestProbe (m : Nat) (s : State) : Out := .next ((evTestProbe m s).getD s)

/-- The answer of a held probe, if its condition holds. -/
def State.heldAnswer (s : State) (t : Nat) (h : HeldProbe) : Option Body :=
  match h.join, h.treap, h.key with
  | some _, _, _ => none
  | none, true, .wit fwit => (s.treapValue t fwit).map fun v => .proxyRep h.who h.own (.value v)
  | none, _, key => (s.probeNow t key).map fun a => .probeAns h.who a

/-- The witness that a shell must probe for to answer a held TREAP (R181). -/
def State.heldAsk (s : State) (t : Nat) (h : HeldProbe) : Option Word :=
  match h.treap, h.key with
  | true, .wit fwit => if s.checkAt (.tile t) fwit == .probe then some fwit else none
  | _, _ => none

/-- A held probe whose witness, phase or slot condition is met is answered, while the shell lives (19_tile.md R413); or the
probe that a held TREAP needs is sent. -/
def evProbeHeld (t : Nat) (s : State) : Option State :=
  let hs := (s.tile t).heldProbes
  if !(s.tile t).shellAlive then none
  else
    match (List.range hs.length).find? fun i => ((hs[i]?.bind (s.heldAnswer t)).isSome) with
    | some i =>
      (hs[i]?).bind fun h => (s.heldAnswer t h).map fun b =>
        let s := match h.treap, h.key with
          | true, .wit fwit => s.dropAsk (.tile t) fwit
          | _, _ => s
        (s.modTile t fun T => { T with heldProbes := T.heldProbes.eraseIdx i }).reply (.tile t) (h.ret.since h.since s.clock) none b
    | none => (hs.findSome? (s.heldAsk t)).bind (s.ask (.tile t))

/-- WAIT_PROBE_ANSWER (R145). -/
def execWaitProbeAnswer (t : Nat) (s : State) : Out := .next ((evProbeHeld t s).getD s)

/-! ### Line fills (R101) -/

/-- The lines the home cache of a tile holds (01_wafer.md R16). -/
def cacheLines : Nat := 2 ^ 16

/-- A fill completes; when the cache is full, the line that leaves is free (log 2, DESIGN CHOICE), but none that is pinned
(12_matrix.md R239). -/
def evFill (t : Nat) (s : State) : Option State :=
  match (s.tile t).fills with
  | [] => none
  | l :: r =>
    let (v, s) := s.free
    let lines := (s.tile t).lines
    let loose := lines.filter fun x => !(s.tile t).pins.contains x
    let lines := if lines.length < cacheLines then lines else lines.erase (loose.getD (v % loose.length) 0)
    some (s.modTile t fun T => { T with fills := r, lines := l :: lines.filter (· != l) })

/-- CACHE_FILL (R101). -/
def execCacheFill (t : Nat) (s : State) : Out := .next ((evFill t s).getD s)

/-! ### Page walks (R317, R318, R322) -/

/-- An entry's index in the table of a level (R317). -/
def walkIndex (level va : Nat) (host : Bool) : Nat :=
  match level with
  | 3 => (if host then 8192 else 0) + va / 2 ^ 39 % 8192
  | 2 => va / 2 ^ 30 % 512
  | 1 => va / 2 ^ 21 % 512
  | _ => va / 2 ^ 16 % 32

/-- The size of a table of a level in bytes (R317). -/
def tableSize (level : Nat) : Nat :=
  match level with
  | 3 => 2 ^ 17
  | 2 => 2 ^ 12
  | 1 => 2 ^ 12
  | _ => 2 ^ 8

/-- log2 of what a leaf of a level maps (R317). -/
def leafSize (level : Nat) : Nat :=
  match level with
  | 2 => 30
  | 1 => 21
  | _ => 16

/-- What an entry says (R318, R322): go on to a table, a leaf, a page fault or an access fault. -/
inductive Entry where
  | next (table : Nat)
  | leaf
  | pageFault
  | accessFault
deriving DecidableEq, Repr

/-- An entry of a level read for a page (R318, R322). -/
def readEntry (grade level : Nat) (host : Bool) (e : Word) : Entry :=
  let xwr := fld e 3 1
  if !bit e 0 then .pageFault
  else if xwr = 0 then
    let next := fld e 44 8 * 256
    if fld e 63 45 != 0 || fld e 7 4 != 0 || level = 0 || next % tableSize (level - 1) != 0 then .pageFault
    else if grade ≤ next / 2 ^ 33 then .accessFault
    else .next next
  else
    let ppn := fld e 51 16
    let rep := bit e 8
    if xwr = 2 || xwr = 6 || level = 3 || fld e 63 52 != 0 || fld e 15 10 != 0 || bit e 6 || bit e 4 ||
       ppn % 2 ^ (leafSize level - 16) != 0 then .pageFault
    else if host then (if rep || bit e 9 then .pageFault else .leaf)
    else if ppn / 2 ^ 29 != 0 || grade ≤ ppn / 2 ^ 17 then .pageFault
    else if rep && ppn / 2 ^ 17 != 0 then .pageFault
    else .leaf

/-- A walk ended: it leaves the field, and its waiters learn the outcome (R321, R322); one that an SFENCE.VMA has overtaken
teaches nothing, and its waiters walk again (R325). -/
def State.endWalk (s : State) (f : Nat) (w : Walk) (res : Option TlbEntry) (access : Bool) : State :=
  let s := s.modField f fun F => { F with walks := F.walks.filter (· != w) }
  if w.stale then s else
  match res with
  | some e =>
    w.waiters.foldl (fun s x => s.modTile x.1 fun T => T.fillTlb e) (s.modField f fun F => F.fillTlb e)
  | none => w.waiters.foldl (fun s x =>
      if x.2 = askSlot then s.modTile x.1 fun T => { T with engFaults := T.engFaults ++ [(w.va, w.host, access)] }
      else s.modCtx (.tile x.1) x.2 fun c => { c with walkFault := some (w.va, access) }) s

/-- One entry read of the i-th walk of a field (R322). -/
def evWalk (f i : Nat) (s : State) : Option State :=
  (s.field f).walks[i]?.bind fun w =>
    let rank := w.table / 2 ^ 33
    if s.grade ≤ rank then some (s.endWalk f w none true)
    else
      match s.homeOf rank with
      | none => if (tget s.standIn rank).isSome then some (s.endWalk f w none true) else none
      | some t =>
        let off := w.table % 2 ^ 33 + 8 * walkIndex w.level w.va w.host
        match s.atHome t off (.walk f w.va w.host w.asid) with
        | .wait => none
        | .held s => some s
        | .go s =>
          if s.poison t off != 0 then some (s.endWalk f w none true)
          else
            let e := s.rdWord (dramKey t off)
            match readEntry s.grade w.level w.host e with
            | .pageFault => some (s.endWalk f w none false)
            | .accessFault => some (s.endWalk f w none true)
            | .leaf =>
              let size := leafSize w.level
              some (s.endWalk f w (some ⟨w.va / 2 ^ size * 2 ^ size, size, w.host, w.asid, e⟩) false)
            | .next table =>
              some (s.modField f fun F =>
                { F with walks := F.walks.map fun v => if v = w then { w with level := w.level - 1, table := table } else v })

/-- WALK_COMPLETE (R322): the walk's next entry read; the last one ends it (log 20, DESIGN CHOICE). -/
def execWalkComplete (f i : Nat) (s : State) : Out := .next ((evWalk f i s).getD s)

/-- Whether a whole walk meets a table that its home cannot give yet: a range that is not copied (19_tile.md R350), or a held access
that goes first (07_witness.md R412). -/
def State.walkWaits (s : State) (satp : Word) (host : Bool) (va : Nat) : Nat → Nat → Nat → Bool
  | 0, _, _ => false
  | k + 1, level, table =>
    let rank := table / 2 ^ 33
    match (if s.grade ≤ rank then none else s.homeOf rank) with
    | none => false
    | some t =>
      let off := table % 2 ^ 33 + 8 * walkIndex level va host
      !(s.tile t).shellAlive || s.awaiting t off || s.heldAhead t none ||
      (s.poison t off == 0 && (match readEntry s.grade level host (s.rdWord (dramKey t off)) with
        | .next t' => State.walkWaits s satp host va k (level - 1) t'
        | _ => false))

/-- A whole walk of a window, a bridge or the mill, which have no TLB, in one instant (14_kernel.md R288, 20_link.md R363; log 20, DESIGN CHOICE):
the leaf's entry, or whether the fault is an access fault. -/
def State.walkNow (s : State) (satp : Word) (host : Bool) (va : Nat) : Nat → Nat → Nat → Except Bool TlbEntry
  | 0, _, _ => .error true
  | k + 1, level, table =>
    let rank := table / 2 ^ 33
    match (if s.grade ≤ rank then none else s.homeOf rank) with
    | none => .error true
    | some t =>
      let off := table % 2 ^ 33 + 8 * walkIndex level va host
      if s.poison t off != 0 then .error true
      else
        let e := s.rdWord (dramKey t off)
        match readEntry s.grade level host e with
        | .pageFault => .error false
        | .accessFault => .error true
        | .leaf =>
          let size := leafSize level
          .ok ⟨va / 2 ^ size * 2 ^ size, size, host, fld satp 59 44, e⟩
        | .next t' => State.walkNow s satp host va k (level - 1) t'

end Sys2Proof.Machine
end

