-- ==== Sys2Proof/Machine/Motion.lean ====
section
/-! DEFINITION. Contexts that begin, leave, travel, arrive and wait (04_context.md R84 to R96, 07_witness.md R151,
11_stream.md R212, 08_frame.md R170, R177). -/
namespace Sys2Proof.Machine

/-! ### Beginning -/

/-- A new kind 0 GTID (R85): a run-list start names the slot it starts in (log 21, DEDUCED). -/
def State.newGtid (s : State) (t c : Nat) : Word × State :=
  let rank := s.rankOf t
  let n := tgetD (s.tile t).created c 0
  (BitVec.ofNat 64 ((s.partOf rank).getD 0 * 2 ^ 60 + rank * 2 ^ 47 + c * 2 ^ 43 + n),
   s.modTile t fun T => { T with created := tput T.created c ((n + 1) % 2 ^ 43) })

/-- A new context's registers (R86). -/
def Thread.fresh (gtid pc : Word) (pth : Nat) : Thread := { Thread.reset with gtid := gtid, pc := pc, pth := pth }

def Thread.setX (h : Thread) (r : Nat) (v : Word) : Thread := if q : r < 32 then { h with x := h.x.set r v } else h

/-- A slot freed (R84): its class counts on the tile are discarded (07_witness.md R152). -/
def State.vacate (s : State) (t c : Nat) : State :=
  s.modTile t fun T =>
    { T.setSlot c Ctx.free with journal := T.journal.map fun e => if e.slot = some c then { e with slot := none } else e }

/-- A context put into a slot: the slot holds nothing else (R88). -/
def State.seat (s : State) (t c : Nat) (h : Thread) (st : CState) : State :=
  (s.vacate t c).modTile t fun T => T.setSlot c { Ctx.free with th := h, st := st }

/-- Whether a light slot is free (R84, 08_frame.md R175). -/
def Tile.freeSlot (T : Tile) (c : Nat) : Bool := c != 0 && (T.slot c).st == .free && !(T.slot c).reserved

/-- The lowest free light slot. -/
def Tile.lowestSlot (T : Tile) : Option Nat := ((List.range 16).drop 1).find? fun c => T.freeSlot c

/-- Whether a tile's core runs: alive, and its tile in service (19_tile.md R344, R349). -/
def Tile.runs (T : Tile) : Bool :=
  T.coreAlive && (match T.life with
    | .ranked | .adopted | .suspect | .spare => true
    | _ => false)

/-- A free light slot given to what waits first: the arrival queue's head, then the run list (R84, R177). While
PREEMPT is under way nothing is assigned (R339). -/
def evAssign (t c : Nat) (s : State) : Option State :=
  let T := s.tile t
  if !(T.runs && (T.slot 0).stage != .preempt && T.freeSlot c) then none
  else
    match T.arrivals, T.runList with
    | q :: r, _ =>
      let s := s.modTile t fun T => { T with arrivals := r }
      some ((s.seat t c q.th (if q.yielded then .ready else .admitted)).modCtx (.tile t) c fun x =>
        { x with inherited := q.inherited, carried := q.carried })
    | [], d :: r =>
      let s := s.modTile t fun T => { T with runList := r }
      let (g, s) := s.newGtid t c
      let h := (Thread.fresh g (d.pc &&& ~~~3#64) T.pth0).setX 10 (BitVec.ofNat 64 d.tag)
      some (s.seat t c h .ready)
    | [], [] => none

/-- SLOT_ASSIGN (R84). -/
def execSlotAssign (t c : Nat) (s : State) : Out := .next ((evAssign t c s).getD s)

/-! ### The end of a context's ties (R172, R182, 11_stream.md R226, 13_channel.md R261) -/

/-- The pending completion interrupts of a GTID discarded; its transfers raise none (13_channel.md R261). -/
def Tile.dropIrqs (T : Tile) (g : Word) : Tile :=
  let off (x : Xfer) : Xfer := if x.who.gtid == g then { x with irq := false } else x
  { T with copyIrqs := T.copyIrqs.filter fun q => q.gtid != g,
           copyQueue := T.copyQueue.map off, copyRun := T.copyRun.map off }

/-- The furrow port of a GTID unbound, its queues discarded (11_stream.md R226). -/
def Tile.unbindPort (T : Tile) (g : Word) : Tile :=
  match T.port with
  | some P => if P.gtid == g then { T with port := none } else T
  | none => T

/-- Whether the outbound queue of a furrow-bound context is empty, as EXIT and UNFURROW wait for (R226). -/
def State.portDrained (s : State) (t c : Nat) : Bool :=
  !((s.tile t).slot c).th.furrow ||
  (match (s.tile t).port with
   | some P => P.outq.isEmpty
   | none => true)

/-! ### Leaving (R61, R91, R96, R212) -/

/-- A context without its streams: bound registers hold +0, VSTAT is clear (R204, R212, R221). -/
def Ctx.unbindAll (c : Ctx) : Ctx :=
  let clear (x : Ctx) (r : FReg) : Ctx := if x.bound r then (x.setF r 0).setStream r Stream.unbound else x
  let c := [4#3, 5#3, 6#3, 7#3].foldl clear c
  { c with vdone := 0, vstatus := 0, vpend := false }

/-- The streams of a slot's context drained and freed (R212). -/
def State.endStreams (s : State) (t c : Nat) : State :=
  (s.drainSlot t c).modCtx (.tile t) c Ctx.unbindAll

/-- What a departure does to the bounce count (R96 steps 3 and 4), and whether the context is pinned by it. A count of 7
rises no further (log 101, DESIGN CHOICE). -/
def Thread.bounced (h : Thread) : Thread × Bool :=
  if 16 ≤ h.run then (h, false)
  else if h.bounce + 1 = h.pth then ({ h with pinned := true, pcount := 256, bounce := 0 }, true)
  else ({ h with bounce := min 7 (h.bounce + 1) }, false)

/-- The packet sent to the rank the context goes to (R89, R91, R95). -/
def State.sendPacket (s : State) (t c : Nat) : State :=
  let x := (s.tile t).slot c
  let d := (s.mapOf t x.target).getD t
  (s.modCtx (.tile t) c fun x => { x with st := .inFlight, backoff := none }).send (.tile t) (.tile d) (some x.target) 0
    (.migrate x.th c x.forwarded x.carried)

/-- UNFURROW's effect on a context that leaves (11_stream.md R226). -/
def State.unfurrow (s : State) (t c : Nat) : State :=
  let x := (s.tile t).slot c
  if x.th.furrow then
    (s.modTile t fun T => T.unbindPort x.th.gtid).modCtx (.tile t) c fun x =>
      { x with th := { x.th with furrow := false, x := x.th.x.set 15 0 } }
  else s

/-- A departing context whose registers are full is packed and sent, or is pinned by its bounce count and stays; one
that is forwarded leaves its furrow first (R226). While slot 0 stands in PREEMPT nothing leaves: what has not left is spilled
(R98, 18_fault.md R339). -/
def evDeparture (t c : Nat) (s : State) : Option State :=
  let x := (s.tile t).slot c
  if x.st != .departing || ((s.tile t).slot 0).stage == .preempt || !x.packable || !s.portDrained t c then none
  else
    let (h, pin) := if x.explicit then (x.th, false) else x.th.bounced
    if pin then some (s.modCtx (.tile t) c fun x => { x with th := h, st := .ready, carried := none })
    else
      let s := s.modCtx (.tile t) c fun x => { x with th := h }
      some (((s.endStreams t c).unfurrow t c).sendPacket t c)

/-- DEPARTURE (R91). -/
def execDeparture (t c : Nat) (s : State) : Out := .next ((evDeparture t c s).getD s)

/-! ### Arriving (R91, R92, R95) -/

/-- A packet at its destination: accepted while the queue holds fewer packets than its depth and the gate is open, else
refused; a stand-in refuses (19_tile.md R351). -/
def evArrival (m : Nat) (s : State) : Option State :=
  (s.arrive m).bind fun (a, s') =>
    match a.msg.body with
    | .migrate th slot _ carried =>
      let T := s'.tile a.at_
      let accept := !a.stand && T.gate && decide (T.arrivals.length < T.adepth)
      let s1 := if accept then s'.modTile a.at_ fun T =>
          { T with arrivals := T.arrivals ++ [⟨{ th with refuse := 0 }, false, false, carried⟩] } else s'
      some (s1.reply (.tile a.at_) a.ret none (.notice slot accept))
    | _ => none

/-- MIGRATION_ARRIVAL (R91). -/
def execMigrationArrival (m : Nat) (s : State) : Out := .next ((evArrival m s).getD s)

/-- An acceptance at the source frees the slot (R88). -/
def evAccepted (m : Nat) (s : State) : Option State :=
  (s.arrive m).bind fun (a, s') =>
    match a.msg.body with
    | .notice c true =>
      let x := (s'.tile a.at_).slot c
      if x.st != .inFlight then some s'
      else some ((s'.addDelay a.at_ x.macc a.delay).vacate a.at_ c)
    | _ => none

/-- ACCEPTANCE_NOTICE (R88). -/
def execAcceptanceNotice (m : Nat) (s : State) : Out := .next ((evAccepted m s).getD s)

/-- The back-off after the n-th refusal (R93). -/
def backoffOf (n : Nat) : Nat := 64 * 2 ^ min n 4

/-- A refusal at the source (R88, R93, R332): the back-off starts, or at the eighth refusal the access is proxied. A
context that was killed in flight ends here (R182) (log 42, DEDUCED). -/
def evRefused (m : Nat) (s : State) : Option State :=
  (s.arrive m).bind fun (a, s') =>
    match a.msg.body with
    | .notice c false =>
      let T := s'.tile a.at_
      let x := T.slot c
      if x.st != .inFlight then some s'
      else if x.killed then some (s'.vacate a.at_ c)
      else
        let n := min 8 (x.th.refuse + 1)
        if n = 8 && !x.forwarded then
          some ((s'.addDelay a.at_ x.macc a.delay).modCtx (.tile a.at_) c fun x =>
            { x with th := { x.th with refuse := 0 }, st := .ready, carried := none, proxyNext := true })
        else
          let b := backoffOf n
          some ((s'.addDelay a.at_ x.macc (a.delay + b)).modCtx (.tile a.at_) c fun x =>
            { x with th := { x.th with refuse := n }, st := .refused, backoff := some (T.cycles + b) })
    | _ => none

/-- REFUSAL_NOTICE (R93). -/
def execRefusalNotice (m : Nat) (s : State) : Out := .next ((evRefused m s).getD s)

/-- The back-off has run out: the packet is sent again; not while slot 0 stands in PREEMPT (18_fault.md R339). -/
def evBackoff (t c : Nat) (s : State) : Option State :=
  let T := s.tile t
  match (T.slot c).st, (T.slot c).backoff with
  | .refused, some due =>
    if due ≤ T.cycles && (T.slot 0).stage != .preempt then some (s.sendPacket t c) else none
  | _, _ => none

/-- BACKOFF_EXPIRY (R93). -/
def execBackoffExpiry (t c : Nat) (s : State) : Out := .next ((evBackoff t c s).getD s)

/-- The arrival check (R91 step 5, R142, R151): a malformed table and a poison entry trap before the migrating
instruction performs; once the entries naming this rank and the overflow are satisfied they leave the table, and the
context is ready with run 0. -/
def evArrivalCheck (t c : Nat) (s : State) : Option State :=
  let x := (s.tile t).slot c
  if x.st != .admitted then none
  else
    let a := Agent.tile t
    match x.th.ownBad s.grade with
    | some w => some (s.trapSlot a c true 25 w x.th.pc)
    | none =>
      let h := x.th.ownCompact
      let here := h.ownList.filter fun e => witDst e == s.rankOf t
      match here.find? fun e => (s.tile t).checkPair e == .poison with
      | some e => some ((s.modCtx a c fun x => { x with th := h }).trapSlot a c true 26 e x.th.pc)
      | none =>
        if here.all (fun e => (s.tile t).checkPair e == .satisfied) && s.checkOn t h.ownOver == some .satisfied then
          let own := packOwn (h.ownList.filter fun e => witDst e != s.rankOf t)
          some (s.modCtx a c fun x =>
            { x with th := { h with own := own, ownOver := 0, run := 0 }, st := .ready })
        else none

/-- ARRIVAL_CHECK (R151). -/
def execArrivalCheck (t c : Nat) (s : State) : Out := .next ((evArrivalCheck t c s).getD s)

/-! ### Map entries (R95, 19_tile.md R350) -/

/-- What a tile has sent towards a tile's coordinate and not seen accepted, refused or settled (R350). -/
def State.sentTo (s : State) (t rank old : Nat) : Former :=
  ⟨(s.net.filter fun m => m.src == .tile t && m.dst == .tile old).map (·.id),
   ((s.tile t).journal.filter fun e => e.dst == .rank rank).map fun e => (e.idx, e.seq),
   ((s.tile t).slots.toList.filter fun c => c.st == .inFlight && c.target == rank).map (·.th.gtid)⟩

/-- A rank's new tile entered in a tile's map; the generation becomes the larger, and what the tile has sent to the old one goes
before what it sends to the new one (R350). -/
def State.learn (s : State) (t rank d gen : Nat) : State :=
  let s1 := s.modTile t fun T => { T with moved := tput T.moved rank d, mapGen := max T.mapGen gen }
  match s.mapOf t rank with
  | some old => if old = d then s1 else s1.modTile t fun T => { T with former := tput T.former d (s.sentTo t rank old) }
  | none => s1

/-- An owner-moved notice at a sender. -/
def evOwnerMoved (m : Nat) (s : State) : Option State :=
  (s.arrive m).bind fun (a, s') =>
    match a.msg.body with
    | .ownerMoved rank d gen => some (s'.learn a.at_ rank d gen)
    | _ => none

/-- OWNER_MOVED_NOTICE (R95). -/
def execOwnerMovedNotice (m : Nat) (s : State) : Out := .next ((evOwnerMoved m s).getD s)

/-- The mill's new entry at a tile. -/
def evMapEntry (m : Nat) (s : State) : Option State :=
  (s.arrive m).bind fun (a, s') =>
    match a.msg.body with
    | .mapEntry rank d gen => some (s'.learn a.at_ rank d gen)
    | _ => none

/-- MAP_ENTRY_UPDATE (R350). -/
def execMapEntryUpdate (m : Nat) (s : State) : Out := .next ((evMapEntry m s).getD s)

end Sys2Proof.Machine
end

