-- ==== Sys2Proof/Machine/Frames.lean ====
section
/-! DEFINITION. Frames, the deque, task counters, slot 0's thread control and stealing (08_frame.md R168 to R182). -/
namespace Sys2Proof.Machine

/-! ### The deque (R169, R170) -/

/-- The key of the i-th entry from the top, the oldest (log 9, DESIGN CHOICE). -/
def Tile.dqKey (T : Tile) (t i : Nat) : Nat := spadKey t (32 * ((T.dqTop + i) % 64))

/-- The four doublewords of a deque entry. -/
def State.dqRead (s : State) (t i : Nat) : List Word :=
  let k := (s.tile t).dqKey t i
  [s.rdWord k, s.rdWord (k + 8), s.rdWord (k + 16), s.rdWord (k + 24)]

/-- An entry pushed at the bottom. -/
def State.dqPush (s : State) (t : Nat) (e : List Word) : State :=
  let T := s.tile t
  (s.wrMem (T.dqKey t T.dqCount) (wordsBytes e)).modTile t fun T => { T with dqCount := T.dqCount + 1 }

/-- The bottom entry, popped. -/
def State.dqPop (s : State) (t : Nat) : List Word × State :=
  let n := (s.tile t).dqCount - 1
  (s.dqRead t n, s.modTile t fun T => { T with dqCount := n })

/-- The top entry, taken by a thief. -/
def State.dqTake (s : State) (t : Nat) : List Word × State :=
  (s.dqRead t 0, s.modTile t fun T => { T with dqTop := (T.dqTop + 1) % 64, dqCount := T.dqCount - 1 })

/-- A continuation resumed in a slot (R170): a malformed witness traps before its first instruction. -/
def State.resumeEntry (s : State) (t c : Nat) (e : List Word) (stolen : Nat) : State :=
  let e0 := e.getD 0 0
  let wit := e.getD 3 0
  let pc : Word := BitVec.ofNat 64 (fld e0 51 0)
  let h := ((Thread.fresh (e.getD 2 0) pc (s.tile t).pth0).setX 10 (e.getD 1 0)).setX 11 (BitVec.ofNat 64 stolen)
  let h := { h with fcsr := e0.extractLsb' 56 8 }
  if witKind wit = 3 || !witWf s.grade wit then (s.seat t c h .ready).trapSlot (.tile t) c false 25 wit pc
  else
    let h := match witKind wit with
      | 1 => { h with own := packOwn [wit] }
      | 2 => { h with ownOver := wit }
      | _ => h
    (s.seat t c h .ready).modCtx (.tile t) c fun x => { x with inherited := true }

/-! ### SPAWN, EXIT (R171, R172) -/

/-- A pointer of an instruction that takes only some spaces: the check of its own chapter comes before those of the access
(18_fault.md R328 items 5 and 6). A mill core's pointer is a capability. -/
def State.inSpace (s : State) (spaces : List Nat) (p : Word) : Bool :=
  match s.focus with
  | .tile _ => spaces.contains (ptrSpace p)
  | .mill _ => true

/-- A frame pointer's checks (R168): space 0, alignment, translation. -/
def State.withFrame (s : State) (k : AKind) (base : XReg) (p : Word) (go : Loc → State → State) : State :=
  if !s.inSpace [0] p then s.trap 7 p
  else
    s.withBase k 16 base p fun l s =>
      match l with
      | .dram _ _ _ _ => go l s
      | _ => s.trap 7 p

/-- The registers a child begins with (R171); its PC's bits 1:0 are clear (log 54, DEDUCED). -/
def childOf (parent : Thread) (gtid entry fp wit : Word) (pth : Nat) : Thread :=
  let h := Thread.fresh gtid (entry &&& ~~~3#64) pth
  let h := ((h.setX 2 parent.x[2]).setX 10 fp).setX 11 wit
  let h := (((h.setX 12 parent.x[12]).setX 13 parent.x[13]).setX 14 parent.x[14]).setX 15 parent.x[15]
  { h with fcsr := parent.fcsr }

/-- The continuation pushed and the child put in the parent's slot (R171); the parent's streams end (log 22, DEDUCED). -/
def State.fork (s : State) (entry fp : Word) : State :=
  let t := s.curTile
  let c := s.curSlot
  let s := s.endStreams t c
  let h := s.cur.th
  let wit := h.wself s.tick
  let e0 : Word := BitVec.ofNat 64 (h.fcsr.toNat * 2 ^ 56 + fld (h.pc + 4) 51 0)
  let s := s.dqPush t [e0, fp, h.gtid, wit]
  let (g, s) := s.newGtid t c
  s.seat t c (childOf h g entry fp wit (s.tile t).pth0) .ready

/-- The free light slots that no source of R84 claims: each packet of the arrival queue and each descriptor of the run list
claims one of the lowest (log 102, DEDUCED). -/
def Tile.unclaimed (T : Tile) : List Nat :=
  (((List.range 16).drop 1).filter fun c => T.freeSlot c).drop (T.arrivals.length + T.runList.length)

/-- A child of slot 0 started in a free light slot; slot 0 waits until one exists (R171). -/
def State.forkZero (s : State) (entry fp wit : Word) : State :=
  let t := s.curTile
  let T := s.tile t
  match T.unclaimed.head? with
  | none => s.modCur fun c => { c with stage := .spawnWait wit, st := .ready }
  | some d =>
    let h := s.cur.th
    let (g, s) := s.newGtid t 0
    (s.seat t d (childOf h g entry fp wit T.pth0) .ready).retire

/-- SPAWN (R171). -/
def execSpawn (rs1 rs2 : XReg) (s : State) : Out :=
  issue (.spawn rs1 rs2) s fun s =>
    let entry := s.x1 rs1
    let fp := s.x2 rs1 rs2
    match s.cur.stage with
    | .spawnWait wit => s.forkZero entry fp wit
    | _ =>
      s.withFrame akStore rs2 fp fun l s =>
        s.notContained (.spawn rs1 rs2) fun s =>
          if !s.cur.packable then s.park .full
          else if s.full then s.doPost 0 (.atomic .add 1) l fun s => s.forkZero entry fp (s.cur.th.wself s.tick)
          else if 64 ≤ s.curT.dqCount then s.trap 51 fp
          else s.doPost 0 (.atomic .add 1) l fun s => s.fork entry fp

/-- The containment of a frame exit (14_kernel.md R275): a task block's frame is not checked. -/
def State.exitContained (s : State) (l : Loc) (fp : Word) (go : State → State) : State :=
  match s.kernelOf with
  | none => go s
  | some (p, _) => if s.taskFrame p fp then go s else s.contained l 16 fp go

/-- The context has exited (R88, R172): its slot resumes the bottom of the deque or is free. -/
def State.leave (s : State) : State :=
  let t := s.curTile
  let c := s.curSlot
  let g := s.cur.th.gtid
  let s := (s.modTile t fun T => (T.dropIrqs g).unbindPort g).vacate t c
  if 0 < (s.tile t).dqCount then
    let (e, s) := s.dqPop t
    s.resumeEntry t c e 0
  else s

/-- EXIT (R172): its streams end and it leaves its furrow first (11_stream.md R212, R226), once a frame exit has a free journal
entry (05_scalar.md R109); slot 0 keeps its slot. -/
def execExit (rs1 : XReg) (s : State) : Out :=
  issue (.exit rs1) s fun s =>
    let fp := s.x1 rs1
    let finish (s : State) : State := if s.full then s.retire else s.leave
    let ready (posts : Bool) (s : State) (go : State → State) : State :=
      if !s.cur.packable then s.park .full
      else if !s.portDrained s.curTile s.curSlot then s.forfeit
      else if posts && !s.curT.journalRoom then s.park .journal
      else go ((s.endStreams s.curTile s.curSlot).unfurrow s.curTile s.curSlot)
    if rs1 = 0 then ready false s finish
    else
      s.withFrame akStore rs1 fp fun l s =>
        s.exitContained l fp fun s =>
          ready true s fun s => s.doPost 0 (.frameExit (s.cur.th.wself s.tick)) l finish

/-! ### JOIN, TREAP (R173, R181) -/

/-- JOIN's last wait: for fwit (R173 steps 3 and 4). -/
def State.joinFinish (s : State) (fwit : Word) : State :=
  let s := s.modCur fun c => { c with stage := .joinWit fwit }
  s.validWit fwit fun s => s.awaitWit fwit fwit State.retire

/-- JOIN at its frame's home (R173 step 2). -/
def State.joinHere (s : State) (p : Word) (off : Nat) : State :=
  let t := s.curTile
  let key := dramKey t off
  if s.poison t off != 0 then s.trap 53 p
  else
    match s.atHome t off (s.focus.reader s.curSlot) with
    | .held s => s.park (.held off)
    | .wait => s.forfeit
    | .go s =>
      if s.rdWord key = 0 then s.joinFinish (s.rdWord (key + 8))
      else (s.modCur fun c => { c with stage := .joinParked off }).parkJoin

/-- The proxied JOIN's request (R173). -/
def State.joinAway (s : State) (p : Word) (rank off : Nat) : State :=
  s.awaitOver fun s =>
    let t := s.curTile
    match s.mapOfNode s.focus.node rank with
    | none => s.park (.map rank)
    | some d =>
      let id := s.nextId
      let acc := s.accOf t (.dram rank off false false)
      let req : ProxyReq := ⟨⟨s.focus, s.curSlot, id⟩, .join, rank, off, p, 0, s.cur.th.ownFor rank, s.curPart⟩
      let s := { s with nextId := id + 1 }
      let s := (s.modCur fun c =>
        { c with stage := .joinProxied, probes := c.probes ++ [⟨id, .wit 0, none, acc⟩] }).parkJoin
      s.send s.focus.node (.tile d) (some rank) 0 (.proxyReq req)

/-- JOIN (R173). -/
def execJoin (rs1 : XReg) (s : State) : Out :=
  issue (.join rs1) s fun s =>
    match s.cur.stage with
    | .joinParked _ => s.parkJoin
    | .joinProxied => s.parkJoin
    | .joinWit fwit => s.joinFinish fwit
    | _ =>
      let p := effPtr (s.x1 rs1) 0
      s.withFrame akRetS rs1 p fun l s =>
        match l with
        | .dram rank off rep xp =>
          if rep || rank == s.curRank then s.awaitHere fun s => s.joinHere p off
          else if s.proxied ⟨akRetS, .join, 16, .d64, rs1, p, 0, 0#2, .none, true, false, .all⟩ rank xp then s.joinAway p rank off
          else s.depart rank (s.accOf s.curTile l) false p off
        | _ => s

/-- TREAP (R181): always a request to the frame's home, whose reply may be held while slot 0 goes on. -/
def execTreap (rd rs1 : XReg) (s : State) : Out :=
  issue (.treap rd rs1) s fun s =>
    let p := effPtr (s.x1 rs1) 0
    s.withFrame akRetS rs1 p fun l s =>
      match l with
      | .dram rank off rep _ =>
        let rank := if rep then s.curRank else rank
        s.awaitOver fun s =>
          match s.mapOfNode s.focus.node rank with
          | none => s.park (.map rank)
          | some d =>
            let who : Who := ⟨s.focus, s.curSlot, s.nextId⟩
            let req : ProxyReq := ⟨who, .treap, rank, off, p, 0, s.cur.th.ownFor rank, s.curPart⟩
            ((s.claimAs .all (.x rd) (.access .d64) (s.accOf s.curTile l)).retireQuiet).send s.focus.node (.tile d) (some rank) 0
              (.proxyReq req)
      | _ => s

/-! ### YIELD (R174) -/

/-- YIELD: it acts when something waits for the slot and the queue has room, at the turn in which the context can be packed
(log 103, DEDUCED). -/
def execYield (s : State) : Out :=
  issueIf (!s.full && s.tied) .yield s fun s =>
    let T := s.curT
    if s.full || (T.arrivals.isEmpty && T.runList.isEmpty) || decide (T.adepth ≤ T.arrivals.length) then s.retire
    else if !s.cur.packable then s.park .full
    else
      let t := s.curTile
      let c := s.curSlot
      let kept := s.cur.inherited
      let s := s.endStreams t c
      let h := { s.cur.th with pc := s.cur.th.pc + 4 }
      (s.vacate t c).modTile t fun T => { T with arrivals := T.arrivals ++ [⟨h, true, kept, none⟩] }

/-! ### TARM (R178) -/

/-- TARM: n is rs2[31:0]; a contained context may not issue it (14_kernel.md R275). -/
def execTarm (rs1 rs2 : XReg) (s : State) : Out :=
  issue (.tarm rs1 rs2) s fun s =>
    let p := effPtr (s.x1 rs1) 0
    let n := s.x2 rs1 rs2
    match s.kernelOf with
    | none => s.doAccess ⟨akRetS, .tarm n, 16, .d64, rs1, p, 0, 0#2, .none, true, false, .all⟩
    | some _ => s.withBase akRetS 16 rs1 p fun l s =>
        match l with
        | .host _ => s.trap 7 p
        | .peer _ => s.trap 7 p
        | _ => s.trap 27 ((Instr.tarm rs1 rs2).word.zeroExtend 64)

/-! ### Slot 0's thread control (R180, R182) -/

/-- The context a start block describes, started in a slot (R180) (log 54, DEDUCED). -/
def State.startBlock (s : State) (t c : Nat) (b : List Word) : State :=
  let (g, s) := if b.getD 1 0 = 0 then s.newGtid t 0 else (b.getD 1 0, s)
  let h := Thread.fresh g (b.getD 0 0 &&& ~~~3#64) (s.tile t).pth0
  let h := (((h.setX 10 (b.getD 2 0)).setX 11 (b.getD 3 0)).setX 12 (b.getD 4 0)).setX 13 (b.getD 5 0)
  let h := { h with fcsr := (b.getD 6 0).extractLsb' 0 8, fepol := b.getD 7 0 &&& fepolMask false }
  s.seat t c h .ready

/-- The eight doublewords at a key. -/
def State.rdWords (s : State) (k n : Nat) : List Word := (List.range n).map fun i => s.rdWord (k + 8 * i)

/-- The slot a TSTART takes: free, and claimed by no source of R84 (R180). -/
def Tile.startSlot (T : Tile) (n : Word) : Option Nat :=
  if n = 0 then T.unclaimed.head?
  else if T.unclaimed.contains n.toNat then some n.toNat
  else none

/-- TSTART (R180). -/
def execTstart (rd rs1 rs2 : XReg) (s : State) : Out :=
  issue (.tstart rd rs1 rs2) s fun s =>
    let p := effPtr (s.x1 rs1) 0
    let n := s.x2 rs1 rs2
    s.withLoc akLoad 64 p fun l s =>
      match l with
      | .spad off =>
        let t := s.curTile
        let b := s.rdWords (spadKey t off) 8
        match (if fld (b.getD 6 0) 63 8 != 0 then none else s.curT.startSlot n) with
        | some c => ((s.startBlock t c b).setX rd (BitVec.ofNat 64 c)).retire
        | none => (s.setX rd 0).retire
      | _ => s.trap 5 p

/-- A context killed (R182): its results are discarded, buffered pushes perform, its slot is free; one in flight ends
when a refusal returns. One that slot 0 has forwarded is not killed (18_fault.md R343). -/
def State.kill (s : State) (t c : Nat) : State :=
  let x := (s.tile t).slot c
  if x.st == .free || x.forwarded then s
  else if x.st == .inFlight then s.modCtx (.tile t) c fun x => { x with killed := true }
  else
    ((s.drainSlot t c).modTile t fun T => (T.dropIrqs x.th.gtid).unbindPort x.th.gtid).vacate t c

/-- TKILL (R182). -/
def execTkill (rs1 : XReg) (s : State) : Out :=
  issue (.tkill rs1) s fun s =>
    let n := (s.x1 rs1).toNat
    (if 1 ≤ n && n ≤ 15 then s.kill s.curTile n else s).retire

/-! ### Stealing (R175) -/

/-- Whether a tile is idle (R175). -/
def Tile.idle (T : Tile) : Bool :=
  T.runs && (T.slot 0).stage != .preempt && T.arrivals.isEmpty && T.runList.isEmpty && T.lowestSlot.isSome

/-- An idle tile resumes its bottom entry in its lowest free slot (log 104, DESIGN CHOICE). -/
def evDeque (t : Nat) (s : State) : Option State :=
  let T := s.tile t
  if !T.idle || T.dqCount = 0 then none
  else T.lowestSlot.map fun c =>
    let (e, s) := s.dqPop t
    s.resumeEntry t c e 0

/-- DEQUE_RESUME (R175). -/
def execDequeResume (t : Nat) (s : State) : Out := .next ((evDeque t s).getD s)

/-- The physical neighbour in a direction, 0 east, 1 south, 2 west, 3 north (R13, R175). -/
def neighbour (t dir : Nat) : Option Nat :=
  match dir % 4 with
  | 0 => if xOf t < 31 then some (t + 1) else none
  | 1 => if yOf t < 31 then some (t + 32) else none
  | 2 => if 0 < xOf t then some (t - 1) else none
  | _ => if 0 < yOf t then some (t - 32) else none

/-- A victim: a neighbour that holds a rank of the thief's partition. -/
def State.victim (s : State) (t dir : Nat) : Option Nat :=
  (neighbour t dir).bind fun d =>
    if (s.partOf (s.rankOf t)).isSome && (s.tile d).rank.isSome && s.partOf (s.rankOf d) == s.partOf (s.rankOf t)
    then some d else none

/-- A round goes on from its i-th direction: a request, or the end of the round (R175 steps 2 and 4), also when another slot's
SPAWN has pushed an entry meanwhile (log 105, DEDUCED). -/
def State.stealFrom (s : State) (t slot i : Nat) : State :=
  let o := (s.tile t).stealOff
  match ((List.range 4).drop i).find? fun j => (s.victim t (o + j)).isSome with
  | some j =>
    let d := (s.victim t (o + j)).getD t
    (s.modTile t fun T => { T with steal := .asking slot (j + 1) }).send (.tile t) (.tile d) none 0 (.stealReq t)
  | none =>
    s.modTile t fun T =>
      { T.setSlot slot { T.slot slot with reserved := false } with
        stealOff := (T.stealOff + 1) % 4, steal := .waiting (T.cycles + 256) }

/-- A round begun: the lowest free slot is reserved. -/
def State.stealStart (s : State) (t : Nat) : Option State :=
  let T := s.tile t
  if !T.idle || T.dqCount != 0 then none
  else T.lowestSlot.map fun c =>
    (s.modTile t fun T => T.setSlot c { T.slot c with reserved := true }).stealFrom t c 0

/-- An idle tile with an empty deque begins a round. -/
def evSteal (t : Nat) (s : State) : Option State :=
  match (s.tile t).steal with
  | .idle => s.stealStart t
  | _ => none

/-- STEAL_ROUND (R175). -/
def execStealRound (t : Nat) (s : State) : Out := .next ((evSteal t s).getD s)

/-- A victim's shell answers with its top entry, or empty (R175 step 3). The last entry goes to the tile's own bottom pop when
that is due too (R169). -/
def evStealReq (m : Nat) (s : State) : Option State :=
  (s.arrive m).bind fun (a, s') =>
    match a.msg.body with
    | .stealReq _ =>
      let T := s'.tile a.at_
      if T.dqCount = 0 || !T.gate || (T.dqCount == 1 && T.idle) then
        some (s'.reply (.tile a.at_) a.ret none (.stealAns none))
      else
        let (e, s') := s'.dqTake a.at_
        some (s'.reply (.tile a.at_) a.ret none (.stealAns (some e)))
    | _ => none

/-- STEAL_REQUEST (R175). -/
def execStealRequest (m : Nat) (s : State) : Out := .next ((evStealReq m s).getD s)

/-- An answer at the thief (R175 steps 2 and 4). -/
def evStealAns (m : Nat) (s : State) : Option State :=
  (s.arrive m).bind fun (a, s') =>
    match a.msg.body, (s'.tile a.at_).steal with
    | .stealAns (some e), .asking slot _ =>
      let s' := s'.modTile a.at_ fun T => { T with steal := .idle, stealOff := (T.stealOff + 1) % 4 }
      some (s'.resumeEntry a.at_ slot e 1)
    | .stealAns none, .asking slot i => some (s'.stealFrom a.at_ slot i)
    | .stealAns _, _ => some s'
    | _, _ => none

/-- STEAL_ANSWER (R175). -/
def execStealAnswer (m : Nat) (s : State) : Out := .next ((evStealAns m s).getD s)

/-- The wait after an empty round is over: a new round if the tile is still idle (R175 step 4). -/
def evStealRetry (t : Nat) (s : State) : Option State :=
  match (s.tile t).steal with
  | .waiting due =>
    if (s.tile t).cycles < due then none
    else
      let s := s.modTile t fun T => { T with steal := .idle }
      some ((s.stealStart t).getD s)
  | _ => none

/-- STEAL_RETRY_EXPIRY (R175). -/
def execStealRetryExpiry (t : Nat) (s : State) : Out := .next ((evStealRetry t s).getD s)

end Sys2Proof.Machine
end

