-- ==== Sys2Proof/Machine/Sync.lean ====
section
/-! DEFINITION. Groups and barriers as a context meets them, and the decrements and arrivals of engines (09_group.md
R183 to R189, 10_barrier.md R191 to R202). -/
namespace Sys2Proof.Machine

/-! ### Requests that are always proxied (R185, R192) -/

/-- A request to a record's home (R94): the overflow is waited for, rd is claimed, and the instruction is over; it leaves bounce,
run and the pin state as they are (R185, R192). -/
def State.proxyOp (s : State) (rd : XReg) (op : ProxOp) (p : Word) (rank off : Nat) (rep : Bool) : State :=
  s.awaitOver fun s =>
    let rank := if rep then s.curRank else rank
    match s.mapOfNode s.focus.node rank with
    | none => s.park (.map rank)
    | some d =>
      let who : Who := ⟨s.focus, s.curSlot, s.nextId⟩
      let req : ProxyReq := ⟨who, op, rank, off, p, 0, s.cur.th.ownFor rank, s.curPart⟩
      let acc := s.accOf s.curTile (.dram rank off rep false)
      ((s.claim (.x rd) (.access .d64) acc).retireQuiet).send s.focus.node (.tile d) (some rank) 0 (.proxyReq req)

/-! ### Groups -/

/-- A group record's pointer (R185): in space 0, aligned to 32 bytes. -/
def State.withRecord (s : State) (base : XReg) (p : Word) (go : Nat → Nat → Bool → State → State) : State :=
  if !s.inSpace [0] p then s.trap 7 p
  else
    s.withBase akRetS 32 base p fun l s =>
      match l with
      | .dram rank off rep _ => go rank off rep s
      | _ => s.trap 7 p

/-- A group instruction that has its effect in one request (R185): w is the context's WSELF at issue. -/
def groupOp (i : Instr) (rd rs1 : XReg) (op : GroupOp) (s : State) : Out :=
  issue i s fun s =>
    let p := effPtr (s.x1 rs1) 0
    s.withRecord rs1 p fun rank off rep s => s.proxyOp rd (.group op (s.cur.th.wself s.tick)) p rank off rep

/-- GCREATE (R186). -/
def execGcreate (rd rs1 : XReg) (s : State) : Out := groupOp (.gcreate rd rs1) rd rs1 .create s

/-- GJOIN (R186). -/
def execGjoin (rs1 : XReg) (s : State) : Out := groupOp (.gjoin rs1) 0 rs1 .join s

/-- GLEAVE (R186, R187). -/
def execGleave (rs1 : XReg) (s : State) : Out := groupOp (.gleave rs1) 0 rs1 .leave s

/-- GCOUNT (R186). -/
def execGcount (rd rs1 : XReg) (s : State) : Out := groupOp (.gcount rd rs1) rd rs1 .count s

/-- GDISSOLVE (R186, R187). -/
def execGdissolve (rs1 : XReg) (s : State) : Out := groupOp (.gdissolve rs1) 0 rs1 .dissolve s

/-- GSYNC's arrival (R189 step 1). -/
def State.syncArrive (s : State) (p : Word) (rank off : Nat) : State :=
  s.awaitOver fun s =>
    match s.mapOfNode s.focus.node rank with
    | none => s.park (.map rank)
    | some d =>
      let id := s.nextId
      let acc := s.accOf s.curTile (.dram rank off false false)
      let req : ProxyReq := ⟨⟨s.focus, s.curSlot, id⟩, .group .sync (s.cur.th.wself s.tick), rank, off, p, 0,
        s.cur.th.ownFor rank, s.curPart⟩
      let s := { s with nextId := id + 1 }
      let s := (s.modCur fun c =>
        { c with stage := .gsyncSent rank off, probes := c.probes ++ [⟨id, .wit 0, none, acc⟩] }).parkJoin
      s.send s.focus.node (.tile d) (some rank) 0 (.proxyReq req)

/-- GSYNC's last wait, for pwit (R189 steps 3 and 4). -/
def State.syncFinish (s : State) (pwit : Word) : State :=
  let s := s.modCur fun c => { c with stage := .gsyncWit pwit }
  s.validWit pwit fun s => s.awaitWit pwit pwit State.retireQuiet

/-- GSYNC's wait for the phase (R189 step 2); a stand-in's answer is poison (19_tile.md R351). -/
def State.syncPhase (s : State) (p : Word) (rank off phase : Nat) : State :=
  let key : ProbeKey := .group rank off phase s.curPart
  match s.cur.probes.find? fun q => q.key == key with
  | none => (s.sendProbe rank key true).parkJoin
  | some q =>
    match q.ans with
    | some (.value pwit) => s.syncFinish pwit
    | some (.fault cause) => s.trap cause p
    | some .poison => s.trap 26 0
    | _ => s.parkJoin

/-- GSYNC (R189). -/
def execGsync (rs1 : XReg) (s : State) : Out :=
  issue (.gsync rs1) s fun s =>
    match s.cur.stage with
    | .gsyncSent _ _ => s.parkJoin
    | .gsyncPhase rank off phase => s.syncPhase (effPtr (s.x1 rs1) 0) rank off phase
    | .gsyncWit pwit => s.syncFinish pwit
    | _ =>
      let p := effPtr (s.x1 rs1) 0
      s.withRecord rs1 p fun rank off rep s => s.syncArrive p (if rep then s.curRank else rank) off

/-! ### Barriers -/

/-- A barrier slot's pointer (R192): in space 0 or 1, aligned to 16 bytes. -/
def State.withSlot (s : State) (base : XReg) (p : Word) (go : Loc → State → State) : State :=
  if !s.inSpace [0, 1] p then s.trap 7 p
  else
    s.withBase akRetS 16 base p fun l s =>
      match l with
      | .spad _ => go l s
      | .dram _ _ _ _ => go l s
      | _ => s.trap 7 p

/-- A barrier instruction at its slot (R192): in its turn in the current tile's scratchpad, by proxy in space 0. -/
def State.barrierAt (s : State) (rd : XReg) (op : BarOp) (p : Word) (l : Loc) : State :=
  match l with
  | .spad off =>
    let key := spadKey s.curTile off
    match barrierStep true s.curRank op (s.readSlot key) with
    | .trap cause => s.trap cause p
    | .ok k v _ =>
      let s := match op with
        | .test _ => s
        | _ => s.wrMem key (wordsBytes k.words)
      (s.setX rd v).retire
  | .dram rank off rep _ => s.proxyOp rd (.barrier op) p rank off rep
  | _ => s

/-- A barrier instruction with its slot pointer in rs1. -/
def barrierOp (i : Instr) (rd rs1 : XReg) (wait : Bool) (op : State → BarOp) (s : State) : Out :=
  issue i s fun s =>
    let p := effPtr (s.x1 rs1) 0
    s.withSlot rs1 p fun l s =>
      if wait then s.awaitField 3#2 fun s => s.barrierAt rd (op s) p l
      else s.barrierAt rd (op s) p l

/-- BINIT (R194). -/
def execBinit (rs1 rs2 : XReg) (s : State) : Out :=
  barrierOp (.binit rs1 rs2) 0 rs1 false (fun s => .init (s.x2 rs1 rs2)) s

/-- BARRIVE (R195): it waits as pfence 3. -/
def execBarrive (rd rs1 : XReg) (s : State) : Out :=
  barrierOp (.barrive rd rs1) rd rs1 true (fun _ => .arrive) s

/-- BTEST (R196). -/
def execBtest (rd rs1 rs2 : XReg) (s : State) : Out :=
  barrierOp (.btest rd rs1 rs2) rd rs1 false (fun s => .test (bit (s.x2 rs1 rs2) 0)) s

/-- BEXPECT (R197). -/
def execBexpect (rs1 rs2 : XReg) (s : State) : Out :=
  barrierOp (.bexpect rs1 rs2) 0 rs1 false (fun s => .expect (s.x2 rs1 rs2).toNat) s

/-- BCOMPLETE (R197): it waits as pfence 3. -/
def execBcomplete (rs1 rs2 : XReg) (s : State) : Out :=
  barrierOp (.bcomplete rs1 rs2) 0 rs1 true (fun s => .complete (s.x2 rs1 rs2).toNat) s

/-- BRETIRE (R199). -/
def execBretire (rs1 : XReg) (s : State) : Out :=
  barrierOp (.bretire rs1) 0 rs1 false (fun _ => .retire) s

/-- BWAIT at a slot of the current tile's scratchpad: rechecked at each turn (R196) (log 44, DEDUCED). -/
def State.waitHere (s : State) (p : Word) (off : Nat) (tok : Bool) : State :=
  match barrierStep true s.curRank (.test tok) (s.readSlot (spadKey s.curTile off)) with
  | .trap cause => s.trap cause p
  | .ok _ v _ => if v = 2 then s.trap 48 p else if v = 1 then s.retire else s.park (.slot off tok)

/-- BWAIT at a slot in space 0: a wait probe, after the context's stores to that rank (R196, R151). -/
def State.waitAway (s : State) (p : Word) (rank off : Nat) (tok : Bool) : State :=
  let key : ProbeKey := .barrier rank off tok s.curPart
  match s.cur.probes.find? fun q => q.key == key with
  | some q =>
    match q.ans with
    | some .satisfied => s.retireQuiet
    | some (.fault cause) => s.trap cause p
    | some .poison => s.trap 26 0
    | _ => s.parkJoin
  | none =>
    s.awaitOver fun s =>
      State.awaitEntries (fun s => (s.sendProbe rank key true).parkJoin)
        (s.cur.th.ownList.filter fun e => witDst e == rank) s

/-- BWAIT (R196). -/
def execBwait (rs1 rs2 : XReg) (s : State) : Out :=
  issue (.bwait rs1 rs2) s fun s =>
    let p := effPtr (s.x1 rs1) 0
    let tok := bit (s.x2 rs1 rs2) 0
    s.withSlot rs1 p fun l s =>
      match l with
      | .spad off => s.waitHere p off tok
      | .dram rank off rep _ => s.waitAway p (if rep then s.curRank else rank) off tok
      | _ => s

/-! ### Engines: translation, decrements, arrivals (R198, R202) -/

/-- An address an engine of a tile translates (17_page.md R321, R322): a hit in the tile's TLB becomes the most recently used; a
miss is answered by the field's TLB or waits for a walk, whose fault it finds once. -/
def State.engXlat (s : State) (t : Nat) (who : EngWho) (k : AKind) (p : Word) : Xlat × State :=
  let s' := { s with focus := .tile t }
  let a := ptrAddr p
  match ptrSpace p with
  | 1 => (if 2 ^ 23 ≤ a || (who.mode == some .u && decide (a < 0x10000)) then .accessFault else .ok (.spad a), s)
  | 3 => (.ok (.peer p), s)
  | 0 | 2 =>
    let host := ptrSpace p == 2
    let P := (s.tile t).priv
    match who.mode with
    | none =>
      (if host then .ok (.host a)
       else if 2 ^ 45 ≤ a || s.grade ≤ a / 2 ^ 33 then .accessFault
       else .ok (.dram (a / 2 ^ 33) (a % 2 ^ 33) false false), s)
    | some mode =>
      let asid := fld P.satp 59 44
      let use (e : TlbEntry) (s : State) : Xlat × State :=
        (if leafGrants k e.leaf mode who.full (bit P.mstatus 19) (bit P.mstatus 18) then s'.resolve k e a
         else .pageFault, s)
      match takeFirst (fun e => TlbEntry.covers e host asid a) (s.tile t).tlb with
      | some (e, r) => use e (s.modTile t fun T => { T with tlb := e :: r })
      | none =>
        match (s.field (fieldOf t)).hit host asid a with
        | some (e, F) => use e ((s.modField (fieldOf t) fun _ => F).modTile t fun T => T.fillTlb e)
        | none =>
          match takeFirst (fun q : Nat × Bool × Bool => q.1 == a / 65536 * 65536 && q.2.1 == host) (s.tile t).engFaults with
          | some (q, r) => (if q.2.2 then .accessFault else .pageFault, s.modTile t fun T => { T with engFaults := r })
          | none => (.miss host a, s)
  | _ => (.accessFault, s)

/-- An engine's miss (R322): its walk starts or is joined; none while it waits for one that it has joined, or for room among the
field's 384. -/
def State.engMiss (s : State) (t : Nat) (host : Bool) (a : Nat) : Option State :=
  let F := s.field (fieldOf t)
  let satp := (s.tile t).priv.satp
  let same (w : Walk) : Bool := w.va == a / 65536 * 65536 && w.host == host && w.asid == fld satp 59 44 && !w.stale
  if (F.walks.find? same).any fun w => w.waiters.contains (t, askSlot) then none
  else if 384 ≤ F.walks.length && !F.walks.any same then none
  else some (s.startXlatFor t askSlot satp host a)

/-- A command's barrier outcome noted where the command still stands (R198). -/
def Tile.noteBarrier (T : Tile) (g : EngRef) (short lost : Bool) : Tile :=
  let cp (x : Xfer) : Xfer := if x.seq = g.seq then { x with bshort := x.bshort || short, blost := x.blost || lost } else x
  let mx (x : MxOp) : MxOp := if x.seq = g.seq then { x with bshort := x.bshort || short, blost := x.blost || lost } else x
  if g.mx then { T with mxRun := T.mxRun.map mx, mxHeld := T.mxHeld.map mx, mxDone := T.mxDone.map mx }
  else { T with copyRun := T.copyRun.map cp, copyDone := T.copyDone.map cp }

/-- The first decrement of a tile made: it leaves the list, and its command knows the outcome. -/
def State.decDone (s : State) (t : Nat) (g : EngRef) (short lost : Bool) : State :=
  s.modTile t fun T => { T with decs := T.decs.tail }.noteBarrier g short lost

/-- One decrement at its slot (R198), in its turn at the home (07_witness.md R412). -/
def State.decrementAt (s : State) (t : Nat) (g : EngRef) (l : Loc) : Option State :=
  match l with
  | .spad off =>
    match engineDecrement (s.readSlot (spadKey t off)) g.bytes with
    | none => some (s.decDone t g false true)
    | some (k, short, _) => some ((s.wrMem (spadKey t off) (wordsBytes k.words)).decDone t g short false)
  | .dram rank off rep _ =>
    match (if rep then some t else s.homeOf rank) with
    | none => some (s.decDone t g false true)
    | some h =>
      match s.atHome h off (.decrement t) with
      | .wait => none
      | .held s => some s
      | .go s =>
        if s.poison h off != 0 then some (s.decDone t g false true)
        else
          match engineDecrement (s.readSlot (dramKey h off)) g.bytes with
          | none => some (s.decDone t g false true)
          | some (k, short, _) =>
            some (((s.homeWrite h off (s.rankOf t) (wordsBytes k.words)).barrierDone h off).decDone t g short false)
  | _ => some (s.decDone t g false true)

/-- The first decrement a tile's engines have to make. -/
def evDecrement (t : Nat) (s : State) : Option State :=
  match (s.tile t).decs with
  | [] => none
  | g :: _ =>
    match s.engXlat t g.who akRetS g.slot with
    | (.ok l, s) => s.decrementAt t g l
    | (.miss host a, s) => s.engMiss t host a
    | (_, s) => some (s.decDone t g false true)

/-- An arrival that the gang wire delivers (R202): as a BARRIVE, or err when the phase has all its arrivals. -/
def wireArrival (rank : Nat) (k : Slot) : Slot :=
  if !k.live || k.home != rank then k
  else if k.arrived = k.expected then { k with err := true }
  else (Slot.completeIfReady { k with arrived := k.arrived + 1 }).1

/-- The first arrival on its way to a tile's completion slot. -/
def evWire (t : Nat) (s : State) : Option State :=
  match (s.tile t).wire with
  | [] => none
  | off :: r =>
    let k := wireArrival (s.rankOf t) (s.readSlot (spadKey t off))
    some ((s.modTile t fun T => { T with wire := r }).wrMem (spadKey t off) (wordsBytes k.words))

/-- GANG_WIRE_ARRIVAL (R202). -/
def execGangWireArrival (t : Nat) (s : State) : Out := .next ((evWire t s).getD s)

end Sys2Proof.Machine
end

