-- ==== Sys2Proof/Machine/Stream.lean ====
section
/-! DEFINITION. Streams: SCFG, SEN, SPOS and the fetches and performs of stream elements (11_stream.md R204 to R212). -/
namespace Sys2Proof.Machine

/-! ### Descriptors (R205, R207) -/

/-- The element width of a format code; a plain element's comes from pwidth (01_wafer.md R27, R205). -/
def elemWidth (fmt pwidth : Nat) : Nat :=
  match fmt with
  | 0 => 8 * 2 ^ pwidth
  | 1 => 64
  | 2 => 32
  | 3 | 4 => 16
  | 9 | 10 | 11 | 12 => 4
  | _ => 8

/-- A 32-bit signed field of a doubleword. -/
def signed32 (w : Word) (lo : Nat) : Int := (w.extractLsb' lo 32).toInt

/-- The stream a descriptor's eight doublewords describe, not yet bound. -/
def streamOf (d : List Word) : Stream :=
  let w (i : Nat) : Word := d.getD i 0
  let counts := [fld (w 1) 31 0, fld (w 1) 63 32, fld (w 2) 31 0, fld (w 2) 63 32]
  let fmt := ptrFmt (w 0)
  { dir := if bit (w 7) 0 then 2 else 1, fmt := fmt, width := elemWidth fmt (fld (w 7) 3 2), base := ptrAddr (w 0),
    counts := counts, strides := [signed32 (w 3) 0, signed32 (w 3) 32, signed32 (w 4) 0, signed32 (w 4) 32],
    total := counts.foldl (· * ·) 1, pos := 0, done := 0, sat := bit (w 7) 1, scodes := fld (w 5) 51 0,
    gscales := fld (w 6) 51 0, fetched := [], out := [], blk := none }

/-- Step 3 of R207: what makes the descriptor illegal. -/
def descLegal (d : List Word) : Bool :=
  let w (i : Nat) : Word := d.getD i 0
  let y := streamOf d
  let blocked := y.fmt == 11 || y.fmt == 12
  fld (w 7) 63 4 == 0 && decide (y.fmt ≤ 12) && ptrBlock (w 0) == (if blocked then 6 else 0) &&
  y.counts.all (· != 0) && decide (y.total < 2 ^ 40) && (y.fmt == 0 || fld (w 7) 3 2 == 0) &&
  (if blocked then y.strides.head? == some 1 && (y.counts.headD 0) % 64 == 0 else w 5 == 0 && w 6 == 0)

/-- The least and greatest element offset of a walk (R206). -/
def walkRange : List Nat → List Int → Int × Int
  | c :: cs, d :: ds =>
    let (lo, hi) := walkRange cs ds
    let e := ((c - 1 : Nat) : Int) * d
    (lo + min 0 e, hi + max 0 e)
  | _, _ => (0, 0)

/-- A byte range lies in program scratchpad (R207 step 4). -/
def inProgram (first last : Int) : Bool := decide (0x10000 ≤ first) && decide (last ≤ 0x7FFFFF)

/-- Step 4 of R207: every byte of the walk and of its scales lies in program scratchpad. -/
def Stream.inside (y : Stream) : Bool :=
  let (lo, hi) := walkRange y.counts y.strides
  let elems :=
    if y.width = 4 then inProgram ((2 * y.base + lo) / 2) ((2 * y.base + hi) / 2)
    else
      let b : Int := (y.width / 8 : Nat)
      inProgram (y.base + lo * b) (y.base + hi * b + b - 1)
  elems && (decide (y.fmt < 11) ||
    (inProgram y.scodes (y.scodes + (y.total - 1) / 64) && inProgram y.gscales (y.gscales + 4 * ((y.total - 1) / 16384) + 3)))

/-- Step 5 of R207: the misaligned address, if any. -/
def alignFault (d : List Word) : Option Word :=
  let y := streamOf d
  let need := if 11 ≤ y.fmt then 32 else max 1 (y.width / 8)
  if y.base % need != 0 then some (d.getD 0 0)
  else if decide (11 ≤ y.fmt) && y.gscales % 4 != 0 then some (d.getD 6 0)
  else none

/-- The stream states a tile's contexts hold, spilled ones included (R204, R212). -/
def Tile.streamStates (T : Tile) : Nat :=
  let n (v : Vector Stream 4) : Nat := (v.toList.filter fun y => y.dir != 0).length
  (T.slots.toList.map fun c => n c.streams).sum + (T.saved.map fun p => n p.2.streams).sum

/-- A register's output stream drained (R209): the instruction waits while a result is outstanding. -/
def State.drained (s : State) (r : FReg) (go : State → State) : State :=
  let s := s.drainReg s.curTile s.curSlot r
  if (s.cur.stream r).dir = 2 && !(s.cur.stream r).out.isEmpty then s.forfeit else go s

/-- SCFG's checks on a descriptor that has been read (R207 steps 3 to 6), and the binding. -/
def State.bindStream (s : State) (i : Instr) (fd : FReg) (d : List Word) : State :=
  let y := streamOf d
  let own := if s.cur.bound fd then 1 else 0
  if !descLegal d then s.illegal i.word
  else if ptrSpace (d.getD 0 0) != 1 || !y.inside then s.trap (if y.dir = 1 then 5 else 7) (d.getD 0 0)
  else
    match alignFault d with
    | some a => s.trap (if y.dir = 1 then 4 else 6) a
    | none =>
      if 128 + own ≤ s.curT.streamStates then s.trap 29 (i.word.zeroExtend 64)
      else s.drained fd fun s => (s.modCur fun c => (if c.bound fd then c.setF fd 0 else c).setStream fd y).retire

/-- SCFG (R207) (log 41, DEDUCED). -/
noncomputable def execScfg (fd : FReg) (rs1 : XReg) (s : State) : Out :=
  issueIf (decide (fd.toNat < 4)) (.scfg fd rs1) s fun s =>
    let p := effPtr (s.x1 rs1) 0
    if s.cur.commandUses fd then s.forfeit
    else if ptrSpace p != 1 then s.trap (if ptrAddr p % 64 != 0 then 4 else 5) p
    else
      s.withLoc akLoad 64 p fun l s =>
        s.bindStream (.scfg fd rs1) fd (s.rdWords (l.key s.curTile) 8)

/-- SEN (R209). -/
noncomputable def execSen (fd : FReg) (rs1 : XReg) (s : State) : Out :=
  issueIf (decide (fd.toNat < 4)) (.sen fd rs1) s fun s =>
    let v := s.x1 rs1
    let i := Instr.sen fd rs1
    if fld v 7 2 != 0 || fld v 63 48 != 0 || bit v 1 then s.illegal i.word
    else if s.cur.commandUses fd then s.forfeit
    else if !bit v 0 then
      if s.cur.bound fd then
        s.drained fd fun s => (s.modCur fun c => (c.setF fd 0).setStream fd Stream.unbound).retire
      else s.retire
    else
      let y := s.cur.stream fd
      let p := fld v 47 8
      if y.dir = 0 then s.trap 29 (i.word.zeroExtend 64)
      else if y.total < p then s.trap 28 (BitVec.ofNat 64 y.pos)
      else
        s.drained fd fun s =>
          (s.modCur fun c => c.setStream fd { c.stream fd with pos := p, done := p, fetched := [], blk := none }).retire

/-- SPOS's word (R210). -/
def Stream.posWord (y : Stream) : Word :=
  if y.dir = 0 then 0 else BitVec.ofNat 64 (2 ^ 63 + (if y.dir = 2 then 2 ^ 62 else 0) + y.pos % 2 ^ 40)

/-- SPOS (R210): it waits for commands and late values of the stream (06_float.md R140). -/
noncomputable def execSpos (rd : XReg) (fs1 : FReg) (s : State) : Out :=
  issueIf (decide (fs1.toNat < 4)) (.spos rd fs1) s fun s =>
    let y := s.cur.stream fs1
    if s.cur.commandUses fs1 || (y.out.any fun q => q.2.isNone) then s.forfeit
    else (s.setX rd y.posWord).retire

/-! ### The events (R211) -/

/-- The next element an input stream may fetch: at most 16 past the last popped. -/
def Stream.nextFetch (y : Stream) : Option Nat :=
  (List.range 16).findSome? fun k =>
    if y.pos + k < y.total && (tget y.fetched (y.pos + k)).isNone then some (y.pos + k) else none

end Sys2Proof.Machine
end

