-- ==== Sys2Proof/Machine/Vector.lean ====
section
/-! DEFINITION. Vector commands, bridge registers and furrows (11_stream.md R213 to R227, 02_numbers.md R52, R56). -/
namespace Sys2Proof.Machine

/-! ### Types and operands (R213, R214) -/

/-- The format code of a computing type: .D, .S, .H, .B. -/
def etCode (et : BitVec 2) : Nat := et.toNat + 1

def codeFmt (code : Nat) : Fmt := (Fmt.ofCode code).getD fp64

/-- The commands by funct5 (R213). -/
def vGather : Nat := 17
def vIadd : Nat := 16
/-- VFILL. -/
def vFill : Nat := 9
/-- VCVT. -/
def vCvt : Nat := 8
def vReduction (op : Nat) : Bool := op == 13 || op == 14 || op == 15

/-- Whether a command has a second operand (R213: fs2 0 otherwise; VCVT names none). -/
def vHasB (op : Nat) : Bool :=
  [0, 1, 2, 3, 4, 5, 6, 11, 13, 16, 17].contains op

/-- A plain stream of another width than the computing type (R208, R218). -/
def Stream.fits (y : Stream) (code : Nat) : Bool := y.dir == 0 || y.fmt != 0 || y.width == codeWidth code

/-- What makes a command illegal (R218), rounding mode included (log 38, DEDUCED). -/
def vIllegal (s : State) (op : Nat) (fd fs1 fs2 : FReg) (et : BitVec 2) : Bool :=
  let c := s.cur
  let A := c.stream fs1
  let B := if vHasB op then c.stream fs2 else Stream.unbound
  let Y := c.stream fd
  let code := etCode et
  (if vReduction op then Y.dir != 0 || A.dir == 0 else Y.dir != 2) || A.dir == 2 || B.dir == 2 ||
  (op == vFill && A.dir != 0) || (op == vGather && B.dir == 0) ||
  !(A.fits code && B.fits code && Y.fits code) || (Rnd.ofCode c.frm).isNone

/-- VSTAT's word (R221). -/
def Ctx.vstat (c : Ctx) : Word :=
  BitVec.ofNat 64 (c.vdone % 2 ^ 40 * 2 ^ 8 + c.vstatus * 16 + bn c.vpend 8 + c.vcmds.length)

/-- The vector-fault trap, which clears the report (R218, R220). -/
def State.vectorFault (s : State) : State :=
  let w := s.cur.vstat
  (s.modCur fun c => { c with vpend := false }).trap 30 w

/-- Whether a command uses a register's stream (R139). -/
def VCmd.uses (v : VCmd) (r : FReg) : Bool :=
  (v.fd == r && !vReduction v.op) || (v.a.isNone && v.fs1 == r) || (v.b.isNone && v.fs2 == r)

/-- A stream's position moved, as a command's claim does. -/
def Ctx.claimStream (c : Ctx) (r : FReg) (n : Nat) : Ctx :=
  let y := c.stream r
  if y.dir = 1 then c.setStream r { y with pos := y.pos + n, done := y.pos + n, fetched := [] }
  else c.setStream r { y with pos := y.pos + n }

/-- The cycles that n elements take at least: 32, 64 or 128 elements a cycle, an eighth of that for a division or a root,
16 for VGATHER (R219) (log 51, DEDUCED). -/
def vCycles (op et n : Nat) : Nat :=
  let full := match et with
    | 0 => 32
    | 1 => 64
    | _ => 128
  let rate := if op = vGather then 16 else if op = 6 || op = 7 then full / 8 else full
  (n + rate - 1) / rate

/-- A command queued (R214, R216, R219): it runs after those before it. -/
def State.vectorIssue (s : State) (op : Nat) (fd fs1 fs2 : FReg) (et : BitVec 2) (n : Nat) : State :=
  let c := s.cur
  let red := vReduction op
  let a := if c.bound fs1 then none else some (c.f fs1)
  let b := if vHasB op && c.bound fs2 then none else some (c.f fs2)
  let id := s.nextId
  let v : VCmd := ⟨id, op, et.toNat, fd, fs1, fs2, a, b, n, (c.stream fs1).pos, (c.stream fs2).pos, (c.stream fd).pos,
    c.frm, (c.vcmds.map fun v => v.due).foldl max s.curT.cycles + vCycles op et.toNat n, 0, 0#5, []⟩
  let s : State := if red then s.claim (.f fd) (.vector id) 0 else { s with nextId := id + 1 }
  (s.modCur fun c =>
    let c := if a.isNone then c.claimStream fs1 n else c
    let c := if b.isNone && fs2 != fs1 && op != vGather then c.claimStream fs2 n else c
    let c := if red then c else c.claimStream fd n
    { c with vcmds := c.vcmds ++ [v] }).retire

/-- The first input stream with fewer than n elements left (R214, R218). -/
def Ctx.shortInput (c : Ctx) (op : Nat) (fs1 fs2 : FReg) (n : Nat) : Option Nat :=
  let short (r : FReg) : Option Nat :=
    let y := c.stream r
    if y.dir = 1 && decide (y.total - y.pos < n) then some y.pos else none
  match short fs1 with
  | some p => some p
  | none => if vHasB op && op != vGather then short fs2 else none

/-- The issue of a vector command (R214, R218, R219). -/
noncomputable def vectorOp (i : Instr) (op : Nat) (fd fs1 fs2 : FReg) (et : BitVec 2) (s : State) : Out :=
  issueIf (vIllegal s op fd fs1 fs2 et) i s fun s =>
    let c := s.cur
    let late (r : FReg) : Bool := (c.stream r).out.any fun q => q.2.isNone
    if 4 ≤ c.vcmds.length then s.forfeit
    else if late fd || late fs1 || (vHasB op && late fs2) then s.forfeit
    else
      let y := c.stream (if vReduction op then fs1 else fd)
      let n := y.total - y.pos
      match c.shortInput op fs1 fs2 n with
      | some p => s.trap 28 (BitVec.ofNat 64 p)
      | none => if c.vpend then s.vectorFault else s.vectorIssue op fd fs1 fs2 et n

/-- VFADD (R213). -/
noncomputable def execVfadd (fd fs1 fs2 : FReg) (et : BitVec 2) (s : State) : Out := vectorOp (.vfadd fd fs1 fs2 et) 0 fd fs1 fs2 et s
/-- VFSUB (R213). -/
noncomputable def execVfsub (fd fs1 fs2 : FReg) (et : BitVec 2) (s : State) : Out := vectorOp (.vfsub fd fs1 fs2 et) 1 fd fs1 fs2 et s
/-- VFMUL (R213). -/
noncomputable def execVfmul (fd fs1 fs2 : FReg) (et : BitVec 2) (s : State) : Out := vectorOp (.vfmul fd fs1 fs2 et) 2 fd fs1 fs2 et s
/-- VFMA (R213). -/
noncomputable def execVfma (fd fs1 fs2 : FReg) (et : BitVec 2) (s : State) : Out := vectorOp (.vfma fd fs1 fs2 et) 3 fd fs1 fs2 et s
/-- VFMIN (R213). -/
noncomputable def execVfmin (fd fs1 fs2 : FReg) (et : BitVec 2) (s : State) : Out := vectorOp (.vfmin fd fs1 fs2 et) 4 fd fs1 fs2 et s
/-- VFMAX (R213). -/
noncomputable def execVfmax (fd fs1 fs2 : FReg) (et : BitVec 2) (s : State) : Out := vectorOp (.vfmax fd fs1 fs2 et) 5 fd fs1 fs2 et s
/-- VFDIV (R213). -/
noncomputable def execVfdiv (fd fs1 fs2 : FReg) (et : BitVec 2) (s : State) : Out := vectorOp (.vfdiv fd fs1 fs2 et) 6 fd fs1 fs2 et s
/-- VFSQRT (R213). -/
noncomputable def execVfsqrt (fd fs1 : FReg) (et : BitVec 2) (s : State) : Out := vectorOp (.vfsqrt fd fs1 et) 7 fd fs1 0#3 et s
/-- VCVT (R213). Its rs2 field names nothing and is reserved (03_encoding.md; log 91, DEDUCED): a word with another value there does not
decode, and nothing here looks at it. -/
noncomputable def execVcvt (fd fs1 fs2 : FReg) (et : BitVec 2) (s : State) : Out := vectorOp (.vcvt fd fs1 fs2 et) 8 fd fs1 0#3 et s
/-- VFILL (R213). -/
noncomputable def execVfill (fd fs1 : FReg) (et : BitVec 2) (s : State) : Out := vectorOp (.vfill fd fs1 et) 9 fd fs1 0#3 et s
/-- VMOV (R213). -/
noncomputable def execVmov (fd fs1 : FReg) (et : BitVec 2) (s : State) : Out := vectorOp (.vmov fd fs1 et) 10 fd fs1 0#3 et s
/-- VAXPY (R213). -/
noncomputable def execVaxpy (fd fs1 fs2 : FReg) (et : BitVec 2) (s : State) : Out := vectorOp (.vaxpy fd fs1 fs2 et) 11 fd fs1 fs2 et s
/-- VSCAL (R213). -/
noncomputable def execVscal (fd fs1 : FReg) (et : BitVec 2) (s : State) : Out := vectorOp (.vscal fd fs1 et) 12 fd fs1 0#3 et s
/-- VDOT (R216). -/
noncomputable def execVdot (fd fs1 fs2 : FReg) (et : BitVec 2) (s : State) : Out := vectorOp (.vdot fd fs1 fs2 et) 13 fd fs1 fs2 et s
/-- VSUM (R216). -/
noncomputable def execVsum (fd fs1 : FReg) (et : BitVec 2) (s : State) : Out := vectorOp (.vsum fd fs1 et) 14 fd fs1 0#3 et s
/-- VMAXR (R216). -/
noncomputable def execVmaxr (fd fs1 : FReg) (et : BitVec 2) (s : State) : Out := vectorOp (.vmaxr fd fs1 et) 15 fd fs1 0#3 et s
/-- VIADD (R215). -/
noncomputable def execViadd (fd fs1 fs2 : FReg) (et : BitVec 2) (s : State) : Out := vectorOp (.viadd fd fs1 fs2 et) 16 fd fs1 fs2 et s
/-- VGATHER (R217). -/
noncomputable def execVgather (fd fs1 fs2 : FReg) (et : BitVec 2) (s : State) : Out := vectorOp (.vgather fd fs1 fs2 et) 17 fd fs1 fs2 et s

/-- VWAIT (R220). -/
noncomputable def execVwait (s : State) : Out :=
  issue .vwait s fun s =>
    if !s.cur.vcmds.isEmpty then s.forfeit
    else if s.cur.vpend then s.vectorFault
    else s.retire

/-- VSTAT (R221). -/
noncomputable def execVstat (rd : XReg) (s : State) : Out :=
  issue (.vstat rd) s fun s => (s.setX rd s.cur.vstat).retire

/-! ### The work of a command (R211, R213 to R217; log 23, DEDUCED) -/

/-- An input element in the computing type (R208, R213): a scalar is unboxed, an element has been fetched. -/
def Stream.vIn (y : Stream) (scalar : Option Word) (code i : Nat) : Option (Nat × Flags) :=
  match scalar with
  | some w => some (unbox code w, 0#5)
  | none => (tget y.fetched i).map fun e => y.popped code e

/-- VCVT's input: straight from the stream format, with Y's saturate selector (R213). -/
def Stream.vCvtIn (y : Stream) (scalar : Option Word) (rm : Rnd) (sat : Bool) (code i : Nat) : Option (Nat × Flags) :=
  match scalar with
  | some w => some (unbox code w, 0#5)
  | none => (tget y.fetched i).map fun e =>
    if y.fmt = 0 then (e.raw, 0#5)
    else
      let (v, f1) := e.val y.fmt
      let (r, f2) := (codeFmt code).ofValue rm sat v
      (r, f1 ||| f2)

/-- VIADD's input as an integer of w bits (R215) (log 39, DEDUCED). -/
def Stream.vIntIn (y : Stream) (scalar : Option Word) (sat : Bool) (w i : Nat) : Option (Int × Flags) :=
  match scalar with
  | some v => some (toSigned w v.toNat, 0#5)
  | none => (tget y.fetched i).map fun e =>
    if y.fmt = 0 then (toSigned w e.raw, 0#5)
    else
      let (v, f1) := e.val y.fmt
      let (r, f2) := v.toInt .rne sat true w
      (toSigned w r, f1 ||| f2)

/-- VGATHER's index: the element converted to INT64 once, from its own format (R217). -/
def Stream.vIndex (y : Stream) (scalar : Option Word) (code i : Nat) : Option (Int × Flags) :=
  let int (v : FVal) : Int × Flags := let (j, f) := v.toInt .rne false true 64; (toSigned 64 j, f)
  match scalar with
  | some w => some (int ((codeFmt code).value (unbox code w)))
  | none => (tget y.fetched i).map fun e =>
    if y.fmt = 0 then int ((codeFmt code).value e.raw)
    else
      let (v, f1) := e.val y.fmt
      let (j, f2) := int v
      (j, f1 ||| f2)

/-- VIADD's result in Y's format (R215, R49: an integer made narrower raises no flag). -/
def Stream.vIntOut (y : Stream) (scales : Nat × Nat) (i : Int) (w : Nat) : Nat × Flags :=
  if y.fmt = 0 then ((i % (2 ^ w : Nat)).toNat, 0#5)
  else
    let (r, f) := y.encodeVal scales (FVal.ofInt i)
    (r, if (intFmt y.fmt).isSome then 0#5 else f)

/-- A result's NaN is the canonical one (02_numbers.md R33). -/
def Fmt.canonical (F : Fmt) (v : Nat) : Nat := if (F.value v).isNan then F.canonicalNan else v

/-- One element of an element-wise command: the arithmetic of R213 in the computing type. -/
def vElem (F : Fmt) (rm : Rnd) (op a b yOld : Nat) : Nat × Flags :=
  match op with
  | 0 => F.add rm a b
  | 1 => F.sub rm a b
  | 2 => F.mul rm a b
  | 3 => F.fma rm false false yOld a b
  | 4 => F.minMax false a b
  | 5 => F.minMax true a b
  | 6 => F.div rm a b
  | 7 => F.sqrt rm a
  | 11 => F.fma rm false false a b yOld
  | 12 => F.mul rm a yOld
  | _ => (F.canonical a, 0#5)

/-- Whether a command reads Y's old elements (R214). -/
def vInPlace (op : Nat) : Bool := op == 3 || op == 11 || op == 12

/-- What the next element of a command comes to. -/
inductive VNext where
  /-- An element it needs has not been fetched. -/
  | wait
  /-- VGATHER's index is out of range (R217). -/
  | stop
  /-- What is pushed to Y, given Y and its block's scales, and the flags of the inputs and of the arithmetic. -/
  | push (enc : Stream → Nat × Nat → Nat × Flags) (fl : Flags)

/-- The next element of the command that runs in a context (R213, R215, R217). -/
def Ctx.vNext (x : Ctx) (v : VCmd) : VNext :=
  let A := x.stream v.fs1
  let B := x.stream v.fs2
  let Y := x.stream v.fd
  let code := v.et + 1
  let F := codeFmt code
  let rm := (Rnd.ofCode v.frm).getD .rne
  let i := v.next
  if v.op = vIadd then
    let w := codeWidth code
    match A.vIntIn v.a Y.sat w (v.posA + i), B.vIntIn v.b Y.sat w (v.posB + i) with
    | some (a, f1), some (b, f2) =>
      let sum := if v.et = 3 then max (-32768) (min 32767 (a + b)) else toSigned w ((a + b) % (2 ^ w : Nat)).toNat
      .push (fun y sc => y.vIntOut sc sum w) (f1 ||| f2)
    | _, _ => .wait
  else if v.op = vGather then
    match A.vIndex v.a code (v.posA + i) with
    | none => .wait
    | some (j, f1) =>
      if j < 0 || B.total ≤ j then .stop
      else
        match B.vIn none code j.toNat with
        | none => .wait
        | some (e, f2) => .push (fun y sc => y.encode sc code (F.canonical e)) (f1 ||| f2)
  else
    let a := if v.op = vCvt then A.vCvtIn v.a rm Y.sat code (v.posA + i) else A.vIn v.a code (v.posA + i)
    let b := if vHasB v.op then B.vIn v.b code (v.posB + i) else some (0, 0#5)
    let old := if vInPlace v.op then Y.vIn none code (v.posY + i) else some (0, 0#5)
    match a, b, old with
    | some (a, f1), some (b, f2), some (old, f3) =>
      let (r, f4) := vElem F rm v.op a b old
      .push (fun y sc => y.encode sc code r) (f1 ||| f2 ||| f3 ||| f4)
    | _, _, _ => .wait

/-- The elements of a stream that a command has popped are gone. -/
def Ctx.dropFetched (c : Ctx) (r : FReg) (i : Nat) : Ctx :=
  c.setStream r { c.stream r with fetched := (c.stream r).fetched.filter fun p => decide (i ≤ p.1) }

/-- The context after one element of its running command: the elements popped, and the command's flags and progress. -/
def Ctx.vPopped (c : Ctx) (v : VCmd) (fl : Flags) : Ctx :=
  let c := if v.b.isNone && v.op != vGather then c.dropFetched v.fs2 (v.posB + v.next + 1) else c
  let c := if v.op = vGather then c.setStream v.fs2 { c.stream v.fs2 with
      fetched := if v.a.isNone && v.fs1 == v.fs2 then (c.stream v.fs2).fetched else [] } else c
  let c := if v.a.isNone then c.dropFetched v.fs1 (v.posA + v.next + 1) else c
  let c := if vInPlace v.op then c.dropFetched v.fd (v.posY + v.next + 1) else c
  { c with vcmds := { v with next := v.next + 1, fl := v.fl ||| fl } :: c.vcmds.tail }

/-- The next element of a slot's running command pushed into Y's buffer (R208, R211): none while an input is missing or the
buffer is full. -/
def State.vPush (s : State) (t c : Nat) (v : VCmd) : Option State :=
  let x := (s.tile t).slot c
  if v.n ≤ v.next || decide (16 ≤ (x.stream v.fd).out.length) then none
  else
    match x.vNext v with
    | .push enc fl =>
      let (y, sc) := s.pushScales t (x.stream v.fd) (v.posY + v.next)
      let (raw, f) := enc y sc
      let y := { y with out := y.out ++ [(s.nextId, some raw)] }
      let s : State := { s with nextId := s.nextId + 1 }
      some (s.modCtx (.tile t) c fun x => (x.setStream v.fd y).vPopped v (fl ||| f))
    | _ => none

/-! ### Reductions (R56) -/

/-- The lanes of a computing type. -/
def lanes (et : Nat) : Nat :=
  match et with
  | 0 => 32
  | 1 => 64
  | _ => 128

/-- One pairwise level of reduce. -/
def combineLevel (f : Nat → Nat → Nat × Flags) : List (Option Nat) → List (Option Nat) × Flags
  | p :: q :: l =>
    let (r, fl) := combineLevel f l
    match p, q with
    | some a, some b => let (v, f1) := f a b; (some v :: r, f1 ||| fl)
    | some a, none => (some a :: r, fl)
    | none, b => (b :: r, fl)
  | l => (l, 0#5)

/-- Pairwise levels until one value is left; 2^k lanes take k levels. -/
def combineAll (f : Nat → Nat → Nat × Flags) : Nat → List (Option Nat) → List (Option Nat) × Flags
  | 0, l => (l, 0#5)
  | k + 1, l =>
    let (l, f1) := combineLevel f l
    let (l, f2) := combineAll f k l
    (l, f1 ||| f2)

/-- Element i entered in its lane (R56), in the accumulator format. -/
def reduceStep (F : Fmt) (rm : Rnd) (op L : Nat) (acc : List (Option Nat)) (i a b : Nat) : List (Option Nat) × Flags :=
  let j := i % L
  let (v, f) : Nat × Flags := match acc.getD j none, op with
    | none, 13 => F.mul rm a b
    | none, _ => (a, 0#5)
    | some x, 13 => F.fma rm false false a b x
    | some x, 15 => F.minMax true x a
    | some x, _ => F.add rm x a
  (acc.set j (some v), f)

/-- The lanes of a reduction combined (R56) (log 40, DEDUCED). -/
def reduceEnd (F : Fmt) (rm : Rnd) (op L : Nat) (acc : List (Option Nat)) : Nat × Flags :=
  let add (a b : Nat) : Nat × Flags := if op = 15 then F.minMax true a b else F.add rm a b
  let (acc, f1) := combineAll add (Nat.log2 L) acc
  match acc.getD 0 none with
  | none => (0, f1)
  | some v => let (r, f2) := F.ofValue .rne false (F.value v); (r, f1 ||| f2)

/-- The accumulator's format code of a computing type (R56). -/
def accCode (et : Nat) : Nat := if et = 0 then 1 else 2

/-- The next element of a slot's running reduction taken (R216): .H and .B elements widen exactly to FP32. -/
def State.vReduce (s : State) (t c : Nat) (v : VCmd) : Option State :=
  let x := (s.tile t).slot c
  let code := v.et + 1
  let F := codeFmt (accCode v.et)
  let widen (a : Nat) : Nat × Flags := if v.et ≤ 1 then (a, 0#5) else (codeFmt code).convert F .rne false a
  let b := if v.op = 13 then (x.stream v.fs2).vIn v.b code (v.posB + v.next) else some (0, 0#5)
  if v.n ≤ v.next then none
  else
    match (x.stream v.fs1).vIn v.a code (v.posA + v.next), b with
    | some (a, f1), some (b, f2) =>
      let (a, f3) := widen a
      let (b, f4) := if v.op = 13 then widen b else (b, 0#5)
      let acc := if v.acc.isEmpty then List.replicate (lanes v.et) none else v.acc
      let (acc, f5) := reduceStep F ((Rnd.ofCode v.frm).getD .rne) v.op (lanes v.et) acc v.next a b
      some (s.modCtx (.tile t) c fun x => x.vPopped { v with acc := acc } (f1 ||| f2 ||| f3 ||| f4 ||| f5))
    | _, _ => none

/-- The elements of a slot's running command that can be computed from what has been fetched, at most k. -/
def State.vRun (t c : Nat) : Nat → State → State
  | 0, s => s
  | k + 1, s =>
    match ((s.tile t).slot c).vcmds with
    | [] => s
    | v :: _ =>
      match (if vReduction v.op then s.vReduce t c v else s.vPush t c v) with
      | some s => State.vRun t c k s
      | none => s

/-! ### The events of elements (R211) -/

/-- The next element of a stream that the running command of a context reads: an input's at most 16 ahead of its pop, Y's old one
once what was pushed before has performed, VGATHER's table element once its index is known. -/
def Ctx.vFetch (c : Ctx) (v : VCmd) (r : FReg) : Option Nat :=
  let y := c.stream r
  let has (p : Nat) : Bool := (tget y.fetched p).isSome
  let ahead (p : Nat) : Option Nat :=
    ((List.range 16).map (v.next + ·)).findSome? fun i => if i < v.n && !has (p + i) then some (p + i) else none
  let a := if v.a.isNone && r == v.fs1 then ahead v.posA else none
  let b := if vHasB v.op && v.op != vGather && v.b.isNone && r == v.fs2 then ahead v.posB else none
  let old := if vInPlace v.op && r == v.fd && v.next < v.n && y.out.isEmpty && !has (v.posY + v.next) then some (v.posY + v.next)
    else none
  let table := if v.op = vGather && r == v.fs2 && v.next < v.n then
      ((c.stream v.fs1).vIndex v.a (v.et + 1) (v.posA + v.next)).bind fun p =>
        if 0 ≤ p.1 && p.1 < y.total && !has p.1.toNat then some p.1.toNat else none
    else none
  ((a.or b).or old).or table

/-- The next element of a stream that is fetched: for the running command, or ahead of the pops of scalar instructions. -/
def Ctx.fetchNext (c : Ctx) (r : FReg) : Option Nat :=
  let y := c.stream r
  match c.vcmds with
  | v :: _ => if c.commandUses r then c.vFetch v r else if y.dir = 1 then y.nextFetch else none
  | [] => if y.dir = 1 then y.nextFetch else none

/-- An element of a stream fetched, and what the running command computes from it. -/
def evFetch (t c r : Nat) (s : State) : Option State :=
  let f : FReg := BitVec.ofNat 3 r
  let x := (s.tile t).slot c
  let y := x.stream f
  (x.fetchNext f).map fun i =>
    let e := s.readElem t y i
    (s.modCtx (.tile t) c fun x => x.setStream f { y with fetched := tput y.fetched i e }).vRun t c 16

/-- STREAM_ELEMENT_FETCH (R211). -/
def execStreamElementFetch (t c r : Nat) (s : State) : Out := .next ((evFetch t c r s).getD s)

/-- The oldest pushed element of an output stream performs, and the running command goes on. -/
def evOutput (t c r : Nat) (s : State) : Option State :=
  let f : FReg := BitVec.ofNat 3 r
  let y := ((s.tile t).slot c).stream f
  match y.dir, y.out with
  | 2, (_, some raw) :: l =>
    some (((s.writeElem t y y.done raw).modCtx (.tile t) c fun x =>
      x.setStream f { y with out := l, done := y.done + 1 }).vRun t c 16)
  | _, _ => none

/-- STREAM_OUTPUT_PERFORM (R211). -/
def execStreamOutputPerform (t c r : Nat) (s : State) : Out := .next ((evOutput t c r s).getD s)

/-! ### Completion (R217, R219, R221) -/

/-- A stream put at a position. -/
def Ctx.placeStream (c : Ctx) (r : FReg) (p : Nat) : Ctx :=
  c.setStream r { c.stream r with pos := p, done := p, fetched := [] }

/-- A later command discarded after a stop: its claims released, a reduction's fd as it was (R217). -/
def Ctx.discard (c : Ctx) (v : VCmd) : Ctx :=
  let c := if v.a.isNone then c.placeStream v.fs1 v.posA else c
  let c := if v.b.isNone && v.op != vGather then c.placeStream v.fs2 v.posB else c
  if vReduction v.op then { c with pend := c.pend.filter fun p => p.kind != .vector v.id }
  else
    let y := c.stream v.fd
    c.setStream v.fd { y with pos := v.posY }

/-- The context after a command that stopped before element i (R217). -/
def Ctx.stopAt (c : Ctx) (v : VCmd) (i : Nat) : Ctx :=
  let c := c.vcmds.tail.reverse.foldl Ctx.discard c
  let c := (c.placeStream v.fd (v.posY + i))
  let c := if v.a.isNone then c.placeStream v.fs1 (v.posA + i + 1) else c
  let c := c.setStream v.fs2 { c.stream v.fs2 with fetched := [] }
  { c with vcmds := [], vdone := i, vstatus := 1, vpend := true }

/-- A command has completed: its flags are raised, and the next one begins (R219). -/
def State.vDone (s : State) (t c : Nat) (v : VCmd) (fl : Flags) : State :=
  let clear (x : Ctx) (r : FReg) : Ctx := x.setStream r { x.stream r with fetched := [] }
  (s.modCtx (.tile t) c fun x =>
    let x := [v.fs1, v.fs2, v.fd].foldl (fun x r => if v.uses r then clear x r else x) x
    { x.orFlags fl with vcmds := x.vcmds.tail, vdone := v.n, vstatus := 0 }).vRun t c 16

/-- The oldest command of a context completes, once its time is over and each of its elements has performed; one whose next
index is out of range stops when what it pushed has performed (R217). -/
def evVector (t c : Nat) (s : State) : Option State :=
  let x := (s.tile t).slot c
  match x.vcmds with
  | [] => none
  | v :: _ =>
    let a := Agent.tile t
    let s' := s.vRun t c 16
    let y := x.stream v.fd
    if (s.tile t).cycles < v.due then none
    else if vReduction v.op then
      if v.next < v.n then none
      else
        let (r, fl) := reduceEnd (codeFmt (accCode v.et)) ((Rnd.ofCode v.frm).getD .rne) v.op (lanes v.et) v.acc
        match takeFirst (fun p : Producer => p.kind == .vector v.id) x.pend with
        | some (p, l) =>
          some (((s.modCtx a c fun x => { x with pend := l }).fillDest a c p.dest (accCode v.et) (BitVec.ofNat 64 r) 0#5).vDone t c v
            (v.fl ||| fl))
        | none => some (s.vDone t c v (v.fl ||| fl))
    else if !y.out.isEmpty then none
    else if v.n ≤ v.next then some (s.vDone t c v v.fl)
    else
      match x.vNext v with
      | .stop => some (s.modCtx a c fun x => x.stopAt v v.next)
      | .wait => none
      | .push _ _ => some s'

/-- VECTOR_COMMAND_COMPLETE (R219). -/
def execVectorCommandComplete (t c : Nat) (s : State) : Out := .next ((evVector t c s).getD s)

/-! ### Bridge registers (R222, R223) -/

/-- BGET (R222). -/
noncomputable def execBget (rd : XReg) (bn : BitVec 4) (s : State) : Out :=
  issue (.bget rd bn) s fun s =>
    let T := s.curT
    if !T.bfull[bn.toNat] then s.forfeit
    else ((s.modTile s.curTile fun T => { T with bfull := T.bfull.set bn.toNat false }).setX rd T.bridge[bn.toNat]).retire

/-- BPUT (R222). -/
noncomputable def execBput (rs1 : XReg) (bn : BitVec 4) (s : State) : Out :=
  issue (.bput rs1 bn) s fun s =>
    let T := s.curT
    if T.bfull[bn.toNat] then s.forfeit
    else
      let v := s.x1 rs1
      (s.modTile s.curTile fun T =>
        { T with bridge := T.bridge.set bn.toNat v, bfull := T.bfull.set bn.toNat true }).retire

/-! ### Furrows (R224 to R226) -/

/-- Whether the neighbour in a direction holds a rank of the current partition (R224). -/
def State.furrowPeer (s : State) (dir : Nat) : Bool := (s.victim s.curTile dir).isSome

/-- FURROW's operand checks (R224). -/
def State.furrowBad (s : State) (v w : Word) : Bool :=
  let upv := bit v 2
  let dnv := bit v 6
  bit v 3 || fld v 63 7 != 0 || fld w 63 16 != 0 || (!upv && !dnv) || (upv && dnv && fld v 1 0 == fld v 5 4) ||
  (upv && !s.furrowPeer (fld v 1 0)) || (dnv && !s.furrowPeer (fld v 5 4)) || s.curT.port.isSome || s.cur.th.furrow

/-- FURROW (R224). -/
noncomputable def execFurrow (rs1 rs2 : XReg) (s : State) : Out :=
  issue (.furrow rs1 rs2) s fun s =>
    let v := s.x1 rs1
    let w := s.x2 rs1 rs2
    if s.furrowBad v w then s.trap 29 ((Instr.furrow rs1 rs2).word.zeroExtend 64)
    else
      let P : Furrow := ⟨s.cur.th.gtid, if bit v 2 then some (fld v 1 0) else none,
        if bit v 6 then some (fld v 5 4) else none, fld w 15 0, [], [], false, false⟩
      ((s.modTile s.curTile fun T => { T with port := some P }).modCur fun c =>
        { c with th := { c.th with furrow := true } }).retire

/-- UNFURROW (R226). -/
noncomputable def execUnfurrow (s : State) : Out :=
  issue .unfurrow s fun s =>
    if !s.cur.th.furrow then s.retire
    else if !s.portDrained s.curTile s.curSlot then s.forfeit
    else
      let g := s.cur.th.gtid
      ((s.modTile s.curTile fun T => T.unbindPort g).modCur fun c =>
        { c with th := { c.th with furrow := false, x := c.th.x.set 15 0 } }).retire

/-- A word crosses from a tile's outbound queue to its downstream neighbour's inbound queue (R225). -/
def evFurrow (t : Nat) (s : State) : Option State :=
  (s.tile t).port.bind fun P =>
    match P.outq, P.dn with
    | (_, some w) :: r, some dir =>
      (neighbour t dir).bind fun d =>
        (s.tile d).port.bind fun Q =>
          if Q.up = some ((dir + 2) % 4) && Q.tag == P.tag && decide (Q.inq.length < 8) && !P.dnGone then
            some ((s.modTile t fun T => { T with port := some { P with outq := r } }).modTile d fun T =>
              { T with port := some { Q with inq := Q.inq ++ [w] } })
          else none
    | _, _ => none

/-- FURROW_WORD_TRANSFER (R225). -/
def execFurrowWordTransfer (t : Nat) (s : State) : Out := .next ((evFurrow t s).getD s)

end Sys2Proof.Machine
end

