-- ==== Sys2Proof/Machine/Matrix.lean ====
section
/-! DEFINITION. The matrix engine (12_matrix.md R228 to R248, 02_numbers.md R53 to R55), and the gangs it works in
(10_barrier.md R201, R202). -/
namespace Sys2Proof.Machine

/-! ### The parameter block (R229 to R232) -/

def mxWord (b : List Word) (i : Nat) : Word := b.getD i 0
def mxM (b : List Word) : Nat := fld (mxWord b 4) 15 0
def mxN (b : List Word) : Nat := fld (mxWord b 4) 31 16
def mxK (b : List Word) : Nat := fld (mxWord b 4) 47 32
def mxTag (b : List Word) : Nat := fld (mxWord b 4) 63 48
def mxTb (b : List Word) : Bool := bit (mxWord b 5) 63
def mxTa (b : List Word) : Bool := bit (mxWord b 5) 62
def mxAcc (b : List Word) : Bool := bit (mxWord b 5) 61
def mxSat (b : List Word) : Bool := bit (mxWord b 5) 60
def mxLdd (b : List Word) : Nat := fld (mxWord b 5) 59 40
def mxLdb (b : List Word) : Nat := fld (mxWord b 5) 39 20
def mxLda (b : List Word) : Nat := fld (mxWord b 5) 19 0
/-- The barrier slot's offset, 0 for none. -/
def mxBslot (b : List Word) : Nat := fld (mxWord b 6) 62 44 * 16
def mxAgsc (b : List Word) : Nat := fld (mxWord b 6) 43 23 * 4
def mxAsc (b : List Word) : Nat := fld (mxWord b 6) 22 0
def mxPrio (b : List Word) : Nat := fld (mxWord b 7) 45 44
def mxBgsc (b : List Word) : Nat := fld (mxWord b 7) 43 23 * 4
def mxBsc (b : List Word) : Nat := fld (mxWord b 7) 22 0
def mxFmtA (b : List Word) : Nat := ptrFmt (mxWord b 0)
def mxFmtB (b : List Word) : Nat := ptrFmt (mxWord b 1)
def mxFmtD (b : List Word) : Nat := ptrFmt (mxWord b 2)

/-- A legal pair of operand formats: the group size, the accumulator's format code with 0 for INT32, and the legal
output formats (R231) (log 45, DEDUCED). -/
def mxPair (fa fb : Nat) : Option (Nat × Nat × List Nat) :=
  let half := [2, 3, 4, 5, 6]
  if fa = 1 && fb = 1 then some (8, 1, [1, 2])
  else if fa = 2 && fb = 2 then some (16, 2, [2, 3, 4])
  else if (fa = 3 || fa = 4) && (fb = fa || [5, 6, 11, 12].contains fb) then some (32, 2, half)
  else if [5, 6].contains fa && [5, 6].contains fb then some (64, 2, half)
  else if [11, 12].contains fa && [11, 12].contains fb then some (128, 2, half)
  else if [7, 8].contains fa && [7, 8, 9, 10].contains fb then some (64, 0, [0, 7, 8])
  else if [9, 10].contains fa && [9, 10].contains fb then some (128, 0, [0, 7, 8])
  else none

def mxGroup (b : List Word) : Nat := ((mxPair (mxFmtA b) (mxFmtB b)).map (·.1)).getD 1
def mxAccFmt (b : List Word) : Nat := ((mxPair (mxFmtA b) (mxFmtB b)).map (·.2.1)).getD 0

/-- A matrix format's element width: format 0 is INT32 (R229). -/
def mxWidth (fmt : Nat) : Nat := if fmt = 0 then 32 else elemWidth fmt 0

/-- Block-scaled formats. -/
def mxScaled (fmt : Nat) : Bool := fmt == 11 || fmt == 12

/-- An element's alignment (R232). -/
def mxAlign (fmt : Nat) : Nat := if mxScaled fmt then 32 else max 1 (mxWidth fmt / 8)

/-- R231 and R232; a gang member other than member 0 ignores B's address and scales (R235). -/
def mxLegal (b : List Word) (ownB : Bool) : Bool :=
  let fa := mxFmtA b
  let fb := mxFmtB b
  let fd := mxFmtD b
  let blockOk (i f : Nat) : Bool := decide (f ≤ 12) && ptrBlock (mxWord b i) == (if mxScaled f then 6 else 0)
  (match mxPair fa fb with
   | some (_, _, ds) => ds.contains fd
   | none => false) &&
  blockOk 0 fa && blockOk 1 fb && blockOk 2 fd &&
  mxM b != 0 && mxN b != 0 && mxK b != 0 &&
  decide ((if mxTa b then mxM b else mxK b) ≤ mxLda b) && decide ((if mxTb b then mxK b else mxN b) ≤ mxLdb b) &&
  decide (mxN b ≤ mxLdd b) && !bit (mxWord b 6) 63 && fld (mxWord b 7) 63 46 == 0 &&
  (if mxScaled fa then !mxTa b && mxK b % 64 == 0 && mxLda b % 64 == 0 else mxAsc b == 0 && mxAgsc b == 0) &&
  (if mxScaled fb then mxTb b && mxLdb b % 64 == 0 else !ownB || (mxBsc b == 0 && mxBgsc b == 0)) &&
  ptrAddr (mxWord b 0) % mxAlign fa == 0 && (!ownB || ptrAddr (mxWord b 1) % mxAlign fb == 0) &&
  ptrAddr (mxWord b 2) % mxAlign fd == 0 && (mxBslot b == 0 || decide (0x10000 ≤ mxBslot b))

/-- The element offset of A[m][k] and of B[k][n] (R229). -/
def mxOffA (b : List Word) (m k : Nat) : Nat := if mxTa b then k * mxLda b + m else m * mxLda b + k
def mxOffB (b : List Word) (k n : Nat) : Nat := if mxTb b then n * mxLdb b + k else k * mxLdb b + n

/-- The last byte of an element, from the operand's first byte. -/
def mxLast (fmt e : Nat) : Nat := if mxWidth fmt = 4 then e / 2 else (e + 1) * (mxWidth fmt / 8) - 1

def mxLastA (b : List Word) : Nat := mxOffA b (mxM b - 1) (mxK b - 1)
def mxLastB (b : List Word) : Nat := mxOffB b (mxK b - 1) (mxN b - 1)
def mxLastD (b : List Word) : Nat := (mxM b - 1) * mxLdd b + mxN b - 1

/-! ### Issue (R234, R235) -/

/-- An operand's extent (R234 step 4): in program scratchpad, or in one leaf's page of the current rank; the key of
its first byte. -/
def State.mxPlace (s : State) (k : AKind) (p : Word) (last : Nat) (go : Nat → Loc → State → State) : State :=
  let t := s.curTile
  let a := ptrAddr p
  match ptrSpace p with
  | 1 => if inProgram a (a + last) then go (spadKey t a) (.spad a) s else s.trap k.access p
  | 0 =>
    match s.xlat k p with
    | .pageFault => s.trap k.page p
    | .accessFault => s.trap k.access p
    | .miss host a => s.replay fun s => s.startXlat host a
    | .ok (.dram rank off rep xp) =>
      let inLeaf : Bool := match s.xlatMode false with
        | none => decide (off + last < 2 ^ 33)
        | some _ =>
          match s.curT.tlb.find? fun e => e.covers false (fld (s.priv s.focus).satp 59 44) a with
          | some e => decide (a + last < e.va + 2 ^ e.size)
          | none => false
      if (rep || rank == s.curRank) && inLeaf then go (dramKey t off) (.dram s.curRank off rep xp) (s.touch p)
      else s.trap k.access p
    | .ok _ => s.trap k.access p
  | _ => s.trap k.access p

/-- The scale bytes an operand uses lie in program scratchpad (R230, R234). -/
def mxScalesIn (fmt sc gs e : Nat) : Bool :=
  !mxScaled fmt || (inProgram sc (sc + e / 64) && inProgram gs (gs + 4 * (e / 16384) + 3))

/-- For whom the issuing context's engine commands work. -/
def State.engWho (s : State) : EngWho := ⟨s.xlatMode false, s.full, s.cur.th.gtid⟩

/-- The checks of step 4, then the continuation with the keys of A, B and D (log 46, DEDUCED). -/
def State.mxCheck (s : State) (b : List Word) (ownB : Bool) (go : Nat → Nat → Nat → State → State) : State :=
  let pa := mxWord b 0
  let pb := mxWord b 1
  let pd := mxWord b 2
  let withB (s : State) (go : Nat → State → State) : State :=
    if ownB then s.mxPlace akLoad pb (mxLast (mxFmtB b) (mxLastB b)) fun k _ s => go k s else go 0 s
  s.mxPlace akLoad pa (mxLast (mxFmtA b) (mxLastA b)) fun ka _ s =>
    withB s fun kb s =>
      if !mxScalesIn (mxFmtA b) (mxAsc b) (mxAgsc b) (mxLastA b) then s.trap 5 pa
      else if ownB && !mxScalesIn (mxFmtB b) (mxBsc b) (mxBgsc b) (mxLastB b) then s.trap 5 pb
      else
        let last := mxLast (mxFmtD b) (mxLastD b)
        s.mxPlace akStore pd last fun kd l s =>
          match l with
          | .spad _ => go ka kb kd s
          | l => s.contained l (last + 1) pd fun s => go ka kb kd s

/-- An operation as it enters the queue. -/
def MxOp.fresh (seq : Nat) (who : EngWho) (b : List Word) (ka kb kd : Nat) (gang : Option (Nat × Nat)) (now : Nat) : MxOp :=
  { seq := seq, who := who, blk := b, ka := ka, kb := kb, kd := kd, gang := gang, since := now, prio := 0,
    ready := false, overtaker := false, started := false, status := 0, stop := none, cause := 0, pos := 0,
    bshort := false, blost := false, done := 0, block := 0, kstep := 0, due := 0, acc := [], outs := [], writing := none,
    left := [], nv := 0, of_ := 0, uf := 0, nx := 0, out := 0 }

/-- An operation that ends: among the 16 most recent; a gang operation's arrival goes on its way to the completion
slot (R248, 10_barrier.md R202). -/
def Tile.mxEnd (T : Tile) (x : MxOp) : Tile :=
  let wire := match x.gang, T.gang with
    | some _, some g => T.wire ++ [g.slot]
    | _, _ => T.wire
  { T with mxDone := (x :: T.mxDone).take 16, wire := wire }

/-- The member tiles of a gang. -/
def State.gangTiles (s : State) (id : Nat) : List Nat :=
  (s.tiles.filter fun p => match p.2.gang with
    | some g => g.id == id
    | none => false).map (·.1)

/-- The first of two events that end an operation: of those in one cycle, the one at the lower position (R247). -/
def firstStop (a : Option (Nat × Nat × Nat × Nat)) (b : Nat × Nat × Nat × Nat) : Option (Nat × Nat × Nat × Nat) :=
  match a with
  | none => some b
  | some a => if b.2.2.2 < a.2.2.2 || (b.2.2.2 == a.2.2.2 && b.2.2.1 < a.2.2.1) then some b else some a

/-- An operation that an abort ends. -/
def MxOp.abort (x : MxOp) (e : Nat × Nat × Nat × Nat) : MxOp :=
  let e := (firstStop x.stop e).getD e
  { x with status := e.1, cause := e.2.1, pos := e.2.2.1, stop := some e }

/-- A joint operation's abort at one member (R247): one that has started stops at its next boundary; one that has
not ends now; one that the member has not issued is remembered (log 50, DEDUCED). -/
def Tile.abortJoint (T : Tile) (id j : Nat) (e : Nat × Nat × Nat × Nat) : Tile :=
  let mine (x : MxOp) : Bool := x.gang == some (id, j)
  match T.mxRun with
  | some x =>
    if mine x then
      if x.started then { T with mxRun := some { x with stop := firstStop x.stop e } }
      else { T with mxRun := none }.mxEnd (x.abort e)
    else inQueue T mine
  | none => inQueue T mine
where
  inQueue (T : Tile) (mine : MxOp → Bool) : Tile :=
    match takeFirst mine T.mxQueue with
    | some (x, r) => { T with mxQueue := r }.mxEnd (x.abort e)
    | none =>
      match T.gang with
      | some g =>
        if g.next ≤ j then
          { T with gang := some { g with ended := tput g.ended j ((firstStop (tget g.ended j) e).getD e) } }
        else { T with mxDone := T.mxDone.map fun x => if mine x && x.status == 4 && !x.started then x.abort e else x }
      | none => T

/-- The abort carried to every member: its cause, the position of the member that it comes from, and the cycle. -/
def State.abortJoint (s : State) (id j cause pos cycle : Nat) : State :=
  (s.gangTiles id).foldl (fun s t => s.modTile t fun T => T.abortJoint id j (4, cause, pos, cycle)) s

/-- A win that is malformed or poison ends its operation (R234, R239, R245). -/
def State.mxBadWin (s : State) (t : Nat) (x : MxOp) : State :=
  match x.gang with
  | some (id, j) => s.abortJoint id j 6 (((s.tile t).gang.map (·.pos)).getD 0) (s.tile t).cycles
  | none => s.modTile t fun T =>
      { T with mxQueue := T.mxQueue.filter fun y => y.seq != x.seq }.mxEnd { x with status := 6 }

/-- An operation accepted (R234 step 5): the ticket, and the queue; a gang operation whose joint operation has ended
ends at once (R245). -/
def State.mxAccept (s : State) (rd : XReg) (b : List Word) (ka kb kd : Nat) (gang : Bool) : State :=
  let t := s.curTile
  let T := s.curT
  let g := if gang then T.gang else none
  let x := MxOp.fresh T.mxSeq s.engWho b ka kb kd (g.map fun g => (g.id, g.next)) T.cycles
  let ticket : Word := BitVec.ofNat 64 (s.curRank * 2 ^ 16 + T.mxSeq)
  let s := s.modTile t fun T => { T with mxSeq := (T.mxSeq + 1) % 2 ^ 16,
                                         gang := if gang then T.gang.map fun g => { g with next := g.next + 1 } else T.gang }
  let cut : Option (Nat × Nat × Nat × Nat) := match g with
    | some g => (tget g.ended g.next).or g.lost
    | none => none
  let s := match cut with
    | some e => s.modTile t fun T => T.mxEnd (x.abort e)
    | none =>
      let s := s.modTile t fun T => { T with mxQueue := T.mxQueue ++ [x] }
      let w := mxWord b 3
      if witKind w = 3 || !witWf s.grade w then s.mxBadWin t x else s
  (s.setX rd ticket).retireQuiet

/-- MXOP and MXG from step 1 on. -/
def State.mxIssue (s : State) (i : Instr) (rd : XReg) (p : Word) (gang : Bool) : State :=
  if 8 ≤ s.curT.mxQueue.length then s.forfeit
  else if ptrSpace p != 1 then s.trap (if ptrAddr p % 64 != 0 then 4 else 5) p
  else
    s.withLoc akLoad 64 p fun l s =>
      let b := s.rdWords (l.key s.curTile) 8
      let ownB := !gang || ((s.curT.gang.map (·.pos)).getD 0) == 0
      if !mxLegal b ownB then s.illegal i.word
      else s.mxCheck b ownB fun ka kb kd s => s.mxAccept rd b ka kb kd gang

/-- MXOP (R234). -/
noncomputable def execMxop (rd rs1 : XReg) (s : State) : Out :=
  issue (.mxop rd rs1) s fun s => s.mxIssue (.mxop rd rs1) rd (effPtr (s.x1 rs1) 0) false

/-- MXG (R235). -/
noncomputable def execMxg (rd rs1 : XReg) (s : State) : Out :=
  issue (.mxg rd rs1) s fun s =>
    if s.curT.gang.isNone then s.trap 50 ((Instr.mxg rd rs1).word.zeroExtend 64)
    else s.mxIssue (.mxg rd rs1) rd (effPtr (s.x1 rs1) 0) true

/-! ### Status (R236 to R238) -/

/-- Whether an operation has ended. -/
def MxOp.final (x : MxOp) : Bool := decide (3 ≤ x.status)

/-- The operation a ticket names, if it is known, and whether it has ended. -/
def State.mxFind (s : State) (t ticket : Nat) : Option (MxOp × Bool) :=
  let T := s.tile t
  if ticket / 2 ^ 16 != s.rankOf t then none
  else
    let mine (x : MxOp) : Bool := x.seq == ticket % 2 ^ 16
    match (T.mxQueue ++ T.mxRun.toList ++ T.mxHeld.toList).find? mine with
    | some x => some (x, false)
    | none => (T.mxDone.find? mine).map fun x => (x, true)

/-- The status word (R237). -/
def mxStatusWord (x : Option (MxOp × Bool)) : Word :=
  match x with
  | none => 8
  | some (x, ended) =>
    let done := ended && x.status == 3
    let f (n i : Nat) : Nat := if done && n != 0 then 2 ^ i else 0
    let st := if ended then x.status else if 3 ≤ x.status then 1 else x.status
    BitVec.ofNat 64 (mxTag x.blk * 2 ^ 48 + x.done % 2 ^ 16 * 2 ^ 32 + f x.nv 31 + f x.of_ 30 + f x.uf 29 + f x.nx 28 +
      bn x.bshort (2 ^ 27) + bn x.blost (2 ^ 26) +
      (if st = 4 then x.cause * 2 ^ 12 + x.pos * 2 ^ 8 else 0) + st)

/-- What MXSTAT writes (R236). -/
def State.mxStatValue (s : State) (t ticket sel : Nat) : Word :=
  let c := (s.tile t).mxCount
  match sel with
  | 0 | 1 => mxStatusWord (s.mxFind t ticket)
  | 2 =>
    match s.mxFind t ticket with
    | some (x, true) => if x.status = 3 then x.out else 0
    | _ => 0
  | 3 => BitVec.ofNat 64 (c.1 * 2 ^ 32 + c.2.1)
  | 4 => BitVec.ofNat 64 (c.2.2.1 * 2 ^ 32 + c.2.2.2)
  | _ => -1

/-- MXSTAT (R236): the waiting forms have no time of their own. -/
noncomputable def execMxstat (rd rs1 : XReg) (s : State) : Out :=
  issue (.mxstat rd rs1) s fun s =>
    let v := s.x1 rs1
    let sel := fld v 34 32
    let due := if sel = 0 || sel = 2 then none else some (s.curT.cycles + 8)
    (s.claim (.x rd) (.status due (fld v 27 0) sel) 0).retire

/-- Whether an MXSTAT's value can be written now. -/
def State.mxStatDue (s : State) (t : Nat) (p : Producer) : Bool :=
  match p.kind with
  | .status (some due) _ _ => decide (due ≤ (s.tile t).cycles)
  | .status none ticket _ =>
    match s.mxFind t ticket with
    | some (_, ended) => ended
    | none => true
  | _ => false

/-- A delayed value written. -/
def evMxstat (t c : Nat) (s : State) : Option State :=
  (takeFirst (s.mxStatDue t) ((s.tile t).slot c).pend).map fun (p, r) =>
    let s := s.modCtx (.tile t) c fun x => { x with pend := r }
    match p.kind with
    | .status _ ticket sel => s.fillDest (.tile t) c p.dest 1 (s.mxStatValue t ticket sel) 0#5
    | _ => s

/-- MXSTAT_RESULT (R236). -/
def execMxstatResult (t c : Nat) (s : State) : Out := .next ((evMxstat t c s).getD s)

/-- A cancel at the operation a ticket names (R238). -/
def State.mxCancel (s : State) (t ticket : Nat) : State :=
  match s.mxFind t ticket with
  | some (x, false) =>
    match x.gang with
    | some (id, j) => s.abortJoint id j 2 (((s.tile t).gang.map (·.pos)).getD 0) (s.tile t).cycles
    | none =>
      s.modTile t fun T =>
        if T.mxQueue.any fun y => y.seq == x.seq then
          { T with mxQueue := T.mxQueue.filter fun y => y.seq != x.seq }.mxEnd { x with status := 5 }
        else
          let stop (y : MxOp) : MxOp := if y.seq = x.seq then { y with stop := y.stop.or (some (5, 0, 0, T.cycles)) } else y
          { T with mxRun := T.mxRun.map stop, mxHeld := T.mxHeld.map stop }
  | _ => s

/-- MXCANCEL (R238). -/
noncomputable def execMxcancel (rs1 : XReg) (s : State) : Out :=
  issue (.mxcancel rs1) s fun s => (s.mxCancel s.curTile (fld (s.x1 rs1) 27 0)).retire

/-! ### Selection (R239, R243 to R245) -/

/-- The win of a queued operation checked (R239), with a probe where one is needed (07_witness.md R145). -/
def evMxWin (t i : Nat) (s : State) : Option State :=
  (s.tile t).mxQueue[i]?.bind fun x =>
    if x.ready then none
    else
      s.needWit (.tile t) (mxWord x.blk 3) (fun s => some (s.mxBadWin t x)) fun s =>
        some (s.modTile t fun T =>
          { T with mxQueue := T.mxQueue.map fun y => if y.seq = x.seq then { y with ready := true } else y })

/-- MXE_WIN_SATISFIED (R239). -/
def execMxeWinSatisfied (t i : Nat) (s : State) : Out := .next ((evMxWin t i s).getD s)

/-- An operation's effective priority in the queue (R243, R245). -/
def MxOp.effective (x : MxOp) (now : Nat) : Nat :=
  if x.gang.isSome then 3 else min 3 (mxPrio x.blk + (now - x.since) / 4096)

/-- The eligible queued operation of the highest effective priority, the oldest among equals. -/
def Tile.mxBest (T : Tile) : Option MxOp :=
  (T.mxQueue.filter fun x => x.ready).foldl (fun b x =>
    match b with
    | none => some x
    | some y => if y.effective T.cycles < x.effective T.cycles then some x else b) none

/-- The cycles of a k-step: 32, or 64 for FP32 and FP64, whose k-groups are the shortest (R228) (log 51, DEDUCED). -/
def mxCycles (b : List Word) : Nat := if mxGroup b ≤ 16 then 64 else 32

/-- An operation that runs from a tile cycle on. -/
def MxOp.runFrom (x : MxOp) (now : Nat) : MxOp := { x with status := 1, due := now + mxCycles x.blk }

/-- An operation leaves the queue for the engine; a gang operation waits there for its partners, still QUEUED. -/
def Tile.mxTake (T : Tile) (x : MxOp) (overtaker : Bool) : Tile :=
  { T with
    mxQueue := T.mxQueue.filter fun y => y.seq != x.seq,
    mxRun :=
      let x := { x with prio := x.effective T.cycles, overtaker := overtaker }
      some (if x.gang.isSome then x else x.runFrom T.cycles) }

/-- A free engine's choice (R243, R244): a suspended operation goes on unless a queued one has a higher priority. -/
def Tile.mxChoose (T : Tile) : Option Tile :=
  match T.mxRun, T.mxHeld, T.mxBest with
  | some _, _, _ => none
  | none, some r, some x =>
    if r.prio < x.effective T.cycles then some (T.mxTake x true)
    else some { T with mxRun := some (r.runFrom T.cycles), mxHeld := none }
  | none, some r, none => some { T with mxRun := some (r.runFrom T.cycles), mxHeld := none }
  | none, none, some x => some (T.mxTake x false)
  | none, none, none => none

/-- The free engine of a tile in service selects. -/
def evMxSelect (t : Nat) (s : State) : Option State := (s.tile t).mxChoose.map fun T => s.setTile t T

/-- MXE_SELECT (R243). -/
def execMxeSelect (t : Nat) (s : State) : Out := .next ((evMxSelect t s).getD s)

/-- What the wire compares at the start of a joint operation (R245). -/
def mxWireKey (b : List Word) : List Nat :=
  [mxM b, mxN b, mxK b, bn (mxTa b) 1, bn (mxTb b) 1, bn (mxAcc b) 1, bn (mxSat b) 1, mxFmtA b, mxFmtB b, mxFmtD b,
   ptrBlock (mxWord b 0), ptrBlock (mxWord b 1), ptrBlock (mxWord b 2)]

/-- The tile at a position of a gang. -/
def State.gangMember (s : State) (id pos : Nat) : Option Nat :=
  (s.tiles.find? fun p => match p.2.gang with
    | some g => g.id == id && g.pos == pos
    | none => false).map (·.1)

/-- A joint operation starts when every member's engine has selected it (R245). -/
def evGangStart (t : Nat) (s : State) : Option State :=
  match (s.tile t).mxRun, (s.tile t).gang with
  | some x, some g =>
    match x.gang with
    | some (id, j) =>
      let ms := (List.range g.size).filterMap (s.gangMember id)
      let op (d : Nat) : Option MxOp := (s.tile d).mxRun.bind fun y => if y.gang == some (id, j) then some y else none
      if x.started || ms.length != g.size || !(ms.all fun d => (op d).isSome) then none
      else
        let key (d : Nat) : List Nat := ((op d).map fun y => mxWireKey y.blk).getD []
        match (List.range g.size).find? fun p => key (ms.getD p 0) != key (ms.headD 0) with
        | some p => some (s.abortJoint id j 5 p (s.tile t).cycles)
        | none => some (ms.foldl (fun s d => s.modTile d fun T =>
            { T with mxRun := T.mxRun.map fun y => { y.runFrom T.cycles with started := true } }) s)
    | none => none
  | _, _ => none

/-- GANG_OP_START (R245). -/
def execGangOpStart (t : Nat) (s : State) : Out := .next ((evGangStart t s).getD s)

/-! ### Arithmetic (R53) -/

/-- Whether the line of a byte of a tile is uncorrectable or poisoned (R239, 26_prog_gangmatmul.md R405). -/
def State.mxBad (s : State) (t key : Nat) : Bool :=
  if 2 ^ 43 ≤ key then (s.tile t).badLines.contains (key % 2 ^ 23 / 64) else s.poison t (key % 2 ^ 33) != 0

/-- The key of an element's first byte. -/
def mxKey (key fmt e : Nat) : Nat := if mxWidth fmt = 4 then key + e / 2 else key + e * (mxWidth fmt / 8)

/-- An element's exact value with the flags of its block factor (02_numbers.md R40), and whether a line it needs is bad. -/
def State.mxElem (s : State) (t key fmt sc gs e : Nat) : (FVal × Flags) × Bool :=
  let w := mxWidth fmt
  let k := mxKey key fmt e
  let raw := if w = 4 then leNat (s.rdMem k 1) / 16 ^ (e % 2) % 16 else leNat (s.rdMem k (w / 8))
  let kc := spadKey t (sc + e / 64)
  let kg := spadKey t (gs + 4 * (e / 16384))
  if mxScaled fmt then
    (Elem.val fmt ⟨raw, leNat (s.rdMem kc 1), leNat (s.rdMem kg 4)⟩, s.mxBad t k || s.mxBad t kc || s.mxBad t kg)
  else (Elem.val fmt ⟨raw, 0, 0⟩, s.mxBad t k)

/-- The sum of finite values over one common denominator, all powers of two. -/
def sumFin (l : List FVal) : Int × Nat :=
  let d := l.foldl (fun d v => match v with
    | .fin _ _ e => max d e
    | _ => d) 1
  (l.foldl (fun a v => match v with
    | .fin neg n e => let m : Int := (n * (d / e) : Nat); if neg then a - m else a + m
    | _ => a) 0, d)

/-- The exact sum of a k-group's products, with the flags of its invalid cases (R53) (log 49, DEDUCED). -/
def exactSum (ps : List (FVal × FVal)) : FVal × Flags :=
  let prods := ps.map fun (a, b) => (a.mul b).1
  let zeroInf := ps.any fun (a, b) => !a.isNan && !b.isNan && (a.mul b).1.isNan
  let pinf := prods.any fun v => v == .inf false
  let ninf := prods.any fun v => v == .inf true
  if prods.any FVal.isNan || (pinf && ninf) then (.nan false, Flags.when (zeroInf || (pinf && ninf)) nv)
  else if pinf then (.inf false, 0#5)
  else if ninf then (.inf true, 0#5)
  else
    let (n, d) := sumFin prods
    (.fin (if n = 0 then prods.all FVal.isNeg else decide (n < 0)) n.natAbs d, 0#5)

/-- One k-group added to an accumulator (R53): a float add rounded by RNE, or an addition modulo 2^32. -/
def mxAdd (accFmt : Nat) (acc : Nat × BitVec 5) (ps : List (FVal × FVal)) : Nat × BitVec 5 :=
  if accFmt = 0 then
    let (n, d) := sumFin (ps.map fun (a, b) => (a.mul b).1)
    (((acc.1 : Int) + n / (d : Int)) % (2 ^ 32 : Nat) |>.toNat, acc.2)
  else
    let F := codeFmt accFmt
    let (v, f1) := exactSum ps
    let (r, f2) := F.finish .rne ((F.value acc.1).add .rne v)
    (r, acc.2 ||| f1 ||| f2)

/-- acc0 of an element (R228): zero, or D's contents converted to the accumulator format. -/
def mxAcc0 (accFmt fd : Nat) (acc : Bool) (raw : Nat) : Nat × BitVec 5 :=
  if !acc then (0, 0#5)
  else if accFmt = 0 then
    (if fd = 7 then (toSigned 8 raw % (2 ^ 32 : Nat)).toNat else raw, 0#5)
  else (((codeFmt fd).convert (codeFmt accFmt) .rne false raw).1, 0#5)

/-- The output conversion (R55, R231). -/
def mxConvert (accFmt fd : Nat) (sat : Bool) (acc : Nat × BitVec 5) : Nat × BitVec 5 :=
  if accFmt = 0 then
    if fd = 0 then acc
    else (((FVal.ofInt (toSigned 32 acc.1)).toInt .rne sat (fd == 7) 8).1, acc.2)
  else
    let (r, f) := (codeFmt accFmt).convert (codeFmt fd) .rne sat acc.1
    (r, acc.2 ||| f)

/-! ### Blocks and k-steps (R228, R240, R244, R246, R247) -/

def mxCols (b : List Word) : Nat := if mxFmtA b = 1 then 64 else 128
def mxNB (b : List Word) : Nat := (mxN b + mxCols b - 1) / mxCols b
def mxBlocks (b : List Word) : Nat := (mxM b + 127) / 128 * mxNB b
def mxSteps (b : List Word) : Nat := (mxK b + mxGroup b - 1) / mxGroup b

/-- The rows and columns of a block. -/
def mxRows (b : List Word) (blk : Nat) : List Nat :=
  let lo := blk / mxNB b * 128
  (List.range (min (mxM b - lo) 128)).map (lo + ·)
def mxColumns (b : List Word) (blk : Nat) : List Nat :=
  let lo := blk % mxNB b * mxCols b
  (List.range (min (mxN b - lo) (mxCols b))).map (lo + ·)

/-- The key of D[m][n]. -/
def MxOp.keyD (x : MxOp) (m n : Nat) : Nat := x.kd + (m * mxLdd x.blk + n) * (mxWidth (mxFmtD x.blk) / 8)

/-- One k-step of an operation on tile t, B coming from operation y on tile u: the accumulators, and whether a bad
line was met. -/
def State.mxStep (s : State) (t : Nat) (x : MxOp) (u : Nat) (y : MxOp) : List (Nat × BitVec 5) × Bool :=
  let b := x.blk
  let g := mxGroup b
  let ks := (List.range (min g (mxK b - x.kstep * g))).map (x.kstep * g + ·)
  let ms := mxRows b x.block
  let ns := mxColumns b x.block
  let fd := mxFmtD b
  let rows := ms.map fun m => (m, ks.map fun k => s.mxElem t x.ka (mxFmtA b) (mxAsc b) (mxAgsc b) (mxOffA b m k))
  let cols := ns.map fun n => (n, ks.map fun k => s.mxElem u y.kb (mxFmtB y.blk) (mxBsc y.blk) (mxBgsc y.blk) (mxOffB y.blk k n))
  let places := ms.flatMap fun m => ns.map fun n => (m, n)
  let w := mxWidth fd / 8
  let start : List (Nat × BitVec 5) :=
    if x.kstep = 0 then places.map fun (m, n) => mxAcc0 (mxAccFmt b) fd (mxAcc b) (leNat (s.rdMem (x.keyD m n) w))
    else x.acc
  let bad := (rows.any fun r => r.2.any (·.2)) || (cols.any fun c => c.2.any (·.2)) ||
    (x.kstep == 0 && mxAcc b && places.any fun (m, n) => s.mxBad t (x.keyD m n))
  let pairs := rows.flatMap fun r => cols.map fun c => (r.2.map (·.1)).zip (c.2.map (·.1))
  ((start.zip pairs).map fun (a, ps) =>
    let raised := ps.foldl (fun (f : Flags) p => f ||| p.1.2 ||| p.2.2) 0#5
    let (v, f) := mxAdd (mxAccFmt b) a (ps.map fun p => (p.1.1, p.2.1))
    (v, f ||| raised), bad)

/-- The keys of A's, B's and D's elements that an operation's next k-step reads. -/
def MxOp.readsA (x : MxOp) : List Nat :=
  let g := mxGroup x.blk
  let ks := (List.range (min g (mxK x.blk - x.kstep * g))).map (x.kstep * g + ·)
  (mxRows x.blk x.block).flatMap fun m => ks.map fun k => mxKey x.ka (mxFmtA x.blk) (mxOffA x.blk m k)
def MxOp.readsB (x : MxOp) : List Nat :=
  let g := mxGroup x.blk
  let ks := (List.range (min g (mxK x.blk - x.kstep * g))).map (x.kstep * g + ·)
  (mxColumns x.blk x.block).flatMap fun n => ks.map fun k => mxKey x.kb (mxFmtB x.blk) (mxOffB x.blk k n)
def MxOp.readsD (x : MxOp) : List Nat :=
  if x.kstep = 0 && mxAcc x.blk then
    (mxRows x.blk x.block).flatMap fun m => (mxColumns x.blk x.block).map fun n => x.keyD m n
  else []

/-- Numbers without repeats, in order of their first places. -/
def distinct (l : List Nat) : List Nat := l.foldl (fun r a => if r.contains a then r else r ++ [a]) []

/-- The home-cache lines that a tile's fetch unit needs for the operands read from it (R239). -/
def mxLines (keys : List Nat) : List Nat :=
  (distinct ((keys.filter (· < 2 ^ 43)).map fun k => lineOf (k % 2 ^ 33))).take 1024

/-- The engine's turn at the homes of what a k-step reads in space 0 (07_witness.md R412, 19_tile.md R350). -/
def State.mxAtHome (s : State) (me : Nat) (reads : List (Nat × Nat)) : AtHome :=
  let reads := reads.filter fun p => decide (p.2 < 2 ^ 43)
  match reads.find? fun p => s.awaiting p.1 (p.2 % 2 ^ 33) with
  | some p => s.atHome p.1 (p.2 % 2 ^ 33) (.matrix me)
  | none =>
    if (distinct (reads.map (·.1))).any fun d => s.heldAhead d (some (.matrix me)) then .wait
    else .go ((distinct (reads.map (·.1))).foldl (fun s d => s.modTile d fun T =>
      { T with held := T.held.filter fun h => !h.isMark (.matrix me) }) s)

/-- The fetch of the lines that k-steps on some tiles need: they are pinned until the step is over, and those that the home
cache misses are filled (R239); none while it waits for fills; the state itself once every line is present. -/
def State.mxFetch (s : State) (need : List (Nat × List Nat)) : Option (Bool × State) :=
  let present (p : Nat × List Nat) : Bool := p.2.all fun l => (s.tile p.1).lines.contains l
  let pinned (p : Nat × List Nat) : Bool := (s.tile p.1).pins == p.2
  if need.all present then some (true, s)
  else if need.all pinned then none
  else some (false, need.foldl (fun s p => s.modTile p.1 fun T =>
    { T with pins := p.2, fills := T.fills ++ p.2.filter fun l => !T.lines.contains l && !T.fills.contains l }) s)

/-- A k-step's outcome entered: the next step, or the block's output to be written. -/
def MxOp.advance (x : MxOp) (acc : List (Nat × BitVec 5)) : MxOp :=
  let x := { x with due := x.due + mxCycles x.blk }
  if x.kstep + 1 < mxSteps x.blk then { x with acc := acc, kstep := x.kstep + 1 }
  else
    let out := acc.map (mxConvert (mxAccFmt x.blk) (mxFmtD x.blk) (mxSat x.blk))
    { x with acc := [], kstep := 0, block := x.block + 1, outs := x.outs ++ [(x.block, out)] }

/-- An operation stopped at a boundary: its block discarded. -/
def MxOp.stopped (x : MxOp) (r : Nat × Nat × Nat × Nat) : MxOp :=
  { x with status := r.1, cause := r.2.1, pos := r.2.2.1, acc := [], kstep := 0 }

/-- The running operation of a tile can cross a boundary: it has started, blocks are left, none waits to be written, and
the k-step's cycles are over (log 47, DEDUCED). -/
def Tile.mxCanStep (T : Tile) : Bool :=
  match T.mxRun with
  | some x => x.status == 1 && x.outs.isEmpty && x.left.isEmpty && decide (x.block < mxBlocks x.blk) && decide (x.due ≤ T.cycles)
  | none => false

/-- The overtaking check at a boundary (R244). -/
def Tile.mxOvertake (T : Tile) : Tile :=
  match T.mxRun, T.mxBest with
  | some r, some q =>
    if r.gang.isNone && !r.overtaker && T.mxHeld.isNone && decide (r.block < mxBlocks r.blk) && decide (r.prio < q.effective T.cycles) then
      { T with mxRun := none, mxHeld := some { r with status := 2 } }.mxTake q true
    else T
  | _, _ => T

/-- A k-step and its boundary, on every member of a gang at once (R246, R247). -/
def evMxStep (t : Nat) (s : State) : Option State :=
  match (s.tile t).mxRun with
  | none => none
  | some x =>
    let ms : List Nat := match x.gang, (s.tile t).gang with
      | some (id, _), some g => (List.range g.size).filterMap (s.gangMember id)
      | _, _ => [t]
    if !(ms.all fun d => (s.tile d).mxCanStep) then none
    else
      let u := ms.headD t
      let op (d : Nat) : MxOp := (s.tile d).mxRun.getD x
      let halt (r : Nat × Nat × Nat × Nat) (s : State) : State := ms.foldl (fun s d => s.modTile d fun T =>
        { T with pins := [], mxRun := T.mxRun.map fun (y : MxOp) => y.stopped r }) s
      match x.stop with
      | some r => some (halt r s)
      | none =>
        let keys (d : Nat) : List Nat := (op d).readsA ++ (if d = u then (op d).readsB else [])
        match s.mxAtHome t (ms.flatMap fun d => (keys d ++ (op d).readsD).map fun k => (d, k)) with
        | .wait => none
        | .held s => some s
        | .go s =>
          (s.mxFetch (ms.map fun d => (d, mxLines (keys d)))).map fun (ready, s) =>
            if !ready then s
            else
              let res := ms.map fun d => (d, s.mxStep d (op d) u (op u))
              match (List.range ms.length).find? fun i => (res.map (·.2.2)).getD i false with
              | some i => halt (if x.gang.isSome then (4, 1, i, 0) else (7, 0, 0, 0)) s
              | none => res.foldl (fun s p => s.modTile p.1 fun T =>
                  { T with pins := [], mxRun := T.mxRun.map fun (y : MxOp) => y.advance p.2.1 }.mxOvertake) s

/-- MXE_KSTEP_BOUNDARY (R244). -/
def execMxeKstepBoundary (t : Nat) (s : State) : Out := .next ((evMxStep t s).getD s)

/-! ### Output (R240, R242) -/

/-- A block's rows as stores: offsets of D's tile memory with their bytes, cut at 64 KiB boundaries so that a poison
mark refuses its own range only. -/
def MxOp.pieces (x : MxOp) (blk : Nat) (out : List (Nat × BitVec 5)) : List (Nat × List Byte) :=
  let ns := mxColumns x.blk blk
  let w := mxWidth (mxFmtD x.blk) / 8
  let rows := mxRows x.blk blk
  (List.range rows.length).flatMap fun i =>
    let k := x.keyD (rows.getD i 0) (ns.headD 0)
    let bytes := ((out.drop (i * ns.length)).take ns.length).flatMap fun p => leBytes w p.1
    let first := 65536 - k % 65536
    if bytes.length ≤ first then [(k, bytes)] else [(k, bytes.take first), (k + first, bytes.drop first)]

/-- How many elements of a block raised each condition. -/
def MxOp.count (x : MxOp) (out : List (Nat × BitVec 5)) : MxOp :=
  let n (i : Nat) : Nat := (out.filter fun p => p.2.getLsbD i).length
  { x with nv := x.nv + n 4, of_ := x.of_ + n 2, uf := x.uf + n 1, nx := x.nx + n 0, done := x.done + 1 }

/-- Whether a store of a matrix operation is still to perform. -/
def Tile.mxStoring (T : Tile) (seq : Nat) : Bool :=
  T.journal.any fun e => match e.eng with
    | some g => g.mx && g.seq == seq
    | none => false

/-- The rest of a block's pieces stored one after the other while the journal has room (05_scalar.md R109); the last carries the
block's bytes to the barrier slot. -/
def State.mxStore (s : State) (t : Nat) (x : MxOp) (total : Nat) : List (Nat × List Byte) → State × MxOp
  | [] => (s, { x with left := [] })
  | (k, b) :: l =>
    if !(s.tile t).journalRoom then (s, { x with left := (k, b) :: l })
    else
      let slot : Word := if l.isEmpty && mxBslot x.blk != 0 then BitVec.ofNat 64 (2 ^ 60 + mxBslot x.blk) else 0
      let q : PostSrc := ⟨t, none, x.who.gtid, (s.containedOf x.who.gtid).map (·.2), some ⟨true, x.seq, total, slot, x.who⟩⟩
      let (s, w) := s.postRank q (.store b) (s.rankOf t) (k % 2 ^ 33)
      State.mxStore s t { x with out := w } total l

/-- A block's output has performed: it is counted (R240 item 2). -/
def MxOp.counted (x : MxOp) (T : Tile) : MxOp :=
  match x.writing with
  | some out => if x.left.isEmpty && !T.mxStoring x.seq then { x.count out with writing := none } else x
  | none => x

/-- The output of a block under way: what the journal has room for is stored in space 0, all of it is written in scratchpad
(R240 items 2 and 3) (log 48, DEDUCED). -/
def State.mxWrite (s : State) (t : Nat) (x : MxOp) (ps : List (Nat × List Byte)) (total : Nat) : State × MxOp :=
  if 2 ^ 43 ≤ x.kd then
    let s := ps.foldl (fun s p => s.spadWrite t (p.1 % 2 ^ 23) p.2) s
    (if mxBslot x.blk = 0 then s
     else s.modTile t fun T =>
       { T with decs := T.decs ++ [⟨true, x.seq, total, BitVec.ofNat 64 (2 ^ 60 + mxBslot x.blk), x.who⟩] }, { x with left := [] })
  else s.mxStore t x total ps

/-- The bytes of a block's output. -/
def MxOp.outBytes (x : MxOp) (out : List (Nat × BitVec 5)) : Nat := out.length * (mxWidth (mxFmtD x.blk) / 8)

/-- A block of the running or suspended operation is written: its stores are issued as the journal has room, and it counts once
they have performed. -/
def evMxBlock (t : Nat) (s : State) : Option State :=
  let go (x : MxOp) (put : MxOp → Tile → Tile) : Option State :=
    let step (x : MxOp) (ps : List (Nat × List Byte)) (total : Nat) : State :=
      let (s, x) := s.mxWrite t x ps total
      s.modTile t fun T => put (x.counted T) T
    match x.writing, x.outs with
    | some out, _ =>
      if !x.left.isEmpty then (if (s.tile t).journalRoom then some (step x x.left (x.outBytes out)) else none)
      else if (s.tile t).mxStoring x.seq then none
      else some (s.modTile t fun T => put (x.counted T) T)
    | none, (blk, out) :: r =>
      if x.kd < 2 ^ 43 && !(s.tile t).journalRoom then none
      else some (step { x with outs := r, writing := some out } (x.pieces blk out) (x.outBytes out))
    | none, [] => none
  match (s.tile t).mxRun.bind fun x => go x fun y T => { T with mxRun := some y } with
  | some s => some s
  | none => (s.tile t).mxHeld.bind fun x => go x fun y T => { T with mxHeld := some y }

/-- MXE_BLOCK_WRITTEN (R240). -/
def execMxeBlockWritten (t : Nat) (s : State) : Out := .next ((evMxBlock t s).getD s)

/-- Whether a write or a decrement of a matrix operation is still to perform. -/
def Tile.mxPending (T : Tile) (seq : Nat) : Bool := T.mxStoring seq || T.decs.any fun g => g.mx && g.seq == seq

/-- The counters after an operation that ended DONE (R242). -/
def Tile.mxCountUp (T : Tile) (x : MxOp) : Tile :=
  let c := T.mxCount
  let m := 2 ^ 32
  { T with mxCount := ((c.1 + x.nv) % m, (c.2.1 + x.of_) % m, (c.2.2.1 + x.uf) % m, (c.2.2.2 + x.nx) % m) }

/-- The running operation ends (R240 item 4): stopped, or with every block written. -/
def evMxEnd (t : Nat) (s : State) : Option State :=
  let T := s.tile t
  T.mxRun.bind fun x =>
    if !x.outs.isEmpty || x.writing.isSome || T.mxPending x.seq then none
    else if x.final then some (s.setTile t ({ T with mxRun := none }.mxEnd x))
    else if x.status = 1 && x.block = mxBlocks x.blk then
      some (s.setTile t (({ T with mxRun := none }.mxCountUp x).mxEnd { x with status := 3 }))
    else none

/-- MXE_OP_END (R240). -/
def execMxeOpEnd (t : Nat) (s : State) : Out := .next ((evMxEnd t s).getD s)

/-! ### GANG (10_barrier.md R201) -/

/-- The members a GANG names: size m, position i; none when they do not fit in the field's row, or one holds no rank
of the current partition. -/
def State.gangNamed (s : State) (t m i : Nat) : Option (List Nat) :=
  if xOf t % 4 < i || 4 < xOf t % 4 - i + m then none
  else
    let l := (List.range m).map fun n => t - i + n
    if (s.partOf (s.rankOf t)).isSome && l.all fun d => (s.tile d).rank.isSome && s.partOf (s.rankOf d) == s.partOf (s.rankOf t)
    then some l else none

/-- A tile leaves its gang, and receives no arrival any more (R202); the other members' joint operations end, later ones included
(cause 3 or 4). -/
def State.leaveGang (s : State) (t cause : Nat) : State :=
  match (s.tile t).gang with
  | none => s
  | some g =>
    let now := (s.tile t).cycles
    let s := s.modTile t fun T => { T with gang := none, wire := [] }
    let js := (s.gangTiles g.id).flatMap fun d =>
      ((s.tile d).mxQueue ++ (s.tile d).mxRun.toList).filterMap fun x => x.gang.bind fun p => if p.1 = g.id then some p.2 else none
    let s := js.eraseDups.foldl (fun s j => s.abortJoint g.id j cause g.pos now) s
    (s.gangTiles g.id).foldl (fun s d => s.modTile d fun T =>
      { T with gang := T.gang.map fun h => { h with lost := firstStop h.lost (4, cause, g.pos, now) } }) s

/-- The completion slot that a GANG names: live, on this tile, in space 1; any other pointer names none (R201; log 107, DEDUCED). -/
def State.gangSlot (s : State) (p : Word) : Option Nat :=
  if ptrSpace p != 1 || ptrAddr p % 16 != 0 then none
  else
    match s.xlat akRetS p with
    | .ok (.spad off) =>
      let k := s.readSlot (spadKey s.curTile off)
      if k.live && k.home == s.curRank then some off else none
    | _ => none

/-- What a GANG reads: rs2 only when its size is not 0 (R201). -/
noncomputable def gangUses (rs1 rs2 : XReg) (s : State) : Uses :=
  let u := usesOf (.gang rs1 rs2)
  if fld (s.x1 rs1) 2 0 = 0 then { u with xr := [rs1] } else u

/-- GANG (R201). The value of its barrier-state trap is the slot pointer, free when the size is 0 and rs2 is not read
(log 2, DESIGN CHOICE). -/
noncomputable def execGang (rs1 rs2 : XReg) (s : State) : Out :=
  if !regsPresent (usesOf (.gang rs1 rs2)) s then .next (s.illegal (Instr.gang rs1 rs2).word)
  else
  issueAs (gangUses rs1 rs2 s) (.gang rs1 rs2) s fun s =>
    match s.cur.stage with
    | .gang _ _ _ _ => s.parkJoin
    | _ =>
      let v := s.x1 rs1
      let m := fld v 2 0
      let i := fld v 5 4
      let p := effPtr (s.x2 rs1 rs2) 0
      let bad (s : State) : State :=
        if m = 0 then
          let (w, s) := s.free
          s.trap 48 (BitVec.ofNat 64 w)
        else s.trap 48 p
      let T := s.curT
      if fld v 63 6 != 0 || bit v 3 || decide (4 < m) || (m != 0 && decide (m ≤ i)) then bad s
      else if m = 0 then
        if (T.mxQueue ++ T.mxRun.toList).any fun x => x.gang.isSome then bad s
        else (s.leaveGang s.curTile 3).retire
      else if (s.gangNamed s.curTile m i).isNone then s.trap 48 p
      else
        match s.gangSlot p with
        | some off =>
          if T.gang.isSome then s.trap 48 p
          else (s.modCur fun c => { c with stage := .gang m i off (Instr.gang rs1 rs2).word }).parkJoin
        | none => s.trap 48 p

/-- The slot of a tile whose context is parked in GANG, with the gang it names. -/
def Tile.gangParked (T : Tile) : Option (Nat × Nat × Nat × Nat × Word32) :=
  (List.range 16).findSome? fun c =>
    match (T.slot c).stage with
    | .gang m i off w => some (c, m, i, off, w)
    | _ => none

/-- Every member that a parked GANG names has executed GANG (R201): the gang is formed, or on disagreement each of
them traps. -/
def evGangForm (t : Nat) (s : State) : Option State :=
  match (s.tile t).gangParked with
  | none => none
  | some (_, m, i, _, _) =>
    let ms := (List.range m).map fun n => t - i + n
    if !(ms.all fun d => (s.tile d).gangParked.isSome) then none
    else
      let agree := (List.range m).all fun n =>
        match (s.tile (ms.getD n 0)).gangParked with
        | some (_, m', i', _, _) => m' == m && i' == n
        | none => false
      if agree then
        let id := s.nextId
        some (ms.foldl (fun s d =>
          match (s.tile d).gangParked with
          | some (c, m, i, off, _) =>
            (s.modCtx (.tile d) c Ctx.retire).modTile d fun T => { T with gang := some ⟨id, m, i, off, 0, [], none⟩ }
          | none => s) { s with nextId := id + 1 })
      else
        some (ms.foldl (fun s d =>
          match (s.tile d).gangParked with
          | some (c, _, _, _, w) => s.trapSlot (.tile d) c false 50 (w.zeroExtend 64) ((s.tile d).slot c).th.pc
          | none => s) s)

/-- GANG_FORMED (R201). -/
def execGangFormed (t : Nat) (s : State) : Out := .next ((evGangForm t s).getD s)

end Sys2Proof.Machine
end

