-- ==== Sys2Proof/Machine/Channel.lean ====
section
/-! DEFINITION. Copy channels, the sower and the completion interrupt (13_channel.md R250 to R261). -/
namespace Sys2Proof.Machine

/-! ### The request (R250, R251, R253) -/

/-- The transfer that a0, a1, a2 and a parameter block's doublewords describe; no block leaves the defaults. -/
def Xfer.ofRequest (seq : Nat) (who : EngWho) (a0 a1 a2 : Word) (b : List Word) : Xfer :=
  let w (i : Nat) : Word := b.getD i 0
  { seq := seq, who := who, src := a0, dst := a1, sow := bit a2 49, irq := bit a2 48, xid := fld a2 47 32,
    len := fld a2 31 0, win := w 0, ready := false, handler := w 1, bslot := w 2, blog := fld (w 3) 41 36,
    stride := fld (w 3) 35 24, count := fld (w 3) 23 12, first := fld (w 3) 11 0, mirror := fld (w 4) 22 0,
    status := 0, cause := 0, bshort := false, blost := false, wptr := 0, out := 0, dealt := [], due := 0 }

/-- Step 3 of R253 (log 53, DEDUCED). -/
def xferLegal (x : Xfer) (a2 pblk : Word) (b : List Word) : Bool :=
  let w (i : Nat) : Word := b.getD i 0
  fld a2 63 50 == 0 && x.len != 0 && fld (w 3) 63 42 == 0 && fld (w 4) 63 23 == 0 && w 5 == 0 && w 6 == 0 && w 7 == 0 &&
  x.mirror % 8 == 0 && (x.count != 0 || x.first == 0) &&
  (if x.sow then decide (6 ≤ x.blog) && decide (x.blog ≤ 20) && x.stride != 0 && x.count != 0 && ptrSpace x.dst == 1 &&
     ptrAddr x.dst % 64 == 0
   else x.blog == 0 && x.stride == 0 && decide (x.count ≤ 1)) &&
  (if x.irq then pblk != 0 && ptrSpace x.handler == 0 && fld x.handler 1 0 == 0 else x.handler == 0)

/-- Step 4 of R253. -/
def State.xferSrcOk (s : State) (x : Xfer) : Bool :=
  let a := ptrAddr x.src
  match ptrSpace x.src with
  | 0 | 2 => true
  | 1 => decide (a + x.len ≤ 2 ^ 23) && (!(s.mode == .u) || decide (0x10000 ≤ a))
  | _ => false

/-- Where source byte i lands (R254): the rank of a scratchpad, none for the current tile's or another space, and the
address. -/
def Xfer.place (x : Xfer) (i : Nat) : Option Nat × Nat :=
  let d := ptrAddr x.dst
  if x.sow then
    let B := 2 ^ x.blog
    let j := i / B
    (some ((x.first + j % x.count * x.stride) % 4096), d + j / x.count * B + i % B)
  else (if ptrSpace x.dst = 1 && x.count = 1 then some x.first else none, d + i)

/-- The ranks of a space-1 destination. -/
def Xfer.ranks (x : Xfer) : List Nat :=
  if x.sow then (List.range (min x.count ((x.len + 2 ^ x.blog - 1) / 2 ^ x.blog))).map fun j => (x.first + j * x.stride) % 4096
  else if ptrSpace x.dst = 1 && x.count = 1 then [x.first] else []

/-- One past the last scratchpad offset written. -/
def Xfer.spadEnd (x : Xfer) : Nat :=
  if x.sow then
    let B := 2 ^ x.blog
    let last := (x.len - 1) / B
    ptrAddr x.dst + last / x.count * B + (if last % x.count = 0 then x.len - last * B else B)
  else ptrAddr x.dst + x.len

/-- Step 5 of R253 but for the barrier slot. -/
def State.xferDstOk (s : State) (x : Xfer) : Bool :=
  decide (ptrSpace x.dst ≤ 2) &&
  (ptrSpace x.dst != 1 || (decide (0x10000 ≤ ptrAddr x.dst) && decide (x.spadEnd ≤ 2 ^ 23))) &&
  (x.mirror == 0 || decide (0x10000 ≤ x.mirror)) &&
  (x.ranks.all fun r => s.curPart.isSome && s.partOf r == s.curPart)

/-- The barrier slot's checks: its trap, if any (R253 step 5). -/
def Xfer.slotFault (x : Xfer) : Option Nat :=
  if x.bslot = 0 then none
  else if ptrAddr x.bslot % 16 != 0 then some 6
  else
    match ptrSpace x.bslot with
    | 0 => none
    | 1 => if inProgram (ptrAddr x.bslot) (ptrAddr x.bslot + 15) then none else some 7
    | _ => some 7

/-- Steps 3 to 6 of R253, with the parameter block's doublewords; bounce, run and the pin state stay as they are. -/
def State.xferAccept (s : State) (i : Instr) (rd : XReg) (a0 a1 a2 pblk : Word) (b : List Word) : State :=
  let t := s.curTile
  let T := s.curT
  let x := Xfer.ofRequest T.copySeq s.engWho a0 a1 a2 b
  if !xferLegal x a2 pblk b then s.illegal i.word
  else if !s.xferSrcOk x then s.trap 5 x.src
  else if !s.xferDstOk x then s.trap 7 x.dst
  else
    match x.slotFault with
    | some cause => s.trap cause x.bslot
    | none =>
      let win := if witWf s.grade x.win then wjoin s.tick x.win (s.cur.th.wself s.tick) else x.win
      let ticket : Word := BitVec.ofNat 64 (s.curRank * 2 ^ 16 + T.copySeq)
      ((s.modTile t fun T => { T with copyQueue := T.copyQueue ++ [{ x with win := win }],
                                       copySeq := (T.copySeq + 1) % 2 ^ 16 }).setX rd ticket).retireQuiet

/-- CPYQ and CPYQ.NB from step 2 on. -/
def State.xferIssue (s : State) (i : Instr) (rd : XReg) : State :=
  let a0 := s.cur.x 10#5
  let a1 := s.cur.x 11#5
  let a2 := s.cur.x 12#5
  let p := s.cur.x 13#5
  if p = 0 then s.xferAccept i rd a0 a1 a2 p []
  else if ptrSpace p != 1 then s.trap (if ptrAddr p % 64 != 0 then 4 else 5) p
  else s.withLoc akLoad 64 p fun l s => s.xferAccept i rd a0 a1 a2 p (s.rdWords (l.key s.curTile) 8)

/-- CPYQ (R253): it waits for a free entry. -/
noncomputable def execCpyq (rd : XReg) (s : State) : Out :=
  issue (.cpyq rd) s fun s => if 16 ≤ s.curT.copyQueue.length then s.forfeit else s.xferIssue (.cpyq rd) rd

/-- CPYQ.NB (R253). -/
noncomputable def execCpyqNb (rd : XReg) (s : State) : Out :=
  issue (.cpyqNb rd) s fun s =>
    if 16 ≤ s.curT.copyQueue.length then (s.setX rd (-1)).retireQuiet else s.xferIssue (.cpyqNb rd) rd

/-! ### Progress (R257, R258) -/

/-- The transfer a ticket names, if it is known. -/
def State.xferFind (s : State) (t ticket : Nat) : Option Xfer :=
  let T := s.tile t
  if ticket / 2 ^ 16 != s.rankOf t then none
  else (T.copyQueue ++ T.copyRun ++ T.copyDone).find? fun x => x.seq == ticket % 2 ^ 16

/-- What CWPTR reads (R257). -/
def cwptrValue (x : Option Xfer) (sel : Nat) : Word :=
  match sel, x with
  | 0, some x => BitVec.ofNat 64 x.wptr
  | 0, none => -1
  | 1, some x => BitVec.ofNat 64 (x.xid * 2 ^ 48 + x.cause * 2 ^ 44 + bn x.bshort (2 ^ 15) + bn x.blost (2 ^ 14) + x.status)
  | 1, none => 5
  | 2, some x => if x.status = 2 then x.out else 0
  | 2, none => 0
  | _, _ => -1

/-- CWPTR (R257). -/
noncomputable def execCwptr (rd rs1 : XReg) (s : State) : Out :=
  issue (.cwptr rd rs1) s fun s =>
    let v := s.x1 rs1
    (s.setX rd (cwptrValue (s.xferFind s.curTile (fld v 27 0)) (fld v 34 32))).retire

/-- CWAIT (R258). -/
noncomputable def execCwait (rs1 : XReg) (s : State) : Out :=
  issue (.cwait rs1) s fun s =>
    let v := s.x1 rs1
    let drain (w : Word) : State :=
      (s.modCur fun c => { c with stage := .drain w }).awaitWit w w State.retire
    match s.cur.stage with
    | .drain w => drain w
    | _ =>
      match s.xferFind s.curTile (fld v 27 0) with
      | some x =>
        if x.status < 2 then s.park (.transfer x.seq)
        else if bit v 32 && x.status = 2 then drain x.out
        else s.retire
      | none => s.retire

/-! ### The channels (R254 to R256) -/

/-- A free channel takes the FIFO's head; a tile has four. -/
def evChanStart (t : Nat) (s : State) : Option State :=
  match (s.tile t).copyQueue with
  | x :: r =>
    if 4 ≤ (s.tile t).copyRun.length then none
    else some (s.modTile t fun T => { T with copyQueue := r, copyRun := T.copyRun ++ [{ x with status := 1 }] })
  | [] => none

/-- CHANNEL_START (R255). -/
def execChannelStart (t : Nat) (s : State) : Out := .next ((evChanStart t s).getD s)

/-- A transfer ends with a status and a cause; its interrupt becomes pending (R255, R256, R259). -/
def Tile.xferEnd (T : Tile) (x : Xfer) (status cause : Nat) : Tile :=
  { T with
    copyRun := T.copyRun.filter fun y => y.seq != x.seq,
    copyDone := ({ x with status := status, cause := cause } :: T.copyDone).take 16,
    copyIrqs := if x.irq then T.copyIrqs ++ [⟨x.who.gtid, x.handler, x.xid⟩] else T.copyIrqs }

/-- The effective input witness of a channel's transfer checked (R255 step 1), with a probe where one is needed
(07_witness.md R145). -/
def evChanWin (t i : Nat) (s : State) : Option State :=
  (s.tile t).copyRun[i]?.bind fun x =>
    let bad (s : State) : Option State := some (s.modTile t fun T => T.xferEnd x 3 0)
    if x.ready then none
    else if !witWf s.grade x.win then bad s
    else
      s.needWit (.tile t) x.win bad fun s => some (s.modTile t fun T =>
        { T with copyRun := T.copyRun.map fun y => if y.seq = x.seq then { y with ready := true } else y })

/-- CHANNEL_WIN_SATISFIED (R255). -/
def execChannelWinSatisfied (t i : Nat) (s : State) : Out := .next ((evChanWin t i s).getD s)

/-- What a part of a write comes to: nothing happens yet, the state has changed and the rest waits, a fault with its cause, or
the bytes or place. -/
inductive Got (α : Type) where
  | wait
  | busy
  | fault (cause : Nat)
  | ok (a : α)
deriving DecidableEq, Repr

/-- A channel's translation (R253, 17_page.md R322): a miss waits for a walk. -/
def State.xferXlat (s : State) (t : Nat) (x : Xfer) (k : AKind) (p : Word) (cause : Nat) : Got Loc × State :=
  match s.engXlat t x.who k p with
  | (.ok l, s) => (.ok l, s)
  | (.miss host a, s) =>
    match s.engMiss t host a with
    | some s => (.busy, s)
    | none => (.wait, s)
  | (_, s) => (.fault cause, s)

/-- The source bytes of a part (R255, R256): host data come with the event (log 52, DEDUCED). A home is read in its turn
(07_witness.md R412). -/
def State.xferRead (s : State) (t : Nat) (x : Xfer) (i n : Nat) (host : List Byte) : Got (List Byte) × State :=
  match s.xferXlat t x akLoad (effPtr x.src (BitVec.ofNat 64 i)) 1 with
  | (.ok (.spad off), s) =>
    let lines := (List.range ((off + n - 1) / 64 - off / 64 + 1)).map (off / 64 + ·)
    (if lines.any fun l => (s.tile t).badLines.contains l then .fault 4 else .ok (s.rdMem (spadKey t off) n), s)
  | (.ok (.dram rank off rep _), s) =>
    let rank := if rep then s.rankOf t else rank
    match s.homeOf rank with
    | none => (if (tget s.standIn rank).isSome then .fault 4 else .wait, s)
    | some h =>
      match s.atHome h off (.copy t x.seq) with
      | .wait => (.wait, s)
      | .held s => (.busy, s)
      | .go s =>
        (if !s.admits h (s.partOf (s.rankOf t)) rank off then .fault 1
         else if s.poison h off != 0 then .fault 4
         else .ok (s.rdMem (dramKey h off) n), s)
  | (.ok (.host _), s) => (if host.isEmpty then .fault 5 else if host.length < n then .wait else .ok (host.take n), s)
  | (.ok _, s) => (.fault 1, s)
  | (.wait, s) => (.wait, s)
  | (.busy, s) => (.busy, s)
  | (.fault c, s) => (.fault c, s)

/-- The source bytes of a write, gathered where the source crosses a page. -/
def State.xferGather (s : State) (t : Nat) (x : Xfer) (i n : Nat) (host : List Byte) : Got (List Byte) × State :=
  let m := min n (65536 - (ptrAddr x.src + i) % 65536)
  if m = n then s.xferRead t x i n host
  else
    match s.xferRead t x i m host with
    | (.ok a, s) =>
      match s.xferRead t x (i + m) (n - m) (host.drop m) with
      | (.ok b, s) => (.ok (a ++ b), s)
      | r => r
    | r => r

/-- The destination of a write: a scratchpad of a rank, or a location, and the containment of a kernel's write. -/
def State.xferPlace (s : State) (t : Nat) (x : Xfer) (i n : Nat) : Got (Loc ⊕ (Nat × Nat)) × State :=
  if ptrSpace x.dst = 1 then
    match x.place i with
    | (some r, off) => (.ok (if r = s.rankOf t then .inl (.spad off) else .inr (r, off)), s)
    | (none, off) => (.ok (.inl (.spad off)), s)
  else
    match s.xferXlat t x akStore (effPtr x.dst (BitVec.ofNat 64 i)) 2 with
    | (.ok l, s) =>
      let l := match l with
        | .dram rank off rep xp => .dram (if rep then s.rankOf t else rank) off false xp
        | l => l
      (if s.mayWriteAs (s.containedOf x.who.gtid) l n then .ok (.inl l) else .fault 3, s)
    | (.wait, s) => (.wait, s)
    | (.busy, s) => (.busy, s)
    | (.fault c, s) => (.fault c, s)

/-- The rank whose tile a write goes to; none for a host. -/
def State.xferRank (s : State) (t : Nat) : Loc ⊕ (Nat × Nat) → Option Nat
  | .inl (.spad _) => some (s.rankOf t)
  | .inl (.dram rank _ _ _) => some rank
  | .inl _ => none
  | .inr (rank, _) => some rank

/-- Whether a write takes a journal entry (R255 steps 3 to 5). -/
def xferJournals : Loc ⊕ (Nat × Nat) → Bool
  | .inl (.spad _) => false
  | _ => true

/-- One write of a transfer (R255 steps 3 to 7). -/
def State.xferPut (s : State) (t : Nat) (x : Xfer) (d : Loc ⊕ (Nat × Nat)) (b : List Byte) : State × Xfer :=
  let e : EngRef := ⟨false, x.seq, b.length, if b.isEmpty then 0 else x.bslot, x.who⟩
  let q : PostSrc := ⟨t, none, x.who.gtid, (s.containedOf x.who.gtid).map (·.2), some e⟩
  let mirror : Option (Nat × Nat) := if x.mirror = 0 then none else some (x.mirror, t * 2 ^ 16 + x.seq)
  let joined (p : State × Word) : State × Xfer := (p.1, { x with out := wjoin (p.1.tickOf t) x.out p.2 })
  match d with
  | .inl (.spad off) =>
    let s := (if b.isEmpty then s else s.spadWrite t off b).countMirror t b.length mirror
    (if e.slot = 0 then s else s.modTile t fun T => { T with decs := T.decs ++ [e] }, x)
  | .inl (.dram rank off _ _) => joined (s.postRank q (.copy b false mirror) rank off)
  | .inl l => joined (s.post q (.store b) l)
  | .inr (rank, off) => joined (s.postRank q (.copy b true mirror) rank off)

/-- The first 0 of the mirror word of a rank's tile, written before the first byte lands there (R255 step 6): a write as the others
are (log 111, DEDUCED). -/
def State.xferZero (s : State) (t rank : Nat) (x : Xfer) : State × Xfer :=
  let d : Loc ⊕ (Nat × Nat) := if rank = s.rankOf t then .inl (.spad x.mirror) else .inr (rank, x.mirror)
  let (s, x) := s.xferPut t x d []
  (s, { x with dealt := x.dealt ++ [rank] })

/-- A running transfer's entry replaced. -/
def Tile.xferSet (T : Tile) (x : Xfer) : Tile := { T with copyRun := T.copyRun.map fun y => if y.seq = x.seq then x else y }

/-- The bytes of a transfer's next write: at most 64, within one page of the destination (R255 step 2). -/
def Xfer.nextLen (x : Xfer) : Nat := min (min 64 (x.len - x.wptr)) (65536 - (x.place x.wptr).2 % 65536)

/-- A transfer's next write once its bytes and its place are known: the mirror word's first 0 goes before it, and one that needs
a journal entry waits for one (R255). -/
def State.xferWrite (s : State) (t : Nat) (x : Xfer) (d : Loc ⊕ (Nat × Nat)) (b : List Byte) : Option State :=
  let zero : Option Nat := if x.mirror = 0 then none else (s.xferRank t d).filter fun r => !x.dealt.contains r
  match zero with
  | some r =>
    if r != s.rankOf t && !(s.tile t).journalRoom then none
    else
      let (s, x) := s.xferZero t r x
      some (s.modTile t fun T => T.xferSet x)
  | none =>
    if xferJournals d && !(s.tile t).journalRoom then none
    else
      let (s, y) := s.xferPut t x d b
      let y := { y with wptr := x.wptr + b.length, due := (s.tile t).cycles + 1 }
      some (s.modTile t fun T => if y.wptr = y.len then T.xferEnd y 2 0 else T.xferSet y)

/-- A channel's next write, one a cycle; a fault ends the transfer (R255, R256). -/
def evChanWrite (t i : Nat) (host : List Byte) (s : State) : Option State :=
  (s.tile t).copyRun[i]?.bind fun x =>
    if !x.ready || decide ((s.tile t).cycles < x.due) then none
    else
      match s.xferGather t x x.wptr x.nextLen host with
      | (.wait, _) => none
      | (.busy, s) => some s
      | (.fault c, s) => some (s.modTile t fun T => T.xferEnd x 4 c)
      | (.ok b, s) =>
        match s.xferPlace t x x.wptr b.length with
        | (.wait, _) => none
        | (.busy, s) => some s
        | (.fault c, s) => some (s.modTile t fun T => T.xferEnd x 4 c)
        | (.ok d, s) => s.xferWrite t x d b

/-- CHANNEL_WRITE (R255): host are the bytes a read of space 2 brings, none for a host error. -/
def execChannelWrite (t i : Nat) (host : List Byte) (s : State) : Out := .next ((evChanWrite t i host s).getD s)

/-! ### The completion interrupt (R259, R260) -/

/-- The stages of a waiting instruction that a completion interrupt may come before, once the context is ready (log 110, DEDUCED). -/
def Stage.between : Stage → Bool
  | .spawnWait _ | .gang _ _ _ _ | .sfence _ _ | .preempt | .wfi => false
  | _ => true

/-- The first pending completion interrupt of a slot's context is delivered: the context is ready, its wait over if it was parked,
with no handler active. The instruction that would have issued goes on from its stage after UIRET. -/
def evCopyIrq (t c : Nat) (s : State) : Option State :=
  let x := (s.tile t).slot c
  if s.slotState t c != .ready || !x.stage.between || x.handler then none
  else
    (takeFirst (fun q : CopyIrq => q.gtid == x.th.gtid) (s.tile t).copyIrqs).map fun (q, r) =>
      (s.modTile t fun T => { T with copyIrqs := r }).modCtx (.tile t) c fun x =>
        { x with uiepc := x.th.pc, uixid := BitVec.ofNat 16 q.xid, handler := true, st := .ready, wait := .event,
                 kept := if x.stage = .none then none else some (x.th.pc, x.stage), stage := .none,
                 th := { x.th with pc := q.handler }, probes := [], replayFrom := none, missed := false, walkFault := none }

/-- COPY_COMPLETION_INTERRUPT (R259). -/
def execCopyCompletionInterrupt (t c : Nat) (s : State) : Out := .next ((evCopyIrq t c s).getD s)

/-- The handler is left for pc: a waiting instruction that the interrupt came before goes on from its stage. -/
def Ctx.leaveHandler (pc : Word) (c : Ctx) : Ctx :=
  let stage := match c.kept with
    | some (q, st) => if q = pc then st else .none
    | none => .none
  { ({ c with handler := false, kept := none }).retireTo pc with stage := stage }

/-- UIRET (R260). -/
noncomputable def execUiret (s : State) : Out :=
  issueIf (!s.cur.handler) .uiret s fun s => s.modCur fun c => c.leaveHandler (BitVec.ofNat 64 (fld c.uiepc 51 2 * 4))

end Sys2Proof.Machine
end

