-- ==== Sys2Proof/Machine/Window.lean ====
section
/-! DEFINITION. KAPPEND and the kernel window (14_kernel.md R263 to R281, 15_kernel_instructions.md R282 to R302). -/
namespace Sys2Proof.Machine

/-! ### The record (R282) -/

def krWord (b : List Word) (i : Nat) : Word := b.getD i 0
def krKind (b : List Word) : Nat := fld (krWord b 0) 63 56
def krExposed (b : List Word) : Bool := bit (krWord b 0) 55
def krFirst (b : List Word) : Nat := fld (krWord b 0) 35 24
def krLast (b : List Word) : Nat := fld (krWord b 0) 47 36
def krParam (b : List Word) : Nat := fld (krWord b 0) 23 0
/-- Presence, direction, length in 4 KiB units and base of a raw region. -/
def krRegPresent (b : List Word) (j : Nat) : Bool := bit (krWord b 0) (54 - 2 * j)
def krRegWritten (b : List Word) (j : Nat) : Bool := bit (krWord b 0) (53 - 2 * j)
def krRegUnits (b : List Word) (j : Nat) : Nat := fld (krWord b 3) (17 + 18 * j) (18 * j)
def krRegBase (b : List Word) (j : Nat) : Word := krWord b (4 + j)
/-- A source's and a destination's presence and logical buffer. -/
def krSrcPresent (b : List Word) (j : Nat) : Bool := bit (krWord b 2) (60 + j)
def krSrc (b : List Word) (j : Nat) : Nat := fld (krWord b 2) (23 + 12 * j) (12 + 12 * j)
def krDstPresent (b : List Word) (j : Nat) : Bool := bit (krWord b 3) (61 + 2 * j)
def krDstInPlace (b : List Word) (j : Nat) : Bool := bit (krWord b 3) (60 + 2 * j)
def krDst (b : List Word) (j : Nat) : Nat := fld (krWord b 3) (47 + 12 * j) (36 + 12 * j)
/-- KCOPY's offsets and length; KFILL's. -/
def krSoff (b : List Word) : Nat := fld (krWord b 6) 31 0
def krDoff (b : List Word) : Nat := fld (krWord b 6) 63 32
def krLen (b : List Word) : Nat := fld (krWord b 7) 31 0

/-- A tile kind (R283). -/
def krTile (b : List Word) : Bool := [4, 5, 6].contains (krKind b)

/-- The bytes of a raw region: space, first, end. -/
def krRegion (b : List Word) (j : Nat) : Nat × Nat × Nat :=
  let a := ptrAddr (krRegBase b j)
  (ptrSpace (krRegBase b j), a, a + 4096 * krRegUnits b j)

/-- The raw regions present, each with whether it is written. -/
def krRegions (b : List Word) : List ((Nat × Nat × Nat) × Bool) :=
  ([0, 1].filter (krRegPresent b)).map fun j => (krRegion b j, krRegWritten b j)

/-- Regions that share a byte (R271). -/
def overlap (a b : Nat × Nat × Nat) : Bool := a.1 == b.1 && decide (a.2.1 < b.2.2) && decide (b.2.1 < a.2.2)

/-! ### The checks of decode (R283, R284) -/

/-- Exactly these operands are present: sources, destinations, and the written flag of each region. -/
def krShape (b : List Word) (srcs dsts : List Nat) (regs : List Bool) : Bool :=
  ((List.range 4).all fun j => krSrcPresent b j == srcs.contains j) &&
  ((List.range 2).all fun j => krDstPresent b j == dsts.contains j) &&
  (krRegions b).map (·.2) == regs && (regs.isEmpty || krRegPresent b 0)

/-- Fields of absent operands and reserved bits are zero; a region present is well formed (R282, R284 cause 1). -/
def krFields (b : List Word) : Bool :=
  fld (krWord b 0) 50 48 == 0 && fld (krWord b 2) 11 0 == 0 &&
  ((List.range 4).all fun j => krSrcPresent b j || krSrc b j == 0) &&
  ((List.range 2).all fun j => krDstPresent b j || (krDst b j == 0 && !krDstInPlace b j)) &&
  ((List.range 2).all fun j =>
    if krRegPresent b j then
      krRegUnits b j != 0 && [0, 2, 3].contains (ptrSpace (krRegBase b j)) && fld (krRegBase b j) 59 52 == 0
    else !krRegWritten b j && krRegUnits b j == 0 && krRegBase b j == 0)

/-- A window kind names no rank; a tile kind a range of the partition (R284 cause 1). -/
def krRange (b : List Word) (ranks : Nat) : Bool :=
  if krTile b then decide (krFirst b ≤ krLast b) && decide (krLast b < ranks) else krFirst b == 0 && krLast b == 0

/-- A region's base is aligned, in space 0 or 2 (R290, R291). -/
def krWordRegion (b : List Word) (n : Nat) : Bool :=
  ptrAddr (krRegBase b 0) % n == 0 && ptrSpace (krRegBase b 0) != 3

/-- A kind's operands and parameters but for what needs a buffer's class (R283, R286 to R291); none: reserved. -/
def krParams (b : List Word) : Bool :=
  let p1 := krWord b 6
  let p2 := krWord b 7
  let k := krParam b
  match krKind b with
  | 0x00 => krShape b [] [] [] && k == 0 && p1 == 0 && p2 == 0
  | 0x01 => krShape b [] [0] [] && !krDstInPlace b 0 && decide (k < 16) && p1 == 0 && p2 == 0
  | 0x02 => krShape b [] [0] [] && krDstInPlace b 0 && k == 0 && p1 == 0 && p2 == 0
  | 0x03 => krShape b [0] [] [true] && ptrAddr (krRegBase b 0) % 16 == 0 && k == 0 && p1 == 0 && p2 == 0
  | 0x04 => decide (1 ≤ k) && decide (k < 16)
  | 0x05 =>
    fld p2 63 32 == 0 && krLen b != 0 &&
    (match k with
     | 0 => krShape b [0] [0] []
     | 1 => krShape b [] [0] [false]
     | 2 => krShape b [0] [] [true]
     | _ => false)
  | 0x06 =>
    krShape b [] [0] [] && k == 0 && krSoff b % 8 == 0 && krDoff b % 8 == 0 && decide (8 ≤ krDoff b)
  | 0x07 => krShape b [] [] [true] && krWordRegion b 32 && k == 0 && p2 == 0
  | 0x08 => krShape b [] [] [false] && krWordRegion b 8 && decide (k < 2) && p2 == 0
  | 0x09 => krShape b [] [] [] && k == 0 && p1 == 0 && p2 == 0
  | 0x0A => krShape b [] [] [] && p1 == 0 && p2 == 0
  | _ => false

/-- A kind that must be exposed (R283), or a written region (R264). -/
def krMustExpose (b : List Word) : Bool :=
  [0x03, 0x07, 0x08, 0x09].contains (krKind b) || (krKind b == 0x05 && krParam b == 2) ||
  (krRegions b).any fun r => r.2

/-- The size of a logical buffer's extents as decode maps it. -/
def Window.sizeOf (W : Window) (lb : Nat) : Nat :=
  ((tget W.spec lb).bind W.locate).elim 0 fun c => classSize c.1

/-- KCOPY and KFILL stay in their extents and region (R286, R287); KFILL's p1 is cat(len, doff). -/
def krBounds (W : Window) (b : List Word) : Bool :=
  let n := krLast b - krFirst b + 1
  let reg := 4096 * krRegUnits b 0
  match krKind b with
  | 0x05 =>
    (match krParam b with
     | 0 => decide (krSoff b + krLen b ≤ W.sizeOf (krSrc b 0)) && decide (krDoff b + krLen b ≤ W.sizeOf (krDst b 0))
     | 1 => decide (krSoff b + n * krLen b ≤ reg) && decide (krDoff b + krLen b ≤ W.sizeOf (krDst b 0))
     | _ => decide (krSoff b + krLen b ≤ W.sizeOf (krSrc b 0)) && decide (krDoff b + n * krLen b ≤ reg))
  | 0x06 => decide (krSoff b + krDoff b ≤ W.sizeOf (krDst b 0))
  | _ => true

/-- The decode fault of a record, if any (R284 causes 1 to 5). -/
def decodeFault (W : Window) (ranks : Nat) (b : List Word) : Option Nat :=
  let unboundSrc := (List.range 4).any fun j => krSrcPresent b j && (tget W.spec (krSrc b j)).isNone
  let unboundDst := (List.range 2).any fun j => krDstPresent b j && (tget W.spec (krDst b j)).isNone
  if !(krFields b && krRange b ranks && krParams b) then some 1
  else if krMustExpose b && !krExposed b then some 2
  else if unboundSrc then some 3
  else if krKind b == 0x01 then (if unboundDst then none else some 5)
  else if unboundDst then some 4
  else if !krBounds W b then some 1
  else none

/-! ### Decode and renaming (R268 to R270) -/

def WEntry.fresh_ (pos : Nat) (words : List Word) : WEntry :=
  { pos := pos, words := words, st := .renamed, src := [], fresh := [], dst := [], old := [], taken := [],
    reported := [], out := 0, cause := 0, rank := 4095, tval := 0, gtid := 0, stage := .idle }

/-- The bridge that carries a partition's window (log 24, DESIGN CHOICE). -/
def winBridge (p : Nat) : Nat := p % 4

/-- Whether a witness is satisfied as a partition's window finds it, by a probe's answer where one is needed (R268). -/
def State.winSat (s : State) (p : Nat) (w : Word) : Bool := s.checkAt (.bridge (winBridge p)) w == .satisfied

/-- A probe for the first of some witnesses that a window needs one for. -/
def State.winAsk (s : State) (p : Nat) (ws : List Word) : Option State :=
  (ws.find? fun w => s.checkAt (.bridge (winBridge p)) w == .probe).bind (s.ask (.bridge (winBridge p)))

/-- The answers that a window has used. -/
def State.winUsed (s : State) (p : Nat) (ws : List Word) : State :=
  ws.foldl (fun s w => s.dropAsk (.bridge (winBridge p)) w) s

/-- The head of a class's free list, when it is available (R268). -/
def State.headOf (s : State) (p : Nat) (W : Window) (c : Nat) : Option ((Nat × Word) × List (Nat × Word)) :=
  match tgetD W.free c [] with
  | h :: r => if s.winSat p h.2 then some (h, r) else none
  | [] => none

/-- One destination renamed (R269); none while its class's head is not available. -/
def State.renameDst (s : State) (p : Nat) (e : WEntry) (W : Window) (j : Nat) : Option (WEntry × Window) :=
  if !krDstPresent e.words j then some ({ e with dst := e.dst ++ [none], old := e.old ++ [none] }, W)
  else
    let lb := krDst e.words j
    let old := tget W.spec lb
    if krDstInPlace e.words j then some ({ e with dst := e.dst ++ [old], old := e.old ++ [old] }, W)
    else
      let c := if krKind e.words = 0x01 then krParam e.words else ((old.bind W.locate).map (·.1)).getD 0
      (s.headOf p W c).map fun (h, r) =>
        ({ e with dst := e.dst ++ [some h.1], old := e.old ++ [old], taken := e.taken ++ [(c, h.1, h.2)] },
         { W with spec := tput W.spec lb h.1, free := tput W.free c r })

/-- The operands of a record renamed (R269). -/
def State.rename (s : State) (p : Nat) (W : Window) (e : WEntry) : Option (WEntry × Window) :=
  let src := (List.range 4).map fun j => if krSrcPresent e.words j then tget W.spec (krSrc e.words j) else none
  let fresh := src.map fun o => match o with
    | some b => W.entries.any fun x => x.dst.contains (some b)
    | none => false
  ((s.renameDst p { e with src := src, fresh := fresh } W 0).bind fun (e, W) => s.renameDst p e W 1).map fun (e, W) =>
    if krKind e.words = 0x02 then (e, { W with spec := tdel W.spec (krDst e.words 0) }) else (e, W)

/-- The class of the buffer that a destination takes; none when it takes none (R269). -/
def Window.takes (W : Window) (words : List Word) (j : Nat) : Option Nat :=
  if !krDstPresent words j || krDstInPlace words j then none
  else if krKind words = 0x01 then some (krParam words)
  else some ((((tget W.spec (krDst words j)).bind W.locate).map (·.1)).getD 0)

/-- The release witnesses of the buffers that a record's destinations take, none where a list is empty (R268). -/
def Window.heads (W : Window) (words : List Word) : List (Option Word) :=
  let head (c n : Nat) : Option Word := ((tgetD W.free c [])[n]?).map (·.2)
  match W.takes words 0, W.takes words 1 with
  | some a, some b => [head a 0, head b (if a = b then 1 else 0)]
  | some a, none => [head a 0]
  | none, some b => [head b 0]
  | none, none => []

/-- Whether a witness is satisfied, wherever that is known (R144 to R147). -/
def State.satisfiedNow (s : State) (p : Nat) (w : Word) : Bool :=
  match witKind w with
  | 1 => ((s.homeOf (witDst w)).map fun t => (s.tile t).checkPair w) == some .satisfied
  | _ => s.winSat p w

/-- The next record decoded: renamed, or faulted (R269, R270, R284); a wait for a buffer leaves it where it is, with a probe
where one is needed. -/
def evDecode (p : Nat) (s : State) : Option State :=
  (tget s.parts p).bind fun P =>
    let W := P.win
    match W.queue with
    | [] => none
    | (pos, words) :: q =>
      if W.halted || 256 ≤ W.entries.length then none
      else
        let e := WEntry.fresh_ pos words
        let put (e : WEntry) (W : Window) : State :=
          s.modWin p fun _ => { W with queue := q, entries := W.entries ++ [e],
                                       exposed := tput W.exposed pos (krExposed words) }
        match decodeFault W P.ranks.length words with
        | some cause => some (put { e with st := .faulted, cause := cause } W)
        | none =>
          match s.rename p W e with
          | some (e, W') => some ((put e W').winUsed p ((W.heads words).filterMap id))
          | none =>
            match s.winAsk p ((W.heads words).filterMap id) with
            | some s => some s
            | none =>
              if W.entries.isEmpty && !(W.heads words).all fun h => h.any (s.satisfiedNow p) then
                some (put { e with st := .faulted, cause := 6 } W)
              else none


/-! ### Readiness and issue (R271 to R274) -/

/-- Issued entries whose work is done. -/
def WEntry.done (e : WEntry) : Bool := e.st == .completed

/-- Whether an entry writes, or reads or writes, a physical buffer. -/
def WEntry.writes (e : WEntry) (b : Nat) : Bool := e.dst.contains (some b)
def WEntry.touches (e : WEntry) (b : Nat) : Bool := e.writes b || e.src.contains (some b)

/-- The in-place destinations. -/
def WEntry.inPlace (e : WEntry) : List Nat :=
  (e.dst.zip (List.range 2)).filterMap fun (d, j) => if krDstInPlace e.words j then d else none

/-- The output witness of a buffer's last writer: the youngest older entry in flight, or the retired one. -/
def Window.writerOut (W : Window) (older : List WEntry) (b : Nat) : Word :=
  match older.reverse.find? (·.writes b) with
  | some x => x.out
  | none => tgetD W.lastWit b 0

/-- R271 and R292 for an entry, given the older ones in flight. -/
def State.entryReady (s : State) (p : Nat) (W : Window) (older : List WEntry) (e : WEntry) : Bool :=
  let regs := krRegions e.words
  let ex := krExposed e.words
  e.st == .renamed &&
  (e.src.all fun o => match o with
    | some b => older.all fun x => !x.writes b || x.done
    | none => true) &&
  (older.all fun x => x.done || !(krRegions x.words).any fun a => a.2 && regs.any fun r => overlap a.1 r.1) &&
  (!ex || older.all fun x => x.done) &&
  (e.inPlace.all fun b => (older.all fun x => !x.touches b || x.done) && s.winSat p (W.writerOut older b)) &&
  (older.all fun x => x.done || krKind x.words != 0x09)

/-- The input witness of an entry (R272); none when the record's own is malformed. -/
def State.inputWit (s : State) (p : Nat) (W : Window) (older : List WEntry) (e : WEntry) : Option Word :=
  let tick := s.tickOf (bridgeTile p)
  let w := krWord e.words 1
  if !witWf s.grade w then none
  else
    let prods := (e.src.zip e.fresh).filterMap fun (o, fr) => o.bind fun b =>
      if older.any (·.writes b) || fr || !s.winSat p (tgetD W.lastWit b 0) then some (W.writerOut older b) else none
    let regs := krRegions e.words
    let hit (a : Nat × Nat × Nat) : Bool := regs.any fun r => overlap a r.1
    let raw := (W.rawOut.filter fun r => hit (r.1, r.2.1, r.2.2.1)).map (·.2.2.2) ++
      (older.filter fun x => (krRegions x.words).any fun a => a.2 && hit a.1).map (·.out)
    some ((prods ++ raw).foldl (wjoin tick) w)

/-- The ranks an entry runs on, each with its place in the range; a rank that the partition has not is none (R284). -/
def Part.rangeOf (P : Part) (e : WEntry) : List (Nat × Nat) :=
  if krTile e.words then
    (List.range (krLast e.words + 1 - krFirst e.words)).filterMap fun i => P.ranks[krFirst e.words + i]?.map fun r => (i, r)
  else []

/-- The free inbox places of a rank's tile (log 55, DEDUCED). -/
def State.inboxFree (s : State) (rank : Nat) : List Nat :=
  match s.homeOf rank with
  | some t => (List.range 8).filter fun j => (tget (s.tile t).inbox j).isNone
  | none => []

/-- Whether every inbox of an entry has a free place that no older ready entry has reserved (R274). -/
def State.inboxRoom (s : State) (P : Part) (olderReady : List WEntry) (e : WEntry) : Bool :=
  (P.rangeOf e).all fun (_, r) =>
    let held := (P.win.reserved.filter fun q => q.2.contains r && olderReady.any fun x => x.pos == q.1).length
    decide (held < (s.inboxFree r).length)

/-- An extent's 21 bits (R294). -/
def Window.extent (W : Window) (b : Option Nat) : Nat :=
  match b.bind W.locate with
  | some (c, off) => c * 2 ^ 17 + off / 65536
  | none => 0x1FFFFF

/-- The task record and the task block of an entry for the i-th rank of its range, at a place (R294, R295). -/
def taskWords (P : Part) (part : Nat) (e : WEntry) (win : Word) (i j : Nat) : List Word × List Word :=
  let W := P.win
  let x (l : List (Option Nat)) (k : Nat) : Nat := W.extent (l.getD k none)
  let w (n : Nat) : Word := BitVec.ofNat 64 n
  let kind := krKind e.words
  let gtidb := w (part * 2 ^ 60 + 2 ^ 59 + e.pos * 2 ^ 27)
  let ext0 := w (x e.src 2 * 2 ^ 42 + x e.src 1 * 2 ^ 21 + x e.src 0)
  let ext1 := w (x e.dst 1 * 2 ^ 42 + x e.dst 0 * 2 ^ 21 + x e.src 3)
  let p2 := if kind = 0x05 && krParam e.words != 0 then krRegBase e.words 0 else krWord e.words 7
  let mode := if kind = 0x05 then krParam e.words else 0
  let threads := if kind = 0x04 then krParam e.words else 0
  let len := if kind = 0x05 then krLen e.words else if kind = 0x06 then krDoff e.words else 0
  let target := w (W.tbva + (krFirst e.words + i) * 0x10000 + 64 * j)
  ([gtidb, krWord e.words 6, p2, win, ext0, ext1,
    w (kind * 2 ^ 56 + 2 ^ 55 + mode * 2 ^ 52 + threads * 2 ^ 48 + i * 2 ^ 32 + len), target],
   [0, 0, w W.avbase, gtidb, ext0, ext1, p2, win])

/-- An inbox place's record in the mirror (01_wafer.md R30). -/
def inboxKey (t j : Nat) : Nat := spadKey t (0x800 + 64 * j)

/-- One task record delivered (R295, R296): the task block, the record, the interrupt. -/
def State.deliverTask (s : State) (P : Part) (part : Nat) (e : WEntry) (win : Word) (i rank : Nat) : State :=
  match s.homeOf rank, (s.inboxFree rank).head? with
  | some t, some j =>
    let (r, b) := taskWords P part e win i j
    let s := (s.homeWrite t (P.win.tboff + 64 * j) 4095 (wordsBytes b)).wrMem (inboxKey t j) (wordsBytes r)
    (s.modTile t fun T => { T with inbox := tput T.inbox j e.pos }).raiseIrq t 18
  | _, _ => s

/-- The issue of the k-th entry (R273): writer tables, then the task records. -/
def State.issueEntry (s : State) (p : Nat) (P : Part) (k : Nat) (e : WEntry) : State :=
  let W := P.win
  let set (e : WEntry) (s : State) : State := s.modWin p fun W =>
    { W with entries := W.entries.set k e, reserved := W.reserved.filter fun q => q.1 != e.pos }
  match s.inputWit p W (W.entries.take k) e with
  | none => set { e with st := .faulted, cause := 7 } s
  | some win =>
    let writers := e.dst.foldl (fun t o => match o with
      | some b => tput t b e.pos
      | none => t) W.writers
    let s := set { e with st := .issued } (s.modWin p fun W => { W with writers := writers })
    (P.rangeOf e).foldl (fun s (i, r) => s.deliverTask P p e win i r) s

/-- The ready entries of a window, oldest first, with their places. -/
def State.readyList (s : State) (p : Nat) (W : Window) : List (Nat × WEntry) :=
  ((List.range W.entries.length).zip W.entries).filter fun (k, e) => s.entryReady p W (W.entries.take k) e

/-- The places that the oldest ready entry holds in the inboxes of its range (R274). -/
def State.reserveFor (s : State) (P : Part) (e : WEntry) : List (Nat × List Nat) :=
  let held := ((P.rangeOf e).map (·.2)).filter fun r => !(s.inboxFree r).isEmpty
  P.win.reserved.filter (fun q => q.1 != e.pos) ++ [(e.pos, held)]

/-- The witnesses that entries wait for before they are ready (R271). -/
def Window.readyWits (W : Window) : List Word :=
  ((List.range W.entries.length).zip W.entries).flatMap fun (k, e) =>
    if e.st == .renamed then e.inPlace.map (W.writerOut (W.entries.take k)) else []

/-! ### Stalls (R281) -/

/-- The cycle counter that advances: 0 window full, 1 buffer-starved, 2 inbox-starved. -/
def State.stallOf (s : State) (p : Nat) (P : Part) : Option Nat :=
  let W := P.win
  if !W.queue.isEmpty && decide (256 ≤ W.entries.length) then some 0
  else if W.halted then none
  else if (match W.queue with
      | (pos, words) :: _ =>
        (decodeFault W P.ranks.length words).isNone && (s.rename p W (WEntry.fresh_ pos words)).isNone
      | [] => false) then some 1
  else if (match s.readyList p W with
      | (_, o) :: _ => !s.inboxRoom P [] o
      | [] => false) then some 2
  else none

/-- A cycle counter of a window raised. -/
def Window.stalled (W : Window) (i n : Nat) : Window :=
  match i with
  | 0 => { W with full := (W.full + n) % 2 ^ 64 }
  | 1 => { W with starved := (W.starved + n) % 2 ^ 64 }
  | _ => { W with inbox := (W.inbox + n) % 2 ^ 64 }

/-- The cycles that a stall of a window has lasted are counted, a free number of those that the tick under way may still have, and
what stalls from now on is noted: after each event that may begin or end a stall, and at each tick edge (log 113, DESIGN CHOICE). -/
def State.countStall (s : State) (p : Nat) : State :=
  match tget s.parts p with
  | none => s
  | some P =>
    let s := match P.win.stall with
      | none => s
      | some i =>
        let (v, s) := s.free
        let n := v % (P.win.left + 1)
        s.modWin p fun W => { W.stalled i n with left := W.left - n }
    let st := s.stallOf p P
    s.modWin p fun W => { W with stall := st }

/-- The cycles of the arithmetic clock in a tick at most (01_wafer.md R14). -/
def tickCycles : Nat := 940

/-- A tick edge: the stall's cycles so far are counted, and a tick has at most 940 (log 113, DESIGN CHOICE). -/
def State.stallEdge (s : State) (p : Nat) : State := (s.countStall p).modWin p fun W => { W with left := tickCycles }

/-- WINDOW_DECODE (R269). -/
def execWindowDecode (p : Nat) (s : State) : Out := .next (((evDecode p s).map (·.countStall p)).getD s)

/-- The oldest ready entry that its inboxes let issue does; the oldest one that cannot reserves what is free. -/
def evIssue (p : Nat) (s : State) : Option State :=
  (tget s.parts p).bind fun P =>
    if P.win.halted then none
    else
      match s.readyList p P.win with
      | [] => s.winAsk p P.win.readyWits
      | (k, o) :: rest =>
        if s.inboxRoom P [] o then some (s.issueEntry p P k o)
        else
          let res := s.reserveFor P o
          let P' := { P with win := { P.win with reserved := res } }
          let s' := s.modWin p fun W => { W with reserved := res }
          let ready := o :: rest.map (·.2)
          match rest.find? fun q => s.inboxRoom P' (ready.takeWhile fun x => x.pos != q.2.pos) q.2 with
          | some (j, e) => some (s'.issueEntry p P' j e)
          | none => if res == P.win.reserved then none else some s'

/-- WINDOW_ISSUE (R273). -/
def execWindowIssue (p : Nat) (s : State) : Out := .next (((evIssue p s).map (·.countStall p)).getD s)

/-! ### The window's own accesses (R288) -/

/-- Whether the window's translation of a pointer must wait for a page table (19_tile.md R350, 07_witness.md R412). -/
def State.winWaits (s : State) (p : Nat) (ptr : Word) : Bool :=
  match tget s.parts p with
  | none => false
  | some P =>
    ptrSpace ptr != 3 &&
    s.walkWaits P.satp (ptrSpace ptr == 2) (ptrAddr ptr / 65536 * 65536) 4 3 (fld P.satp 27 0 * 2 ^ 17)

/-- A pointer translated with the partition's tables as for U mode (R288); a replicated page names no rank here
(log 25, DEDUCED). -/
def State.winXlat (s : State) (p : Nat) (k : AKind) (ptr : Word) : Option Loc :=
  (tget s.parts p).bind fun P =>
    let a := ptrAddr ptr
    let host := ptrSpace ptr == 2
    if ptrSpace ptr = 3 then some (.peer ptr)
    else
      match s.walkNow P.satp host (a / 65536 * 65536) 4 3 (fld P.satp 27 0 * 2 ^ 17) with
      | .error _ => none
      | .ok e =>
        let pa := fld e.leaf 51 16 * 65536 / 2 ^ e.size * 2 ^ e.size + (a - e.va)
        if !leafGrants k e.leaf .u false false false then none
        else if host then some (.host pa)
        else if bit e.leaf 8 || (!bit e.leaf 9 && s.partOf (pa / 2 ^ 33) != some p) then none
        else some (.dram (pa / 2 ^ 33) (pa % 2 ^ 33) false (bit e.leaf 9))

/-- A posted store of a bridge for a partition (07_witness.md R146): its ticket. -/
def State.bridgePost (s : State) (br p : Nat) (l : Loc) (b : List Byte) : State × Nat :=
  let id := s.nextId
  let out (s : State) : State := { s with bridgeOut := tput s.bridgeOut id (br, s.tickOf (bridgeTile br)) }
  match l with
  | .dram rank off _ _ => s.postBridge br (some p) rank off (.store b)
  | .host a => (out { s with nextId := id + 1, hostWrites := s.hostWrites ++ [(4095, id, a, b)] }, id)
  | .peer q =>
    ((out { s with nextId := id + 1 }).send (.bridge br) (.bridge (peerEp q % 4)) none 0 (.peerPost 4095 id (some p) q (.store b)), id)
  | _ => (s, id)

/-- A ticket's store: under way, performed, or refused. -/
def State.ticketDone (s : State) (id : Nat) : Option Bool :=
  if (tget s.bridgeOut id).isSome then none else some (!s.bridgeRefused.contains id)

/-- The status record (R281) written to its address. -/
def State.writeStatus (s : State) (p : Nat) : State :=
  let s := s.countStall p
  match tget s.parts p with
  | none => s
  | some P =>
    let W := P.win
    let head := match W.entries with
      | e :: _ => e.pos
      | [] => match W.queue with
        | (n, _) :: _ => n
        | [] => W.nextPos
    let words : List Word :=
      [BitVec.ofNat 64 (head * 2 ^ 32 + W.entries.length), BitVec.ofNat 64 W.full, BitVec.ofNat 64 W.starved,
       BitVec.ofNat 64 W.inbox, BitVec.ofNat 64 W.retired, BitVec.ofNat 64 (b2n W.halted), 0, 0]
    (s.postBridge (winBridge p) (some p) (W.status / 2 ^ 33) (W.status % 2 ^ 33) (.store (wordsBytes words))).1

/-- The k-th entry of a window changed. -/
def State.setEntry (s : State) (p k : Nat) (f : WEntry → WEntry) : State :=
  s.modWin p fun W => { W with entries := W.entries.modify k f }

/-- A fault the window finds itself (log 56, DEDUCED). -/
def WEntry.fail (cause : Nat) (e : WEntry) : WEntry := { e with st := .faulted, cause := cause }

/-! ### Window kinds (R288 to R292) -/

/-- The window kind at a place, issued and at a stage. -/
def State.kindAt (s : State) (p k : Nat) (st : KStage → Bool) : Option (Part × WEntry) :=
  (tget s.parts p).bind fun P =>
    P.win.entries[k]?.bind fun e => if e.st == .issued && !krTile e.words && st e.stage then some (P, e) else none

/-- KBIND's two doublewords (R289). -/
def bindWords (W : Window) (e : WEntry) : List Word :=
  let b := (e.src.getD 0 none).getD 0
  let (c, off) := (W.locate b).getD (0, 0)
  [BitVec.ofNat 64 (W.avbase + off), BitVec.ofNat 64 (e.pos * 2 ^ 32 + c * 2 ^ 16 + b)]

/-- What follows once a window kind's input witness is satisfied. -/
def State.kindBegin (s : State) (p k : Nat) (P : Part) (e : WEntry) : State :=
  let complete := fun e : WEntry => { e with st := .completed }
  let xlat (ak : AKind) (go : Loc → State) : State :=
    match s.winXlat p ak (krRegBase e.words 0) with
    | none => s.setEntry p k (WEntry.fail 11)
    | some l => go l
  match krKind e.words with
  | 0x03 => xlat akStore fun l =>
      let (s, id) := s.bridgePost (winBridge p) p l (wordsBytes (bindWords P.win e))
      let out := tickWit (s.tickOf (bridgeTile (winBridge p)) + 1)
      s.setEntry p k fun e => { e with stage := .writing id, out := out }
  | 0x07 => xlat akStore fun _ => s.setEntry p k fun e => { e with st := .completed, stage := .begun }
  | 0x08 => xlat akLoad fun _ => s.setEntry p k fun e => { e with stage := .begun }
  | 0x09 => s.setEntry p k fun e => { e with stage := .begun }
  | _ => s.setEntry p k complete

/-- A window kind's input witness checked (R288). -/
def evKind (p k : Nat) (s : State) : Option State :=
  (s.kindAt p k (· == .idle)).bind fun (P, e) =>
    match s.inputWit p P.win (P.win.entries.take k) e with
    | none => some (s.setEntry p k (WEntry.fail 7))
    | some w =>
      s.needWit (.bridge (winBridge p)) w (fun s => some (s.setEntry p k (WEntry.fail 7))) fun s =>
        if krRegPresent e.words 0 && s.winWaits p (krRegBase e.words 0) then none else some (s.kindBegin p k P e)

/-- WINDOW_KIND_COMPLETE (R288): the k-th entry. -/
def execWindowKindComplete (p k : Nat) (s : State) : Out := .next ((evKind p k s).getD s)

/-- KBIND's write has performed, or was refused (R288, R289). -/
def evKbind (p k : Nat) (s : State) : Option State :=
  (s.kindAt p k fun st => match st with
    | .writing _ => true
    | _ => false).bind fun (_, e) =>
      match e.stage with
      | .writing id => (s.ticketDone id).map fun ok =>
          s.setEntry p k fun e => if ok then { e with st := .completed } else e.fail 11
      | _ => none

/-- KBIND_WRITE (R289). -/
def execKbindWrite (p k : Nat) (s : State) : Out := .next ((evKbind p k s).getD s)

/-- A completed KSIGNAL at the oldest end writes its record once every retired entry's output witness is satisfied
(R290); one that reports poison is never satisfied (log 57, DEDUCED). -/
def evKsignal (p : Nat) (s : State) : Option State :=
  (tget s.parts p).bind fun P =>
    match P.win.entries with
    | e :: _ =>
      if e.st != .completed || krKind e.words != 0x07 then none
      else
        match e.stage with
        | .begun =>
          if !P.win.retiredWits.all (s.winSat p) then s.winAsk p P.win.retiredWits
          else if s.winWaits p (krRegBase e.words 0) then none
          else
            let s := (s.winUsed p P.win.retiredWits).modWin p fun W => { W with retiredWits := [] }
            match s.winXlat p akStore (krRegBase e.words 0) with
            | none => some (s.setEntry p 0 (WEntry.fail 11))
            | some l =>
              let tick := s.tickOf (bridgeTile (winBridge p))
              let rec_ : List Word :=
                [krWord e.words 6, BitVec.ofNat 64 (e.pos * 2 ^ 32 + 1), BitVec.ofNat 64 tick, tickWit (tick + 1)]
              let (s, id) := s.bridgePost (winBridge p) p l (wordsBytes rec_)
              some (s.setEntry p 0 fun e => { e with stage := .writing id })
        | .writing id => (s.ticketDone id).map fun ok =>
            s.setEntry p 0 fun e => if ok then { e with stage := .written } else e.fail 11
        | _ => none
    | [] => none

/-- KSIGNAL_WRITE (R290). -/
def execKsignalWrite (p : Nat) (s : State) : Out := .next ((evKsignal p s).getD s)

/-- KWAIT's condition (R291). -/
def waitHolds (e : WEntry) (v : Word) : Bool :=
  if krParam e.words = 0 then krWord e.words 6 |>.ule v else v == krWord e.words 6

/-- KWAIT's read of this tick (R291): w is what a read of space 2 brings. -/
def evKwait (p k : Nat) (w : Word) (s : State) : Option State :=
  let now := s.tickOf (bridgeTile (winBridge p))
  (s.kindAt p k fun st => match st with
    | .begun => true
    | .polled t => t != now
    | _ => false).bind fun (_, e) =>
      if krKind e.words != 0x08 || s.winWaits p (krRegBase e.words 0) then none
      else
        let got (v : Word) : State := s.setEntry p k fun e =>
          if waitHolds e v then { e with st := .completed } else { e with stage := .polled now }
        match s.winXlat p akLoad (krRegBase e.words 0) with
        | some (.host _) => some (got w)
        | some (.dram rank off _ _) =>
          match s.homeOf rank with
          | none => if (tget s.standIn rank).isSome then some (s.setEntry p k (WEntry.fail 11)) else none
          | some t =>
            if !(s.tile t).shellAlive || s.awaiting t off || s.heldAhead t none then none
            else if !s.admits t (some p) rank off || s.poison t off != 0 then some (s.setEntry p k (WEntry.fail 11))
            else some (got (s.rdWord (dramKey t off)))
        | _ => some (s.setEntry p k (WEntry.fail 11))

/-- KWAIT_READ (R291). -/
def execKwaitRead (p k : Nat) (w : Word) (s : State) : Out := .next ((evKwait p k w s).getD s)

/-- KFENCE completes when every older output witness is satisfied (R292) (log 57, DEDUCED). -/
def evKfence (p k : Nat) (s : State) : Option State :=
  (s.kindAt p k (· == .begun)).bind fun (P, e) =>
    let older := P.win.entries.take k
    let ws := P.win.retiredWits ++ older.map (·.out)
    if krKind e.words != 0x09 || !older.all WEntry.done then none
    else if ws.all (s.winSat p) then
      some (((s.winUsed p ws).modWin p fun W => { W with retiredWits := [] }).setEntry p k fun e => { e with st := .completed })
    else s.winAsk p ws

/-- KFENCE_COMPLETE (R292). -/
def execKfenceComplete (p k : Nat) (s : State) : Out := .next ((evKfence p k s).getD s)

/-! ### Retirement and faults (R277, R278) -/

/-- A buffer returned to the tail of its class's list (R277). The writer table changes only at issue and at squash (R276; log 112, DEDUCED). -/
def Window.giveBack (W : Window) (b : Nat) : Window :=
  let c := ((W.locate b).map (·.1)).getD 0
  { W with free := tput W.free c (tgetD W.free c [] ++ [(b, tgetD W.lastWit b 0)]) }

/-- Two witnesses whose later one alone says what both say: of one pair, or two ticks. -/
def sameChain (a b : Word) : Bool := witKind a == witKind b && (witKind a == 2 || fld a 61 38 == fld b 61 38)

/-- A witness added to those that must be satisfied. -/
def addWit (tick : Nat) (l : List Word) (w : Word) : List Word :=
  if w = 0 || l.contains w then l
  else
    match takeFirst (sameChain w) l with
    | some (v, r) => r ++ [wjoin tick v w]
    | none => l ++ [w]

/-- One destination of a retiring entry (R277). -/
def Window.commitDst (e : WEntry) (W : Window) (j : Nat) : Window :=
  match e.dst.getD j none with
  | none => W
  | some b =>
    let lb := krDst e.words j
    if krKind e.words = 0x02 then { W with committed := tdel W.committed lb }.giveBack b
    else
      let W := { W with committed := tput W.committed lb b, lastWit := tput W.lastWit b e.out }
      if krDstInPlace e.words j then W
      else match e.old.getD j none with
        | some o => W.giveBack o
        | none => W

/-- The oldest entry retired (R277) (log 58, DEDUCED). -/
def Window.retireHead (tick : Nat) (e : WEntry) (rest : List WEntry) (W : Window) : Window :=
  let W := Window.commitDst e (Window.commitDst e W 0) 1
  let raw := (krRegions e.words).filterMap fun r => if r.2 then some (r.1.1, r.1.2.1, r.1.2.2, e.out) else none
  { W with entries := rest, retired := (W.retired + 1) % 2 ^ 64, retiredWits := addWit tick W.retiredWits e.out,
           rawOut := W.rawOut ++ raw.filter fun r => r.2.2.2 != 0 }

/-- KMARK's trace record (R288, 21_observe.md R375). -/
def State.markTrace (s : State) (p : Nat) (e : WEntry) : State :=
  match tget s.parts p with
  | none => s
  | some P =>
    if P.traceSlots = 0 then s
    else
      let t := bridgeTile (winBridge p)
      let (ft, s) := s.readFtime t
      let payload : List Word :=
        [BitVec.ofNat 64 (2 * 2 ^ 56 + p * 2 ^ 52 + 4095 * 2 ^ 40 + s.gen % 2 ^ 32),
         BitVec.ofNat 64 (krParam e.words * 2 ^ 32 + pcoord t), BitVec.ofNat 64 (s.tickOf t), BitVec.ofNat 64 ft,
         BitVec.ofNat 64 e.pos, 0]
      match s.homeOf P.traceRank with
      | some d => s.send (.bridge (winBridge p)) (.tile d) (some P.traceRank) 0 (.traceRec p 4095 payload)
      | none => s

/-- Completed entries retired from the oldest end, at most n; a KSIGNAL only after its write. -/
def State.retireUpTo (s : State) (p : Nat) : Nat → State
  | 0 => s
  | n + 1 =>
    match tget s.parts p with
    | none => s
    | some P =>
      match P.win.entries with
      | [] => s
      | e :: rest =>
        if e.st != .completed || (krKind e.words == 0x07 && e.stage != .written) then s
        else
          let s1 := s.modWin p (Window.retireHead (s.tickOf (bridgeTile (winBridge p))) e rest)
          let s1 := if krKind e.words = 0x0A then (s1.writeStatus p).markTrace p e else s1
          State.retireUpTo s1 p n

/-- Retirement of one cycle. -/
def evRetire (p : Nat) (s : State) : Option State :=
  (tget s.parts p).bind fun P =>
    match P.win.entries with
    | e :: _ =>
      if e.st == .completed && (krKind e.words != 0x07 || e.stage == .written) then some (s.retireUpTo p 4) else none
    | [] => none

/-- WINDOW_RETIRE (R277). -/
def execWindowRetire (p : Nat) (s : State) : Out := .next (((evRetire p s).map (·.countStall p)).getD s)

/-- The squash of every entry (R278 steps 2 to 5, 7; R301): maps, free lists and writers go back. -/
def Window.squash (W : Window) (pos : Nat) : Window :=
  let taken := W.entries.flatMap (·.taken)
  let free := (List.range 16).foldl (fun t c =>
    let back := (taken.filter fun x => x.1 == c).map (·.2)
    if back.isEmpty then t else tput t c (back ++ tgetD t c [])) W.free
  { W with entries := [], reserved := [], spec := W.committed, free := free,
           writers := taken.foldl (fun t x => tdel t x.2.1) W.writers,
           queue := [], halted := true, faultPos := pos, squashedStores := 0 }

/-- The oldest entry is faulted (R278). -/
def evFault (p : Nat) (s : State) : Option State :=
  (tget s.parts p).bind fun P =>
    match P.win.entries with
    | e :: _ =>
      if e.st != .faulted then none
      else
        let W := P.win
        let br := winBridge p
        let t := match s.homeOf e.rank with
          | some t => t
          | none => bridgeTile br
        let count := W.entries.length + W.queue.length
        let info : Word := BitVec.ofNat 64 (count % 2 ^ 32 * 2 ^ 32 + W.squashedStores % 2 ^ 32)
        let s1 := s.sendFault (.bridge br) p
          (faultPayload 1 e.cause p e.rank s.gen e.pos t (s.tickOf (bridgeTile br)) e.tval info e.gtid)
        let ranks := (W.entries.flatMap fun x => (P.rangeOf x).map (·.2)).eraseDups
        let s1 := ranks.foldl (fun s r => match s.homeOf r with
          | some d => s.send (.bridge br) (.tile d) (some r) 0 (.squash p (W.entries.map (·.pos)))
          | none => s) s1
        some ((s1.modWin p fun W => W.squash e.pos).writeStatus p)
    | [] => none

/-- WINDOW_FAULT (R278). -/
def execWindowFault (p : Nat) (s : State) : Out := .next (((evFault p s).map (·.countStall p)).getD s)

/-- One bit of an inbox record's doubleword 6 in the mirror. -/
def State.markInbox (s : State) (t j i : Nat) (v : Bool) : State :=
  let k := inboxKey t j + 48
  s.wrWord k (setBits (s.rdWord k) i 1 (b2n v))

/-- A squash notice at a tile (R296): the places of squashed entries are marked, and the interrupt is raised. -/
def evSquash (m : Nat) (s : State) : Option State :=
  (s.arrive m).bind fun (r, s') =>
    match r.msg.body with
    | .squash p pos =>
      let hit := ((s'.tile r.at_).inbox.filter fun q => pos.contains q.2).map (·.1)
      if r.stand || s'.partOf (s'.rankOf r.at_) != some p || hit.isEmpty then some s'
      else some ((hit.foldl (fun s j => s.markInbox r.at_ j 54 true) s').raiseIrq r.at_ 18)
    | _ => none

/-- SQUASH_NOTICE (R296). -/
def execSquashNotice (m : Nat) (s : State) : Out := .next ((evSquash m s).getD s)

/-! ### KAPPEND (R299 to R301) -/

/-- Status 11 (R300). -/
def kRefused : Word := 0xC000000000000000#64

/-- A record, or a restart, sent to the partition's window; a tile without rank or partition is refused at once. -/
def State.sendAppend (s : State) (rd : XReg) (words : List Word) : State :=
  match s.curPart with
  | none => (s.setX rd kRefused).retireQuiet
  | some p =>
    let who : Who := ⟨s.focus, s.curSlot, s.nextId⟩
    ((s.claim (.x rd) .append 0).retireQuiet).send s.focus.node (.bridge (winBridge p)) none 0
      (.kappend who p s.curRank (!s.full) words)

/-- The n doublewords of a parameter pointer: space 1, aligned, program scratchpad for U mode (R299, 16_queue.md R311, 20_link.md
R367); a mill core has no scratchpad (log 11, DEDUCED). -/
def State.withParams (s : State) (n : Nat) (p : Word) (go : List Word → State → State) : State :=
  if ptrSpace p != 1 || s.focus != .tile s.curTile then s.trap (if ptrAddr p % (8 * n) != 0 then 4 else 5) p
  else s.withLoc akLoad (8 * n) p fun l s => go (s.rdWords (l.key s.curTile) n) s

/-- KAPPEND (R299). -/
noncomputable def execKappend (rd rs1 : XReg) (s : State) : Out :=
  issue (.kappend rd rs1) s fun s => s.notContained (.kappend rd rs1) fun s =>
    if rs1 = 0 then s.sendAppend rd []
    else
      s.withParams 8 (effPtr (s.x1 rs1) 0) fun b s =>
        if s.cur.appending then s.park .append
        else if krKind b = 0x40 then s.sendAppend rd b
        else s.validWit (krWord b 1) fun s =>
          s.sendAppend rd (b.set 1 (wjoin s.tick (krWord b 1) (s.cur.th.wself s.tick)))

/-- The reply's status and position (R300). -/
def kStatus (st pos : Nat) : Word := BitVec.ofNat 64 (st * 2 ^ 62 + pos)

/-- A record or restart at the window (R263, R299, R301): it waits while 64 records are queued; a partition that is
gone answers status 11 (R300) (log 59, DEDUCED). -/
def evAppend (m : Nat) (s : State) : Option State :=
  (s.arrive m).bind fun (r, s') =>
    match r.msg.body with
    | .kappend who p _ _ words =>
      let reply (s : State) (w : Word) : State := s.reply (.bridge (winBridge p)) r.ret none (.kreply who w)
      match tget s'.parts p with
      | none => some (reply s' kRefused)
      | some P =>
        let W := P.win
        if words.isEmpty then
          some (reply (s'.modWin p fun W => { W with halted := false }) (kStatus 2 W.nextPos))
        else if krKind words = 0x40 then none
        else if W.halted then some (reply s' (kStatus 1 W.faultPos))
        else if 64 ≤ W.queue.length then none
        else
          let push (W : Window) : Window :=
            { W with queue := W.queue ++ [(W.nextPos, words)], nextPos := (W.nextPos + 1) % 2 ^ 32 }
          some ((reply (s'.modWin p push) (kStatus 0 W.nextPos)).countStall p)
    | _ => none

/-- KAPPEND_ARRIVAL (R263). -/
def execKappendArrival (m : Nat) (s : State) : Out := .next ((evAppend m s).getD s)

/-- The window's reply at the tile that appended: it fills rd (R300). -/
def evReply (m : Nat) (s : State) : Option State :=
  (s.arrive m).bind fun (r, s') =>
    match r.msg.body with
    | .kreply who w => some (match s'.takeProducer who.agent who.slot who.id with
        | some (q, s') => s'.fillDest who.agent who.slot q.dest 1 w 0#5
        | none => s')
    | _ => none

/-- KAPPEND_REPLY (R300). -/
def execKappendReply (m : Nat) (s : State) : Out := .next ((evReply m s).getD s)

/-! ### Reports (R297, R298) -/

/-- A report's reserved fields and cause (R297). -/
def reportWf (b : List Word) : Bool :=
  fld (krWord b 0) 47 32 == 0 && ((b.drop 3).all fun w => w == 0) &&
  [0, 7, 8, 9, 10].contains (fld (krWord b 0) 55 48)

/-- The place of a tile's inbox that an entry holds. -/
def Tile.placeOf (T : Tile) (pos : Nat) : Option Nat := (T.inbox.find? fun q => q.2 == pos).map (·.1)

/-- Whether the window refuses a report (R297, R302): from a light slot, badly formed, a second one, of an entry the
window does not have and the tile no place of, a complete one without a place. -/
def State.refusesReport (s : State) (P : Part) (t rank : Nat) (light : Bool) (b : List Word) : Bool :=
  let pos := fld (krWord b 0) 31 0
  let place := ((s.tile t).placeOf pos).isSome
  let entry := P.win.entries.find? fun e => e.pos == pos
  let again := match entry with
    | some e => e.reported.contains rank
    | none => false
  light || !reportWf b || again || (!place && (fld (krWord b 0) 55 48 == 0 || entry.isNone))

/-- An accepted report applied to its entry (R277, R298). -/
def WEntry.report (P : Part) (grade tick rank : Nat) (b : List Word) (e : WEntry) : WEntry :=
  let cause := fld (krWord b 0) 55 48
  let w := krWord b 1
  let e' := { e with reported := e.reported ++ [rank] }
  if e.st != .issued then e'
  else if cause != 0 then { e' with st := .faulted, cause := cause, rank := rank, tval := w, gtid := krWord b 2 }
  else if !witWf grade w then { e' with st := .faulted, cause := 7, rank := rank, tval := w }
  else
    let e' := { e' with out := wjoin tick e.out w }
    if (P.rangeOf e).all fun q => e'.reported.contains q.2 then { e' with st := .completed } else e'

/-- A report at the window: refused, or applied and its place freed (R296). -/
def evReport (m : Nat) (s : State) : Option State :=
  (s.arrive m).bind fun (r, s') =>
    match r.msg.body with
    | .kappend who p rank light words =>
      (tget s'.parts p).bind fun P =>
        if words.isEmpty || krKind words != 0x40 then none
        else
          let t := who.agent.tileOf
          let pos := fld (krWord words 0) 31 0
          let reply (s : State) (w : Word) : State := s.reply (.bridge (winBridge p)) r.ret none (.kreply who w)
          if s'.refusesReport P t rank light words then some (reply s' kRefused)
          else
            let s1 := match (s'.tile t).placeOf pos with
              | some j => (s'.modTile t fun T => { T with inbox := tdel T.inbox j }).markInbox t j 55 false
              | none => s'
            let tick := s1.tickOf (bridgeTile (winBridge p))
            let note (e : WEntry) : WEntry := if e.pos = pos then e.report P s1.grade tick rank words else e
            some ((reply (s1.modWin p fun W => { W with entries := W.entries.map note }) (kStatus 0 pos)).countStall p)
    | _ => none

/-- REPORT (R298). -/
def execReport (m : Nat) (s : State) : Out := .next ((evReport m s).getD s)

end Sys2Proof.Machine
end

