-- ==== Sys2Proof/Machine/Digest.lean ====
section
/-! DEFINITION. The digests and checks the spec names by standard: CRC-32 (00_scope.md R12), SHA-256 (FIPS 180-4),
HMAC-SHA-256 (RFC 2104) and the verification of LMS signatures (RFC 8554) with LMS_SHA256_M32_H10 and
LMOTS_SHA256_N32_W8 (16_queue.md R303, 22_host.md R387, R390). Their texts are not in the spec: log 26, PRESUMED. -/
namespace Sys2Proof.Machine

/-! ### CRC-32 -/

/-- One bit of the reflected IEEE 802.3 polynomial. -/
def crcBit (r : Nat) : Nat := if r % 2 = 1 then Nat.xor (r / 2) 0xEDB88320 else r / 2

def crcByte (r : Nat) (b : Byte) : Nat := (List.range 8).foldl (fun r _ => crcBit r) (Nat.xor r b.toNat)

/-- CRC-32: initial value and final XOR all ones, reflected. -/
def crc32 (l : List Byte) : Nat := Nat.xor (l.foldl crcByte 0xFFFFFFFF) 0xFFFFFFFF

/-! ### SHA-256 -/

/-- The largest number whose k-th power is at most n, its bits b - 1 to 0 found from the highest. -/
def rootBits (k n b : Nat) : Nat :=
  (List.range b).foldl (fun r i => if (r + 2 ^ (b - 1 - i)) ^ k ≤ n then r + 2 ^ (b - 1 - i) else r) 0

/-- The first 64 primes, which end at 311. -/
def shaPrimes : List Nat :=
  ((List.range 312).drop 2).filter fun p => ((List.range p).drop 2).all fun d => p % d != 0

/-- The first 32 bits of the fraction of the k-th root of a number below 2^9. -/
def rootFraction (k p : Nat) : Nat := rootBits k (p * 2 ^ (32 * k)) 37 % 2 ^ 32

/-- The round constants: the fractions of the primes' cube roots. -/
def shaK : List Nat := shaPrimes.map (rootFraction 3)

/-- The initial working words: the fractions of the first eight primes' square roots. -/
def shaInit : List Word32 := (shaPrimes.take 8).map fun p => BitVec.ofNat 32 (rootFraction 2 p)

/-- Rotation and shift combinations of the standard. -/
def shaMix (a b c : Nat) (x : Word32) : Word32 := x.rotateRight a ^^^ x.rotateRight b ^^^ x.rotateRight c
def shaMixS (a b c : Nat) (x : Word32) : Word32 := x.rotateRight a ^^^ x.rotateRight b ^^^ (x >>> c)

/-- Big-endian numbers. -/
def beNat (l : List Byte) : Nat := l.foldl (fun a b => a * 256 + b.toNat) 0
def beBytes (n v : Nat) : List Byte := (leBytes n v).reverse

/-- The message schedule, newest word first. -/
def shaExpand : Nat → List Word32 → List Word32
  | 0, w => w
  | n + 1, w =>
    let g (i : Nat) : Word32 := w.getD i 0
    shaExpand n ((shaMixS 17 19 10 (g 1) + g 6 + shaMixS 7 18 3 (g 14) + g 15) :: w)

/-- One round on the eight working words. -/
def shaRound (h : List Word32) (kw : Nat × Word32) : List Word32 :=
  match h with
  | [a, b, c, d, e, f, g, h] =>
    let t1 := h + shaMix 6 11 25 e + ((e &&& f) ^^^ (~~~e &&& g)) + BitVec.ofNat 32 kw.1 + kw.2
    let t2 := shaMix 2 13 22 a + ((a &&& b) ^^^ (a &&& c) ^^^ (b &&& c))
    [t1 + t2, a, b, c, d + t1, e, f, g]
  | l => l

/-- One block of 64 bytes. -/
def shaBlock (h : List Word32) (b : List Byte) : List Word32 :=
  let w := (List.range 16).map fun i => BitVec.ofNat 32 (beNat ((b.drop (4 * i)).take 4))
  let sched := (shaExpand 48 w.reverse).reverse
  List.zipWith (· + ·) h ((shaK.zip sched).foldl shaRound h)

/-- Blocks in order, on fuel. -/
def shaBlocks : Nat → List Word32 → List Byte → List Word32
  | 0, h, _ => h
  | n + 1, h, l => shaBlocks n (shaBlock h (l.take 64)) (l.drop 64)

/-- The padded message. -/
def shaPad (l : List Byte) : List Byte :=
  let n := l.length
  l ++ [0x80] ++ List.replicate ((119 - n % 64) % 64) 0 ++ beBytes 8 (8 * n)

/-- SHA-256: 32 bytes. -/
def sha256 (l : List Byte) : List Byte :=
  let p := shaPad l
  (shaBlocks (p.length / 64) shaInit p).flatMap fun w => beBytes 4 w.toNat

/-- HMAC-SHA-256 under a key of at most 64 bytes. -/
def hmac (key msg : List Byte) : List Byte :=
  let k := key ++ List.replicate (64 - key.length) 0
  sha256 (k.map (· ^^^ 0x5C) ++ sha256 (k.map (· ^^^ 0x36) ++ msg))

/-! ### LMS (RFC 8554) -/

/-- An LM-OTS chain from a coefficient to 255, on fuel. -/
def lmChain (pre : List Byte) : Nat → Nat → List Byte → List Byte
  | 0, _, t => t
  | n + 1, j, t => if j < 255 then lmChain pre n (j + 1) (sha256 (pre ++ beBytes 1 j ++ t)) else t

/-- The climb from a leaf to the root. -/
def lmClimb (id : List Byte) : Nat → List Byte → List (List Byte) → List Byte
  | node, t, s :: l =>
    let pre := id ++ beBytes 4 (node / 2) ++ beBytes 2 0x8383
    lmClimb id (node / 2) (sha256 (pre ++ (if node % 2 = 1 then s ++ t else t ++ s))) l
  | _, t, [] => t

/-- Slice i of 32 bytes. -/
def slice32 (l : List Byte) (i : Nat) : List Byte := (l.drop (32 * i)).take 32

/-- The types a key must have (22_host.md R387): LMS_SHA256_M32_H10 is 6, LMOTS_SHA256_N32_W8 is 4. -/
def lmsTypes (key : List Byte) : Bool := beNat (key.take 4) == 6 && beNat ((key.drop 4).take 4) == 4

/-- Whether a 1,452-byte signature of a message verifies under a 56-byte key. -/
def lmsVerify (key msg sig : List Byte) : Bool :=
  let id := (key.drop 8).take 16
  let q := beNat (sig.take 4)
  let ots := sig.drop 4
  let c := (ots.drop 4).take 32
  let y := ots.drop 36
  let rest := ots.drop (36 + 34 * 32)
  let pre := id ++ beBytes 4 q
  let d := sha256 (pre ++ beBytes 2 0x8181 ++ c ++ msg)
  let sum := d.foldl (fun a b => a + (255 - b.toNat)) 0
  let coefs := d ++ beBytes 2 sum
  let z := (List.range 34).flatMap fun i =>
    lmChain (pre ++ beBytes 2 i) 255 ((coefs.getD i 0).toNat) (slice32 y i)
  let kc := sha256 (pre ++ beBytes 2 0x8080 ++ z)
  let leaf := sha256 (id ++ beBytes 4 (1024 + q) ++ beBytes 2 0x8282 ++ kc)
  lmsTypes key && sig.length == 1452 && beNat (ots.take 4) == 4 && beNat (rest.take 4) == 6 && decide (q < 1024) &&
  lmClimb id (1024 + q) leaf ((List.range 10).map (slice32 (rest.drop 4))) == (key.drop 24).take 32

end Sys2Proof.Machine
end

