-- ==== Sys2Proof/Machine/Queue.lean ====
section
/-! DEFINITION. Queue capabilities, records, wakes and doorbells, QWAKE, and the capability instructions of the mill's
cores (16_queue.md R303 to R315). -/
namespace Sys2Proof.Machine

/-! ### Queue capabilities (R303 to R305) -/

def State.queue (s : State) (q : Nat) : Queue := tgetD s.queues q Queue.reset
def State.setQueue (s : State) (q : Nat) (k : Queue) : State := { s with queues := tput s.queues q k }

/-- The device queue key of the present module reset: 32 free bytes (log 6, DESIGN CHOICE). -/
def State.queueKey (s : State) : List Byte :=
  (Config.freeBytes 0 s.mill0.resets ++ List.replicate 32 0).take 32

/-- Bytes 0 to 23 of a record's capability. -/
def Queue.sealed (k : Queue) : List Word :=
  [k.base, BitVec.ofNat 64 (k.owner * 2 ^ 48 + k.rights * 2 ^ 32 + k.length), BitVec.ofNat 64 (k.kind * 2 ^ 24 + k.gen)]

/-- The seal of three doublewords. -/
def State.sealOf (s : State) (l : List Word) : Word :=
  BitVec.ofNat 64 (leNat ((hmac s.queueKey (wordsBytes l)).take 8))

/-- The capability minted for a record. -/
def State.mint (s : State) (k : Queue) : List Word := k.sealed ++ [s.sealOf k.sealed]

def qcapRights (c : List Word) : Nat := fld (c.getD 1 0) 47 32
def qcapOwner (c : List Word) : Nat := fld (c.getD 1 0) 63 48
def qcapKind (c : List Word) : Nat := fld (c.getD 2 0) 31 24

/-- A right of a capability: WAKE 0, PRODUCE 1, CONSUME 2, RESET 3, SERVICE 7 (R304). -/
def qcapHas (c : List Word) (i : Nat) : Bool := decide (qcapRights c / 2 ^ i % 2 = 1)

/-- Check 1 of R308 on a capability: reserved bits zero and a kind that is not reserved. -/
def qcapFormat (c : List Word) : Bool :=
  fld (c.getD 0 0) 59 52 == 0 && qcapOwner c / 64 == 0 && qcapRights c / 2 ^ 8 == 0 && qcapRights c / 2 ^ 4 % 8 == 0 &&
  fld (c.getD 2 0) 63 32 == 0 && decide (1 ≤ qcapKind c) && decide (qcapKind c ≤ 4)

/-- Check 2. -/
def State.qcapSeal (s : State) (c : List Word) : Bool := c.getD 3 0 == s.sealOf (c.take 3)

/-- Check 4: record q is live with the capability's gen, base, length, kind and owner. -/
def Queue.matches_ (k : Queue) (c : List Word) : Bool :=
  k.state == 1 && k.gen == fld (c.getD 2 0) 23 0 && k.base == c.getD 0 0 && k.length == fld (c.getD 1 0) 31 0 &&
  k.kind == qcapKind c && k.owner == qcapOwner c

/-- Where a wake comes from: a CXL port, the wafer with the issuing partition, or the link. -/
inductive WakeSrc where
  | port (n : Nat)
  | wafer (part : Option Nat)
  | link
deriving DecidableEq, Repr

/-- Check 3: the kinds a source may wake (R308, 20_link.md R368). -/
def WakeSrc.kinds : WakeSrc → List Nat
  | .port _ => [1, 3]
  | .wafer _ => [1, 3, 4]
  | .link => [1, 3, 4]

/-- Check 6: the attachment, and for a QWAKE the owning partition. -/
def WakeSrc.mayWake (w : WakeSrc) (owner : Nat) : Bool :=
  let att := owner / 16 % 4
  match w with
  | .port n => att == n
  | .wafer part => att == 2 && part == some (owner % 16)
  | .link => att == 3

/-- The cause that rejects a wake, if any (R307, R308) (log 60, DEDUCED). -/
def State.wakeFault (s : State) (w : WakeSrc) (q : Nat) (c : List Word) (idx : Nat) (format : Bool) : Option Nat :=
  let k := s.queue q
  if k.state = 2 then some 9
  else if !(format && qcapFormat c) then some 1
  else if !s.qcapSeal c then some 2
  else if !w.kinds.contains (qcapKind c) then some 3
  else if !k.matches_ c then some 4
  else if !(qcapHas c 0 && qcapHas c 1) then some 5
  else if !w.mayWake (qcapOwner c) then some 6
  else if k.length < (idx + 2 ^ 32 - k.pidx) % 2 ^ 32 then some 7
  else none

/-- The error word's rejection (R306). -/
def Queue.reject (k : Queue) (cause : Nat) : Queue := { k with rejects := (k.rejects + 1) % 2 ^ 32, cause := cause }

/-- A wake at its bridge: rejected, or pidx := P, with a doorbell for MAILBOX and EVENT (R307, R309). -/
def State.wake (s : State) (w : WakeSrc) (q : Nat) (c : List Word) (idx : Nat) (format : Bool) : State :=
  let k := s.queue q
  match s.wakeFault w q c idx format with
  | some cause => s.setQueue q (k.reject cause)
  | none =>
    let s := s.setQueue q { k with pidx := idx }
    if k.kind = 4 then s
    else
      let port := match w with
        | .port n => n
        | _ => 2
      { s with bells := s.bells ++ [⟨q, idx, port, k.owner % 16, k.kind, k.doorbell, k.notify, none⟩] }

/-- WAKE_WRITE (R308): a host write of bytes at an offset of the wake window through a port. -/
def execWakeWrite (port off : Nat) (bytes : List Byte) (s : State) : Out :=
  .next <|
    let w (i : Nat) : Word := BitVec.ofNat 64 (leNat ((bytes.drop (8 * i)).take 8))
    let aligned := off % 64 == 0 && bytes.length == 64
    let format := aligned && fld (w 4) 63 32 == 0 && w 5 == 0 && w 6 == 0 && w 7 == 0
    if off / 64 < 4096 && decide (port < 2) then
      s.wake (.port port) (off / 64) [w 0, w 1, w 2, w 3] (fld (w 4) 31 0) format
    else s

/-- A QWAKE message at its bridge (R311). -/
def evQwake (m : Nat) (s : State) : Option State :=
  (s.arrive m).bind fun (r, s') =>
    match r.msg.body with
    | .qwake part c v => some (s'.wake (.wafer part) (fld v 43 32) c (fld v 31 0) (fld v 63 44 == 0))
    | _ => none

/-- QWAKE_ARRIVAL (R308). -/
def execQwakeArrival (m : Nat) (s : State) : Out := .next ((evQwake m s).getD s)

/-- QWAKE (R311). A contained context traps with the pointer (14_kernel.md R275, 18_fault.md R327), after the pointer's own
checks (R328). -/
noncomputable def execQwake (rs1 rs2 : XReg) (s : State) : Out :=
  issue (.qwake rs1 rs2) s fun s =>
    let p := effPtr (s.x1 rs1) 0
    let v := s.x2 rs1 rs2
    s.withParams 4 p fun c s =>
      if s.kernelOf.isSome then s.trap 27 p
      else
        s.awaitField 3#2 fun s =>
          s.retireQuiet.send s.focus.node (.bridge (fld v 43 32 / 1024)) none 0 (.qwake s.curPart c v)

/-! ### Doorbells (R309, 22_host.md R388) -/

/-- The i-th doorbell's store: the earlier wakes of its port have theirs posted; the pointer is translated with the
owner's tables (log 27, DEDUCED). -/
def evBell (i : Nat) (s : State) : Option State :=
  s.bells[i]?.bind fun b =>
    if b.ticket.isSome || ((s.bells.take i).any fun e => e.port == b.port && e.ticket.isNone) || s.winWaits b.part b.doorbell then none
    else
      match s.winXlat b.part akStore b.doorbell with
      | none => some { s with bells := s.bells.eraseIdx i }
      | some l =>
        let br := b.q / 1024
        let w := tickWit (s.tickOf (bridgeTile br) + 1)
        let (s, id) := s.bridgePost br b.part l (wordsBytes [BitVec.ofNat 64 b.idx, w])
        some { s with bells := s.bells.set i { b with ticket := some id } }

/-- DOORBELL_STORE (R309). -/
def execDoorbellStore (i : Nat) (s : State) : Out := .next ((evBell i s).getD s)

/-- The i-th doorbell once its store has performed; one that was refused is dropped. -/
def State.bellDone (s : State) (i kind : Nat) (go : Bell → State → State) : Option State :=
  s.bells[i]?.bind fun b =>
    if b.kind != kind then none
    else
      match b.ticket.bind s.ticketDone with
      | some ok =>
        let s := { s with bells := s.bells.eraseIdx i }
        some (if ok then go b s else s)
      | none => none

/-- DOORBELL_INTERRUPT (R309): the interrupt of slot 0 of the notify rank. -/
def execDoorbellInterrupt (i : Nat) (s : State) : Out :=
  .next ((s.bellDone i 1 fun b s => match s.homeOf b.notify with
    | some t => s.raiseIrq t 19
    | none => s).getD s)

/-- EVENT_MSIX (22_host.md R388): vector 1 + (q mod 63), on the port the store left by, which is open (log 2, DESIGN CHOICE). -/
def execEventMsix (i : Nat) (s : State) : Out :=
  .next ((s.bellDone i 3 fun b s =>
    let (v, s) := s.free
    { s with msix := (v % 2, 1 + b.q % 63) :: s.msix }).getD s)

/-! ### The firmware's record of a capability fault (R307, R312) -/

/-- The live queue that a core serves through a capability: one of whose ring's segments the capability bounds (R312; log 62, UNVERIFIED). -/
def State.servedBy (s : State) (c : Word128) : Option Nat :=
  (s.queues.find? fun q =>
    let k := q.2
    k.state == 1 && (List.range (k.length / (2 ^ 24 - 1) + 1)).any fun i =>
      match s.winXlat (k.owner % 16) akLoad (effPtr k.base (BitVec.ofNat 64 (i * (2 ^ 24 - 1) * 64))) with
      | some (.dram rank off _ _) => rank * 2 ^ 33 + off == capBase c * 64
      | _ => false).map (·.1)

/-- The fault of a core noted in the record of the queue that it serves, which is then faulted with cause 8; the sequence of the
message in hand is the firmware's (log 62, UNVERIFIED). -/
def State.recordCapFault (s : State) (k : Nat) : State :=
  match (s.mill k).blame with
  | none => s
  | some c =>
    let s : State := { s with mills := tput s.mills k { s.mill k with blame := none } }
    match s.servedBy c with
    | none => s
    | some q =>
      let (v, s) := s.free
      s.setQueue q { s.queue q with state := 2, cause := 8, fseq := v % 2 ^ 28 }

/-! ### Capability instructions (R312 to R314) -/

/-- The core that issues. -/
def State.curCore (s : State) : MillCore :=
  match s.focus with
  | .mill k => s.mill k
  | .tile _ => MillCore.reset

/-- A register of the issuing core with its 128 bits and tag; x0 stays. -/
def State.setCap (s : State) (r : XReg) (c : Word128) (tag : Bool) : State :=
  match s.focus with
  | .mill k =>
    if r = 0 then s
    else
      let K := s.mill k
      { s with mills := tput s.mills k { K with ctx := K.ctx.setX r (c.setWidth 64), hi := K.hi.set r.toNat (c.extractLsb' 64 64),
                                                tag := K.tag.set r.toNat tag } }
  | .tile _ => s

/-- A capability's fields replaced: lo is the least bit, n the width. -/
def capPut (c : Word128) (lo n v : Nat) : Word128 :=
  (c &&& ~~~(BitVec.ofNat 128 ((2 ^ n - 1) * 2 ^ lo))) ||| BitVec.ofNat 128 (v % 2 ^ n * 2 ^ lo)

/-- The first check of rs1: tagged, and open where the instruction needs it. -/
def State.openCap (s : State) (r : XReg) (open_ : Bool) (go : Word128 → State → State) : State :=
  let (c, tag) := s.curCore.cap r
  if !tag then s.capFault r 1 else if open_ && capLock c != 0 then s.capFault r 2 else go c s

/-- HLD (R314): 16 bytes with their tag from SRAM; from global memory, read at their home after the core's own earlier stores
(07_witness.md R155 item 5), untagged. -/
noncomputable def execHld (rd rs1 : XReg) (s : State) : Out :=
  issue (.hld rd rs1) s fun s =>
    let (c, tag) := s.curCore.cap rs1
    let a := capCursor c
    match capCheck c tag [0, 2] a 16 with
    | some k => s.capFault rs1 k
    | none =>
      if 2 ^ 45 ≤ a then
        let off := a - 2 ^ 45
        (s.setCap rd (BitVec.ofNat 128 (leNat (s.rdMem (sramKey off) 16))) (s.sramTags.contains (off / 16))).retire
      else
        let rank := a / 2 ^ 33
        let off := a % 2 ^ 33
        match s.homeOf rank with
        | none => s.trap (if s.grade ≤ rank then 5 else 53) (BitVec.ofNat 64 a)
        | some t =>
          s.awaitOver fun s =>
            match s.atHome t off (s.focus.reader 0) with
            | .held s => s.park (.range rank off)
            | .wait => s.forfeit
            | .go s =>
              if s.poison t off != 0 then s.trap 53 (BitVec.ofNat 64 a)
              else (s.setCap rd (BitVec.ofNat 128 (leNat (s.rdMem (dramKey t off) 16))) false).retire

/-- HST (R314). -/
noncomputable def execHst (rs1 rs2 : XReg) (s : State) : Out :=
  issue (.hst rs1 rs2) s fun s =>
    let (c, tag) := s.curCore.cap rs1
    let (v, vt) := s.curCore.cap rs2
    let a := capCursor c
    match capCheck c tag (if vt then [1, 3] else [1]) a 16 with
    | some k => s.capFault rs1 k
    | none =>
      if 2 ^ 45 ≤ a then
        let u := (a - 2 ^ 45) / 16
        let s := s.wrMem (sramKey (a - 2 ^ 45)) (leBytes 16 v.toNat)
        let rest := s.sramTags.filter (· != u)
        State.retire { s with sramTags := if vt then rest.filter (· < u) ++ u :: rest.filter (u < ·) else rest }
      else if vt then s.capFault rs1 3
      else if s.grade ≤ a / 2 ^ 33 then s.trap 7 (BitVec.ofNat 64 a)
      else s.doPost 0 (.store (leBytes 16 v.toNat)) (.dram (a / 2 ^ 33) (a % 2 ^ 33) false false) State.retire

/-- HNARROW (R314) (log 61, DEDUCED). -/
noncomputable def execHnarrow (rd rs1 rs2 : XReg) (s : State) : Out :=
  issue (.hnarrow rd rs1 rs2) s fun s =>
    let n := (s.x2 rs1 rs2).toNat
    s.openCap rs1 true fun c s =>
      let a := capCursor c
      if a % 64 != 0 || n % 64 != 0 then s.capFault rs1 3
      else if a < capBase c * 64 then s.capFault rs1 4
      else if (capBase c + capLen c) * 64 < a + n then s.capFault rs1 5
      else (s.setCap rd (capPut (capPut c 48 42 (a / 64)) 90 24 (n / 64)) true).retire

/-- HDROP (R314): with x0 for rs2 the register move of capabilities. -/
noncomputable def execHdrop (rd rs1 rs2 : XReg) (s : State) : Out :=
  issue (.hdrop rd rs1 rs2) s fun s =>
    let m := fld (s.x2 rs1 rs2) 7 0
    s.openCap rs1 (rs2 != 0) fun c s =>
      (s.setCap rd (if rs2 = 0 then c else c &&& ~~~(BitVec.ofNat 128 (m * 2 ^ 120))) true).retire

/-- HSEEK (R314). -/
noncomputable def execHseek (rd rs1 rs2 : XReg) (s : State) : Out :=
  issue (.hseek rd rs1 rs2) s fun s =>
    let v := (s.x2 rs1 rs2).toNat
    s.openCap rs1 true fun c s => (s.setCap rd (capPut c 0 48 (capCursor c + v)) true).retire

/-- HLOCK (R314): class 0 is illegal. -/
noncomputable def execHlock (rd rs1 : XReg) (uimm : BitVec 5) (s : State) : Out :=
  issueIf (uimm == 0) (.hlock rd rs1 uimm) s fun s =>
    s.openCap rs1 true fun c s => (s.setCap rd (capPut c 115 5 uimm.toNat) true).retire

/-- HOPEN (R314). -/
noncomputable def execHopen (rd rs1 : XReg) (uimm : BitVec 5) (s : State) : Out :=
  issue (.hopen rd rs1 uimm) s fun s =>
    s.openCap rs1 false fun c s =>
      if capLock c != uimm.toNat then s.capFault rs1 (if capLock c != 0 then 2 else 3)
      else (s.setCap rd (capPut c 115 5 0) true).retire

/-- What HINFO reports (R314). -/
def capInfo (c : Word128) (tag : Bool) (sel : Nat) : Word :=
  match sel with
  | 0 => BitVec.ofNat 64 (capBase c * 64)
  | 1 => BitVec.ofNat 64 (capLen c * 64)
  | 2 => BitVec.ofNat 64 (b2n tag)
  | 3 => BitVec.ofNat 64 (capPerm c)
  | 4 => BitVec.ofNat 64 (capLock c)
  | 5 => BitVec.ofNat 64 (capCursor c)
  | _ => -1

/-- HINFO (R314). -/
noncomputable def execHinfo (rd rs1 : XReg) (uimm : BitVec 5) (s : State) : Out :=
  issue (.hinfo rd rs1 uimm) s fun s =>
    let (c, tag) := s.curCore.cap rs1
    (s.setX rd (capInfo c tag uimm.toNat)).retire

/-- A new capability over a range (R314). -/
def capMint (a n : Nat) : Word128 := BitVec.ofNat 128 (31 * 2 ^ 120 + n / 64 * 2 ^ 90 + a / 64 % 2 ^ 42 * 2 ^ 48 + a % 2 ^ 48)

/-- HMINT (R314). -/
noncomputable def execHmint (rd rs1 rs2 : XReg) (s : State) : Out :=
  issue (.hmint rd rs1 rs2) s fun s =>
    let a := (s.x1 rs1).toNat
    let n := (s.x2 rs1 rs2).toNat
    let (c, tag) := s.curCore.cap rs1
    if a % 64 != 0 || n % 64 != 0 || decide (2 ^ 24 ≤ n / 64) || decide (2 ^ 46 < a + n) then
      s.capFault rs1 (if tag && capLock c != 0 then 2 else 3)
    else (s.setCap rd (capMint a n) true).retire

end Sys2Proof.Machine
end

