-- ==== Sys2Proof/Machine/Spill.lean ====
section
/-! DEFINITION. Slot 0's view of contexts, resumption, forwarding and pre-emption, and the records of the fault and
trace rings (18_fault.md R330 to R341, 21_observe.md R375 to R377). -/
namespace Sys2Proof.Machine

/-! ### The packet's doublewords (04_context.md R89, R90) -/

/-- The full/empty word of a context (R90). -/
def Ctx.fullWord (c : Ctx) : Word :=
  let p := c.th.fepol
  let fe := c.festate false
  BitVec.ofNat 64 (fld p 39 32 * 2 ^ 39 + fld p 15 1 * 2 ^ 24 + fld fe 39 32 * 2 ^ 16 + fld fe 15 1 * 2)

/-- A context's 32 doublewords. -/
def Ctx.packet (c : Ctx) : List Word :=
  [c.th.gtid, c.th.pc, c.th.status] ++ (c.th.x.toList.drop 1).take 15 ++ c.th.f.toList ++ [c.fullWord] ++
  c.th.own.toList ++ [c.th.ownOver]

/-- fepol from a full/empty word. -/
def fepolOf (w : Word) : Word := BitVec.ofNat 64 (fld w 46 39 * 2 ^ 32 + fld w 38 24 * 2)

/-- A doubleword of the packet stored as slot 0 may (R90, R330): the GTID is ignored, the PC's bits 1:0 are cleared. -/
def Ctx.putWord (c : Ctx) (i : Nat) (w : Word) : Ctx :=
  let h := c.th
  if i = 0 then c
  else if i = 1 then { c with th := { h with pc := w &&& ~~~3#64 } }
  else if i = 2 then { c with th := h.putStatus w }
  else if i < 18 then c.setX (BitVec.ofNat 5 (i - 2)) w
  else if i < 26 then c.setF (BitVec.ofNat 3 (i - 18)) w
  else if i = 26 then { c with th := { h with fepol := fepolOf w } }
  else if q : i - 27 < 4 then { c with th := { h with own := h.own.set (i - 27) w } }
  else { c with th := { h with ownOver := w } }

/-- A thread from its 32 doublewords. -/
def Thread.ofWords (l : List Word) : Thread :=
  let c : Ctx := { Ctx.free with th := { Thread.reset with gtid := l.getD 0 0 } }
  ((List.range 31).foldl (fun c i => c.putWord (i + 1) (l.getD (i + 1) 0)) c).th

/-- A state's code in a trap record (R331). -/
def CState.code : CState → Nat
  | .free => 0
  | .ready => 1
  | .parkedReg => 2
  | .parkedWit => 3
  | .parkedJoin => 4
  | .departing => 5
  | .inFlight => 6
  | .refused => 7
  | .admitted => 8
  | .trapped => 9

def CState.ofCode : Nat → CState
  | 2 => .parkedReg
  | 3 => .parkedWit
  | 4 => .parkedJoin
  | 5 => .departing
  | 7 => .refused
  | 8 => .admitted
  | 9 => .trapped
  | _ => .ready

/-! ### CTXREAD, CTXWRITE (R330, R331, R333, R334) -/

/-- What rs1 names: a slot's packet, its trap record, or a refusal entry; none for an invalid operand. -/
inductive View where
  | packet (c : Nat)
  | trap (c : Nat)
  | refusal (i : Nat)
deriving DecidableEq, Repr

def Tile.view (T : Tile) (v : Word) : Option View :=
  let c := fld v 3 0
  if fld v 63 11 != 0 then none
  else
    match fld v 5 4 with
    | 0 => if fld v 10 6 != 0 || c = 0 || (T.slot c).st == .free then none else some (.packet c)
    | 1 => if fld v 10 6 != 0 || c = 0 then none else some (.trap c)
    | 2 => if c != 0 then none else some (.refusal (fld v 10 6))
    | _ => none

/-- The trap record's words (R331), for the state the slot is in. -/
def Ctx.trapWords (c : Ctx) (st : CState) : List Word :=
  let t := if st == .trapped then c.trap else TrapRec.none
  [BitVec.ofNat 64 (st.code * 2 ^ 60 + bn t.achk (2 ^ 8) + t.cause), t.tval, t.epc, t.tick]

/-- A refusal entry's words (R333). -/
def RefEntry.words (e : RefEntry) : List Word :=
  [BitVec.ofNat 64 (bn e.valid (2 ^ 63) + bn e.ackpend (2 ^ 62) + e.cause * 2 ^ 48 + e.dst * 2 ^ 36 + e.count),
   BitVec.ofNat 64 e.first, BitVec.ofNat 64 e.last, e.addr, e.gtid, e.pwit]

/-- Reading: log 63, DEDUCED. -/
def State.viewWords (s : State) (t : Nat) : View → List Word
  | .packet c => ((s.tile t).slot c).packet
  | .trap c => ((s.tile t).slot c).trapWords (s.slotState t c)
  | .refusal i => ((s.tile t).refusals.toList.getD i RefEntry.empty).words

/-- CTXREAD (R330). -/
def execCtxread (rd rs1 : XReg) (uimm : BitVec 5) (s : State) : Out :=
  issue (.ctxread rd rs1 uimm) s fun s =>
    (s.setX rd (match s.curT.view (s.x1 rs1) with
      | some v => (s.viewWords s.curTile v).getD uimm.toNat 0
      | none => -1)).retire

/-- The acknowledgement of a refusal entry (R334). One of an access to space 3 has no mark at any home, and is freed at once
(20_link.md R365; log 106, DEDUCED). -/
def State.acknowledge (s : State) (i : Nat) : State :=
  let t := s.curTile
  let e := s.curT.refusals.toList.getD i RefEntry.empty
  let put (e : RefEntry) (s : State) : State :=
    s.modTile t fun T => if h : i < 32 then { T with refusals := T.refusals.set i e } else T
  if !e.valid || e.ackpend then s
  else if e.dst = 4095 then put RefEntry.empty s
  else
    match s.mapOf t e.dst with
    | none => s
    | some d =>
      (put { e with ackpend := true } s).send (.tile t) (.tile d) (some e.dst) 0 (.refAck (s.rankOf t) e.dst e.last)

/-- CTXWRITE (R330). -/
def execCtxwrite (rs1 rs2 : XReg) (uimm : BitVec 5) (s : State) : Out :=
  issue (.ctxwrite rs1 rs2 uimm) s fun s =>
    let w := s.x2 rs1 rs2
    match s.curT.view (s.x1 rs1) with
    | some (.packet c) =>
      let x := s.curT.slot c
      if x.st != .trapped then s.retire
      else if x.wordEmpty uimm.toNat then s.park (.word c uimm.toNat)
      else (s.modTile s.curTile fun T => T.setSlot c (x.putWord uimm.toNat w)).retire
    | some (.refusal i) => (s.acknowledge i).retire
    | _ => s.retire

/-! ### RESUME of one slot (R332) -/

/-- A context's own-store table checked and moved down before it issues again (R332): a malformed one traps it now. -/
def Ctx.recheck (grade tick : Nat) (c : Ctx) (go : Ctx → Ctx) : Ctx :=
  match c.th.ownBad grade with
  | some w => { c with st := .trapped, forwarded := false, trap := ⟨c.trap.achk, 25, w, c.th.pc, BitVec.ofNat 64 tick⟩ }
  | none => go { c with th := c.th.ownCompact }

/-- A trapped context resumed in place. -/
def Ctx.resumeHere (grade tick : Nat) (c : Ctx) : Ctx :=
  c.recheck grade tick fun c =>
    { c with st := if c.trap.achk then .admitted else .ready, bpSkip := c.trap.cause == 3 }

/-- A trapped context forwarded to a rank: it leaves once its registers are full. -/
def State.forward (s : State) (t c rank : Nat) : State :=
  let g := ((s.tile t).slot c).th.gtid
  (s.modTile t fun T => T.dropIrqs g).modCtx (.tile t) c fun x =>
    { x with st := .departing, target := rank, explicit := true, forwarded := true, handler := false, kept := none, carried := none,
             macc := s.accOf t (.dram rank 0 false false) }

/-! ### The spill area (R338 to R340) -/

def spillKey (t i : Nat) : Nat := spadKey t (0x1000 + 8 * i)
def packetKey (t c : Nat) : Nat := spadKey t (0x1100 + 256 * (c - 1))
def arrivalKey (t j : Nat) : Nat := spadKey t (0x2000 + 256 * j)

/-- The light slots. -/
def lightSlots : List Nat := (List.range 16).drop 1

/-- Whether a slot can be spilled now (04_context.md R98, R212, R219). -/
def State.spillable (s : State) (t c : Nat) : Bool :=
  let x := (s.tile t).slot c
  x.st == .free ||
  (x.st != .inFlight && !x.killed && x.packable && (match x.stage with
    | .gsyncSent _ _ => false
    | .joinProxied => false
    | _ => true))

/-- What stays on the tile of a spilled context. -/
def Ctx.saved (c : Ctx) (yielded : Bool) : Saved :=
  ⟨c.stage, c.wait, c.target, c.explicit, c.forwarded, c.macc, c.proxyNext, c.bpSkip, c.inherited, c.carried, yielded, c.trap.tick, c.streams, c.vdone, c.vstatus,
   c.vpend, c.uiepc, c.uixid, c.handler, c.kept⟩

/-- The header's 32 doublewords. -/
def State.spillHeader (s : State) (t : Nat) : List Word :=
  let T := s.tile t
  let used := lightSlots.filter fun c => (T.slot c).st != .free
  let trap (c : Nat) : TrapRec := if (T.slot c).st == .trapped then (T.slot c).trap else TrapRec.none
  [BitVec.ofNat 64 ((used.map fun c => 2 ^ (32 + c)).sum + T.arrivals.length * 2 ^ 16 + 1), BitVec.ofNat 64 (s.tickOf t)] ++
  (lightSlots.map fun c =>
    BitVec.ofNat 64 ((s.slotState t c).code * 2 ^ 60 + bn (trap c).achk (2 ^ 8) + (trap c).cause)) ++
  lightSlots.map fun c => (trap c).tval

/-- Every light slot and arrival packet spilled (R339 steps 3 and 4). -/
def State.spillAll (s : State) (t : Nat) : State :=
  let s := lightSlots.foldl (fun s c => s.drainSlot t c) s
  let T := s.tile t
  let used := lightSlots.filter fun c => (T.slot c).st != .free
  let s := s.wrMem (spillKey t 0) (wordsBytes (s.spillHeader t))
  let s := used.foldl (fun s c => s.wrMem (packetKey t c) (wordsBytes (T.slot c).packet)) s
  let s := (T.arrivals.zip (List.range 32)).foldl (fun s (q, j) =>
    s.wrMem (arrivalKey t j) (wordsBytes { Ctx.free with th := q.th }.packet)) s
  let keep (tb : Tbl Saved) (g : Word) (v : Saved) : Tbl Saved := tput tb g.toNat v
  let saved := used.foldl (fun tb c => keep tb (T.slot c).th.gtid ((T.slot c).saved false)) T.saved
  let saved := T.arrivals.foldl (fun tb q => keep tb q.th.gtid
    ({ Ctx.free with th := q.th, inherited := q.inherited, carried := q.carried }.saved q.yielded)) saved
  let s := s.modTile t fun T => { T with saved := saved, arrivals := [] }
  used.foldl (fun s c => s.vacate t c) s

/-- PREEMPT (R339): it is illegal while the area is in use; the gate closes, and slot 0 forfeits its turns until every
light slot can be spilled. -/
def execPreempt (s : State) : Out :=
  issueIf ((s.curT.slot s.curSlot).stage == .none && bit (s.rdWord (spillKey s.curTile 0)) 0) .preempt s fun s =>
    let t := s.curTile
    let s := s.modTile t fun T => { T with gate := false }
    if lightSlots.all fun c => s.spillable t c then (s.spillAll t).retire
    else s.modCur fun c => { c with stage := .preempt, st := .ready }

/-- A spilled context restored (R340): its packet, its header fields and what the tile kept. One that was parked until an
event tries again, and so does a departing one whose translation an SFENCE.VMA has undone (log 94, DEDUCED). -/
def State.unspill (s : State) (t from_ : Nat) : Ctx :=
  let T := s.tile t
  let h := Thread.ofWords (s.rdWords (packetKey t from_) 32)
  let head := s.rdWord (spillKey t (1 + from_))
  let st := CState.ofCode (fld head 63 60)
  let bound := match T.port with
    | some P => P.gtid == h.gtid
    | none => false
  let c : Ctx := { Ctx.free with th := { h with furrow := bound }, st := st }
  let c := match tget T.saved h.gtid.toNat with
    | none => c
    | some v =>
      let stage := match v.stage with
        | .joinParked _ => Stage.none
        | g => g
      { c with stage := stage, wait := if v.wait == Wait.event then Wait.full else v.wait,
               bpSkip := v.bpSkip, inherited := v.inherited, carried := v.carried, target := v.target, explicit := v.explicit, forwarded := v.forwarded, macc := v.macc,
               proxyNext := v.proxyNext, streams := v.streams, vdone := v.vdone, vstatus := v.vstatus,
               vpend := v.vpend, uiepc := v.uiepc, uixid := v.uixid, handler := v.handler, kept := v.kept,
               trap := ⟨false, 0, 0, 0, v.trapTick⟩ }
  match st with
  | .trapped => { c with trap := ⟨bit head 8, fld head 7 0, s.rdWord (spillKey t (16 + from_)), h.pc, c.trap.tick⟩ }
  | .refused => { (c.recheck s.grade (s.tickOf t) id) with backoff := some 0 }
  | .departing => c.recheck s.grade (s.tickOf t) fun c =>
      if c.forwarded || c.carried.isSome then c else { c with st := .ready }
  | _ => c.recheck s.grade (s.tickOf t) id

/-- The slot a spilled context returns to: its own if it is free, else the lowest free one. -/
def Tile.returnSlot (T : Tile) (c : Nat) : Nat := if T.freeSlot c then c else T.lowestSlot.getD 0

/-- The spill area restored (R340). -/
def State.restoreAll (s : State) (t : Nat) : State :=
  let head := s.rdWord (spillKey t 0)
  let used := lightSlots.filter fun c => bit head (32 + c)
  let s1 := used.foldl (fun s c => s.modTile t fun T => T.setSlot (T.returnSlot c) (s.unspill t c)) s
  let queued := (List.range (fld head 21 16)).map fun j =>
    let h := Thread.ofWords (s.rdWords (arrivalKey t j) 32)
    match tget (s.tile t).saved h.gtid.toNat with
    | some v => (⟨h, v.yielded, v.inherited, v.carried⟩ : Queued)
    | none => ⟨h, false, false, none⟩
  let gone := (used.map fun c => (s.rdWord (packetKey t c)).toNat) ++ queued.map fun q => q.th.gtid.toNat
  let s1 := s1.modTile t fun T =>
    { T with arrivals := queued ++ T.arrivals, gate := true, saved := T.saved.filter fun p => !gone.contains p.1 }
  s1.wrWord (spillKey t 0) (setBits head 0 1 0)

/-- RESUME (R332, R340). -/
def execResume (rs1 : XReg) (s : State) : Out :=
  issue (.resume rs1) s fun s =>
    let t := s.curTile
    let v := s.x1 rs1
    let c := fld v 3 0
    let rank := fld v 27 16
    if v = 0 then
      let head := s.rdWord (spillKey t 0)
      let need := (lightSlots.filter fun c => bit head (32 + c)).length
      let room := (lightSlots.filter fun c => s.curT.freeSlot c).length
      if !bit head 0 || decide (room < need) then s.illegal (Instr.resume rs1).word else (s.restoreAll t).retire
    else if fld v 63 28 != 0 || fld v 15 6 != 0 || c = 0 || (s.curT.slot c).st != .trapped then s.retire
    else
      match fld v 5 4 with
      | 0 => (s.modCtx (.tile t) c fun x => x.resumeHere s.grade s.tick).retire
      | 1 => (if s.partOf rank == s.curPart && s.curPart.isSome then s.forward t c rank else s).retire
      | _ => s.retire

/-! ### Fault and trace rings (R335, 21_observe.md R375) -/

/-- A record's message is the first one of its source under way to the ring (R375: one path). -/
def State.firstOf (s : State) (g : Msg) (same : Body → Bool) : Bool :=
  match s.net.find? fun x => x.src == g.src && x.dst == g.dst && same x.body with
  | some x => x.id == g.id
  | none => false

/-- The slot of a ring written whole (16_queue.md R310): sequence, null witness, payload; a range that takes no store
takes no record. -/
def State.writeRing (s : State) (t off n seq : Nat) (payload : List Word) : State :=
  let o := off + 64 * ((seq - 1) % n)
  if s.poison t o != 0 then s
  else s.homeWrite t o 4095 (wordsBytes ([BitVec.ofNat 64 seq, 0] ++ payload))

def Body.isFault : Body → Bool
  | .faultRec _ _ => true
  | _ => false
def Body.isTrace : Body → Bool
  | .traceRec _ _ _ => true
  | _ => false

/-- A fault record at its ring (R335): sequence, slot, and interrupt 20 on the fault rank. -/
def evFaultRecord (m : Nat) (s : State) : Option State :=
  match s.net.find? fun g => g.id == m with
  | none => none
  | some g =>
    if !s.firstOf g Body.isFault then none
    else
      (s.arrive m).bind fun (r, s') =>
        match r.msg.body with
        | .faultRec p payload =>
          match tget s'.parts p with
          | none => some s'
          | some P =>
            let n := P.faultSeq + 1
            let s1 := s'.modPart p fun P => { P with faultSeq := n }
            let s1 := if r.stand then s1 else s1.writeRing r.at_ P.faultOff P.faultSlots n payload
            some (match (P.ranks.head?).bind s1.homeOf with
              | some t => s1.raiseIrq t 20
              | none => s1)
        | _ => none

/-- FAULT_RECORD_ARRIVAL (R335). -/
def execFaultRecordArrival (m : Nat) (s : State) : Out := .next ((evFaultRecord m s).getD s)

/-- A tile's trace record has been written: its place is free for the next one that waits (R375). -/
def State.traceDone (s : State) (t part : Nat) : State :=
  if t = 4095 then s
  else
    let s := s.modTile t fun T => { T with traceFlight := T.traceFlight - 1 }
    match (s.tile t).traceWait with
    | [] => s
    | w :: r => (s.modTile t fun T => { T with traceWait := r }).launchTrace t part w

/-- A trace record at its ring (R375). -/
def evTraceRecord (m : Nat) (s : State) : Option State :=
  match s.net.find? fun g => g.id == m with
  | none => none
  | some g =>
    if !s.firstOf g Body.isTrace then none
    else
      (s.arrive m).bind fun (r, s') =>
        match r.msg.body with
        | .traceRec p src payload =>
          match tget s'.parts p with
          | none => some (s'.traceDone src p)
          | some P =>
            let n := P.traceSeq + 1
            let s1 := s'.modPart p fun P => { P with traceSeq := n }
            some ((if r.stand then s1 else s1.writeRing r.at_ P.traceOff P.traceSlots n payload).traceDone src p)
        | _ => none

/-- TRACE_RECORD_ARRIVAL (R375). -/
def execTraceRecordArrival (m : Nat) (s : State) : Out := .next ((evTraceRecord m s).getD s)

/-- TRACEMARK (R377): it does not issue while 16 of the tile's records are in flight. -/
def execTracemark (rs1 : XReg) (uimm : BitVec 5) (s : State) : Out :=
  issue (.tracemark rs1 uimm) s fun s =>
    let t := s.curTile
    if s.curPart.isNone then s.retire
    else if 16 ≤ s.curT.traceFlight then s.forfeit
    else
      let c := s.curSlot
      (s.trace t 1 uimm.toNat 0 c (if s.full then 0 else s.cur.th.gtid) (s.x1 rs1)).retire

/-- The sample records that a tile creates at a tick edge (R376): one for each light slot that holds a context, in slot order. FTIME
is 0 there. -/
def State.takeSamples (s : State) (t : Nat) : State :=
  let per := (s.tile t).obs.period
  match s.partOf (s.rankOf t) with
  | none => s
  | some p =>
    if per = 0 || s.tickOf t % per != 0 || (tget s.parts p).all fun P => P.traceSlots == 0 then s
    else
      let used := lightSlots.filter fun c => ((s.tile t).slot c).st != .free
      let one (c : Nat) : List Word :=
        let x := (s.tile t).slot c
        s.tracePayload t p 3 (s.slotState t c).code 0 c 0 x.th.gtid x.th.pc
      s.modTile t fun T => { T with samples := T.samples ++ used.map one }

/-- The sample records of the last tick edge are sent (R376). -/
def evSample (t : Nat) (s : State) : Option State :=
  if (s.tile t).samples.isEmpty then none else (s.partOf (s.rankOf t)).map (s.sendSamples t)

/-- SAMPLE (R376). -/
def execSample (t : Nat) (s : State) : Out := .next ((evSample t s).getD s)

end Sys2Proof.Machine
end

