-- ==== Sys2Proof/Machine/Life.lean ====
section
/-! DEFINITION. The tile's life and time: reset and self-test, the tick grid and the drained tick, heartbeats, the vote,
retirement, adoption, stand-ins, evacuation, and the latency page (01_wafer.md R15, R21, R22; 07_witness.md R146;
17_page.md R323; 18_fault.md R336; 19_tile.md R344 to R357, R413; 22_host.md R392, R395). -/
namespace Sys2Proof.Machine

/-- Every tile, in the order of field and local index (01_wafer.md R21). -/
def allTiles : List Nat := (List.range 64).flatMap fun f => (List.range 16).map (tileOfField f)

/-- A tile's place in that order. -/
def orderOf (t : Nat) : Nat := fieldOf t * 16 + lidxOf t

/-! ### Reset, self-test and ranks (R21, R22, R345, R392) -/

/-- The tiles the rank engine marks bad (R21 step 1). -/
def State.badAtReset (s : State) (t : Nat) : Bool := s.fusedBad.contains t || s.mill0.failed.contains t

/-- The two walks of R21, in order, up to the exposed count. -/
def State.rankWalk (s : State) : List Nat :=
  let good := allTiles.filter fun t => !s.badAtReset t
  ((good.filter fun t => !s.fusedSpare.contains t) ++ good.filter s.fusedSpare.contains).take s.grade

/-- What R22 reports of a ranking: the fused spares it ranked, and the spares left. -/
def State.rankReports (s : State) (ranked : List Nat) : List Report :=
  let good := (allTiles.filter fun t => !s.badAtReset t).length
  let fused := (ranked.filter s.fusedSpare.contains).length
  if ranked.length < s.grade then [.gradeNotMet]
  else (if fused = 0 then [] else [.sparesRanked fused]) ++
    if good - ranked.length < 16 then [.spareDeficit (good - ranked.length)] else []

/-- The ranks assigned (R21), none when the grade is not met (R22). -/
def State.assignRanks (s : State) : State :=
  let ranked := s.rankWalk
  let reps := s.rankReports ranked
  let gnm := reps.contains .gradeNotMet
  let map : Tbl Nat := if gnm then [] else (List.range ranked.length).zip ranked
  let sdef := reps.any fun r => match r with
    | .spareDeficit _ => true
    | _ => false
  { s with rankTile := map, baseMap := map, mill0 := { s.mill0 with gnm := gnm, sdef := sdef, reports := reps } }

/-- What a module reset leaves of a tile: which scratchpad lines are uncorrectable, with the scratchpad's bytes (log 7, DEDUCED). -/
def keptLines (ts : Tbl Tile) : Tbl Tile :=
  ts.map fun q => (q.1, { Tile.reset with badLines := q.2.badLines })

/-- The module's reset input (R392): the state of reset, with memory, fuses and the non-volatile store as they were
(log 7, DEDUCED); when the firmware is verified, the ranks follow from the self-tests. -/
def State.moduleReset (s : State) (fw : Bool) (failed : List Nat) : State :=
  let m := { Mill.reset with fwok := fw, resets := s.mill0.resets + 1, signatures := s.mill0.signatures,
                             keys := s.mill0.keys, failed := failed }
  let s := { State.reset with focus := s.focus, agenda := s.agenda, nextId := s.nextId, freeCount := s.freeCount,
                              grade := s.grade, fusedBad := s.fusedBad, fusedSpare := s.fusedSpare, mem := s.mem,
                              tiles := keptLines s.tiles, mill0 := m }
  if fw then s.assignRanks else s

/-- MODULE_RESET (R392): whether the firmware is verified, and the tiles whose self-test fails. -/
def execModuleReset (fw : Bool) (failed : List Nat) (s : State) : Out := .next (s.moduleReset fw failed)

/-- The state a tile enters when its self-test ends (R345): at reset as ranked, after readmission spare or bad. -/
def State.lifeAfterTest (s : State) (t : Nat) (pass : Bool) : Life × Option Nat :=
  if (s.tile t).before = .fallow then (if pass then .spare else .bad, none)
  else if s.badAtReset t then (.bad, none)
  else
    match s.baseMap.find? fun q => q.2 == t with
    | some (k, _) => (.ranked, some k)
    | none => (.spare, none)

/-- A tile's self-test ends; after the last one at reset the mill sets ready (R392 step 4) (log 73, DEDUCED). -/
def evSelfTest (t : Nat) (pass : Bool) (s : State) : Option State :=
  if (s.tile t).life != .testing || !s.mill0.fwok || 1024 ≤ t then none
  else
    let (l, r) := s.lifeAfterTest t pass
    let s := s.modTile t fun T => { T with life := l, before := l, rank := r }
    let done := allTiles.all fun d => (s.tile d).life != .testing
    some { s with mill0 := { s.mill0 with ready := s.mill0.ready || done } }

/-- SELF_TEST_END (R345): pass is the result of a readmitted tile's test; a reset's results came with MODULE_RESET. -/
def execSelfTestEnd (t : Nat) (pass : Bool) (s : State) : Out := .next ((evSelfTest t pass s).getD s)

/-! ### The tick grid (R354, R355) -/

/-- The reference time at which edge n reaches a field (R355). -/
def edgeTime (f n : Nat) : Nat := 1000 * n + (Config.edgeSkew f).val

/-- The start edge at a field (R355). -/
def evStart (f : Nat) (s : State) : Option State :=
  if !s.mill0.fwok || (s.field f).started || 64 ≤ f then none
  else
    let s := s.modField f fun F => { F with started := true, edge := edgeTime f 0 }
    some { s with ns := max s.ns (edgeTime f 0) }

/-- START_EDGE (R355). -/
def execStartEdge (f : Nat) (s : State) : Out := .next ((evStart f s).getD s)

/-- The oldest issue tick that a field's tiles and bridges report at edge n (07_witness.md R146 items 1 and 2). -/
def State.drainReport (s : State) (f n : Nat) : Nat :=
  let js := (List.range 16).flatMap fun l => (s.tile (tileOfField f l)).journal.map (·.tick)
  let bs := (s.bridgeOut.filter fun q => fieldOf (bridgeTile q.2.1) == f).map (·.2.2)
  minD n (js ++ bs)

/-- D of an edge (R146 item 3): a field that does not count contributes what its journals hold; none while a field's
report has not come (log 66, DEDUCED). -/
def State.drainedAt (s : State) (n : Nat) : Option Nat :=
  let one (f : Nat) : Option Nat :=
    match (s.field f).reports.find? fun q => q.1 == n with
    | some q => some q.2
    | none => if (s.field f).counting then none else some (s.drainReport f n)
  (List.range 64).foldl (fun d f => d.bind fun d => (one f).map (min d)) (some n)

/-- The tiles a shell has a link to, with the direction (R346): in its own field, and across the seam for a headland
gateway. -/
def linked (t dir : Nat) : Option Nat :=
  (neighbour t dir).bind fun n =>
    let along := if dir % 2 = 0 then yOf t % 4 else xOf t % 4
    if fieldOf n = fieldOf t || along = 1 || along = 2 then some n else none

def links (t : Nat) : List Nat := (List.range 4).filterMap (linked t)

/-- Whether a tile's shell sends heartbeats (R346, R354, R413). -/
def State.beating (s : State) (t : Nat) : Bool :=
  (s.tile t).life != .bad && (s.tile t).shellAlive && (s.field (fieldOf t)).counting

/-- What a neighbour's heartbeat, with its core-alive bit, rank and map generation, or its absence, makes of what a tile has heard
(R346, R347). -/
def State.hear (s : State) (n : Nat) (b : Beat) : Beat :=
  if s.beating n then ⟨0, if (s.tile n).coreAlive then 0 else b.dead + 1, s.rankOf n, (s.tile n).mapGen⟩
  else { b with missed := b.missed + 1, dead := 0 }

/-- Nothing heard yet. -/
def Beat.none : Beat := ⟨0, 0, 4095, 0⟩

/-- The heartbeats that one tile receives at an edge. -/
def State.listen (s : State) (t : Nat) : State :=
  if (s.tile t).life = .bad || !(s.tile t).shellAlive then s
  else
    s.modTile t fun T => { T with beats := (links t).foldl (fun b n => tput b n (s.hear n (tgetD b n Beat.none))) T.beats }

def State.report (s : State) (r : Report) : State := { s with mill0 := { s.mill0 with reports := r :: s.mill0.reports } }

/-- GRID_WIRE_DISAGREE (R354): wire w of a field has disagreed for 8 edges. -/
def execGridWireDisagree (f w : Nat) (s : State) : Out := .next (if f < 64 && w < 3 then s.report (.wire f w) else s)

/-- FIELD_GRID_LOSS (R354): the field has lost two wires. -/
def execFieldGridLoss (f : Nat) (s : State) : Out :=
  .next (if f < 64 then s.modField f fun F => { F with gridLost := true } else s)

/-- CORE_ALIVE_LOSS (R346, R413): the core stops, and its shell clears the core-alive bit. -/
def execCoreAliveLoss (t : Nat) (s : State) : Out :=
  .next (if t < 1024 then s.modTile t fun T => { T with coreAlive := false } else s)

/-- TILE_SUPPLY_LOSS (R413). -/
def execTileSupplyLoss (t : Nat) (s : State) : Out :=
  .next (if t < 1024 then s.modTile t fun T => { T with coreAlive := false, shellAlive := false } else s)

/-! ### Suspicion and the vote (R345, R347, R348) -/

/-- A live neighbour's states (R348). -/
def Life.live : Life → Bool
  | .ranked | .adopted | .spare | .suspect => true
  | _ => false

/-- The mill's time. -/
def State.millTick (s : State) : Nat := s.tickOf (bridgeTile 0)

/-- A suspicion begun, or the one that stands (R345, R348) (log 72, DEDUCED). -/
def State.suspectTile (s : State) (n : Nat) (watchdog : Bool) : State :=
  let S := (tget s.suspects n).getD
    ⟨s.millTick, (links n).filter fun d => (s.tile d).life.live, [], false, false, false⟩
  let s := { s with suspects := tput s.suspects n { S with watchdog := S.watchdog || watchdog } }
  s.modTile n fun T => match T.life with
    | .ranked | .adopted => { T with before := T.life, life := .suspect }
    | _ => T

/-- The report of a neighbour whose shell lives (R347): 8 heartbeats missed, or 8 with core-alive 0; once per suspicion. -/
def evReportSuspect (t n : Nat) (s : State) : Option State :=
  let b := tgetD (s.tile t).beats n Beat.none
  if !((links t).contains n && (s.tile t).life != .bad && (s.tile t).shellAlive && (s.tile n).life.live) ||
     (s.tile t).told.contains n || !(decide (8 ≤ b.missed) || decide (8 ≤ b.dead)) then none
  else
    let s := (s.suspectTile n false).modTile t fun T => { T with told := T.told ++ [n] }
    some (s.send (.tile t) (.bridge 0) none 0 (.suspect n (decide (8 ≤ b.dead))))

/-- SUSPECT_REPORT (R347): tile t reports its neighbour n. -/
def execSuspectReport (t n : Nat) (s : State) : Out := .next ((evReportSuspect t n s).getD s)

/-- A suspicion ended: a later one is reported again. -/
def State.endSuspicion (s : State) (n : Nat) : State :=
  let s := { s with suspects := tdel s.suspects n }
  (links n).foldl (fun s d => s.modTile d fun T => { T with told := T.told.filter (· != n) }) s

/-! ### The latency page (R356) -/

/-- A gateway crossing's least and greatest cycles as measured in a calibration: 32 to 48, open (log 2, DESIGN CHOICE). -/
def crossing (cal a b : Nat) : Nat × Nat :=
  let lo := 32 + Config.freeNat (cal + (a * 1024 + b) * 2) % 17
  (lo, lo + Config.freeNat (cal + (a * 1024 + b) * 2 + 1) % (49 - lo))

/-- The least and greatest latency of a path from a tile. -/
def pathLatency (cal : Nat) : Nat → List (Nat × Bool) → Nat × Nat
  | _, [] => (0, 0)
  | t, (d, seam) :: l =>
    let (lo, hi) := pathLatency cal d l
    let (a, b) := if seam then crossing cal t d else (2, 2)
    (a + lo, b + hi)

/-- The entry of field f on a tile's page; the skew is the difference of the times at which an edge reaches the two fields. -/
def State.latencyEntry (s : State) (cal t f : Nat) : Word :=
  let cost := (List.range 16).filterMap fun l =>
    let d := tileOfField f l
    if d = t || s.dead d then none else (route s.dead t d).map (pathLatency cal t)
  let lo := minD 0xFFFF (cost.map (·.1))
  let hi := (cost.map (·.2)).foldl max 0
  let seams := (max (f % 8) (fieldOf t % 8) - min (f % 8) (fieldOf t % 8)) + (max (f / 8) (fieldOf t / 8) - min (f / 8) (fieldOf t / 8))
  let skew := (256 + (Config.edgeSkew f).val - (Config.edgeSkew (fieldOf t)).val) % 256
  BitVec.ofNat 64 (skew * 2 ^ 56 + seams * 2 ^ 48 + hi % 2 ^ 16 * 2 ^ 16 + lo % 2 ^ 16)

/-- The doubleword of this field's i-th gateway, E1, E2, S1, S2, W1, W2, N1, N2. -/
def gatewayEntry (cal f i : Nat) : Word :=
  let dir : Dir := match i / 2 with
    | 0 => .east
    | 1 => .south
    | 2 => .west
    | _ => .north
  let (g, d) := gateway f dir (i % 2 + 1)
  let outer := match dir with
    | .east => f % 8 == 7
    | .south => f / 8 == 7
    | .west => f % 8 == 0
    | .north => f / 8 == 0
  let corner := f == 0 || f == 7 || f == 56 || f == 63
  if outer && !corner then 0
  else
    let (lo, hi) := crossing cal g (if outer then g else d)
    BitVec.ofNat 64 (hi * 2 ^ 16 + lo)

/-- A tile's page. -/
def State.latencyPage (s : State) (cal t : Nat) : List Word :=
  (List.range 64).map (s.latencyEntry cal t) ++ (List.range 8).map (gatewayEntry cal (fieldOf t)) ++
  [BitVec.ofNat 64 (s.gen % 2 ^ 32 * 2 ^ 32 + s.millTick % 2 ^ 32)]

/-- Memory with every byte of a range zero. -/
def Memory.clear (m : Memory) (a n : Nat) : Memory := m.filter fun q => !(decide (a ≤ q.1) && decide (q.1 < a + n))

/-- Where the mill writes a byte of a tile's rank: on an adopter that is still being filled, the copy that has yet to be
evacuated (R350). -/
def State.liveKey (s : State) (t off : Nat) : Nat :=
  match (s.tile t).evac with
  | some (f, next) => dramKey (if next ≤ off / 65536 then f else t) off
  | none => dramKey t off

/-- The mill writes the latency page on every rank of a partition. -/
def State.writeLatency (s : State) (p : Nat) : State :=
  match tget s.parts p with
  | none => s
  | some P =>
    let cal := s.freeCount
    let s := { s with freeCount := cal + 2 ^ 22 + 64 }
    P.ranks.foldl (fun s r =>
      match s.homeOf r with
      | none => s
      | some t =>
        let k := s.liveKey t P.lpoff
        State.wrMem { s with mem := s.mem.clear k 65536 } k (wordsBytes (s.latencyPage cal t))) s

/-- LATENCY_PAGE_REFRESH (R356): every 2^20 ticks, for partition p. -/
def execLatencyPageRefresh (p : Nat) (s : State) : Out :=
  .next (if s.millTick % 2 ^ 20 = 0 then s.writeLatency p else s)

/-- The pages of every partition, after an adoption. -/
def State.writeLatencies (s : State) : State := s.parts.foldl (fun s q => s.writeLatency q.1) s

/-! ### Retirement (R349, R350) -/

/-- The hops from a tile to another along the path of R19 and R411, a seam counted as 16 (R349 step 1). -/
def State.hopCost (s : State) (a b : Nat) : Option Nat := (route s.dead a b).map fun p => (pathCost p).1 + 16 * (pathCost p).2

/-- Of the tiles that meet a test the one with the fewest hops, the first in order among equals. -/
def State.nearest (s : State) (a : Nat) (ok : Nat → Bool) : Option Nat :=
  let step (best : Option (Nat × Nat)) (t : Nat) : Option (Nat × Nat) :=
    if !ok t then best
    else
      match s.hopCost a t, best with
      | some c, some (d, _) => if c < d then some (c, t) else best
      | some c, none => some (c, t)
      | none, _ => best
  (allTiles.foldl step none).map (·.2)

/-- The adopter of a rank (R349 step 1): a spare without a standing report, and not one that has lost this rank (R352). -/
def State.adopterFor (s : State) (f k : Nat) : Option Nat :=
  s.nearest f fun t => (s.tile t).life == .spare && (tget s.suspects t).isNone && !(s.tile t).was.contains k

/-- The stand-in (R351). -/
def State.standInFor (s : State) (f : Nat) : Option Nat :=
  let ok (t : Nat) : Bool := t != f && ((s.tile t).life == .ranked || (s.tile t).life == .adopted)
  match (links f).find? ok with
  | some t => some t
  | none => s.nearest f ok

/-- A furrow port loses the neighbour in a direction (11_stream.md R226). -/
def Furrow.loses (P : Furrow) (dir : Nat) : Furrow :=
  let up := P.up == some dir
  let dn := P.dn == some dir
  { P with upGone := P.upGone || up, dnGone := P.dnGone || dn, outq := if dn then [] else P.outq }

/-- The ties of a tile's contexts and engines to others end (R350): its gang, its furrow neighbours, the steal requests
it has not answered. -/
def State.cutTies (s : State) (f : Nat) : State :=
  let s := s.leaveGang f 4
  let s := (List.range 4).foldl (fun s dir => match neighbour f dir with
    | some d => s.modTile d fun T => { T with port := T.port.map fun P => P.loses ((dir + 2) % 4) }
    | none => s) s
  { s with net := s.net.map fun m => match m.body with
      | .stealReq thief => if m.dst == .tile f then { m with src := .tile f, dst := .tile thief, body := .stealAns none } else m
      | _ => m }

/-- A retired tile: its contexts, spill area, deque, inbox, ports and engines are gone (R350). -/
def Tile.fallowed (T : Tile) : Tile :=
  { Tile.reset with life := .fallow, before := .fallow, coreAlive := T.coreAlive, shellAlive := T.shellAlive,
                    cycles := T.cycles, gate := false, moved := T.moved, mapGen := T.mapGen, dtick := T.dtick,
                    acc := T.acc, badLines := T.badLines, beats := T.beats, was := T.was ++ T.rank.toList,
                    former := T.former }

/-- What an adopter takes from its partition: the rank, its satp and observation settings, and the counters that keep GTIDs apart
(log 68, DEDUCED). Its TLBs start empty, with the field TLB it uses (17_page.md R326). -/
def State.dress (s : State) (a k : Nat) (T : Tile) : State :=
  let P := (s.partOf k).bind fun p => tget s.parts p
  let s := s.modField (fieldOf a) fun F => { F with tlb := [], walks := F.walks.map fun w => { w with stale := true } }
  s.modTile a fun A => { A with life := .adopted, before := .adopted, rank := some k, created := T.created, tlb := [],
                                obs := (P.map (·.obs)).getD Observe.none,
                                priv := { A.priv with satp := (P.map (·.satp)).getD 0 } }

/-- Every range of a rank lost (R350). -/
def allLost : Tbl Nat := (List.range 131072).map fun i => (i, 2)

/-- The posted stores of a tile that host ports and peers have not completed, and their completions, belong to another tile. -/
def State.moveOuts (s : State) (f a : Nat) (src : Option Node) : State :=
  { s with hostWrites := s.hostWrites.map fun (q : Nat × Nat × Nat × List Byte) => if q.1 = f then (a, q.2) else q,
           net := s.net.map fun m => match m.body with
             | .peerPost t j p w op => if t = f then { m with src := src.getD m.src, body := .peerPost a j p w op } else m
             | _ => m,
           link := { s.link with conns := s.link.conns.map fun (i, c) =>
             let own (x : LSent) : LSent := match x.org with
               | .post t j r c => if t = f then { x with org := .post a j ⟨src.getD r.node, [], r.delay⟩ c } else x
               | _ => x
             (i, { c with unsent := c.unsent.map own, flight := c.flight.map own }) } }

/-- What a tile's shell holds for others, without the places of readers that are gone. -/
def Tile.heldOthers (T : Tile) : List Held := T.held.filter fun h => match h with
  | .mark _ _ => false
  | _ => true

/-- The counts and lists of a rank handed to its adopter while the shell lives (R349 steps 2 and 3). Unsettled stores
and their notices are the adopter's; the ranges that the tile itself had not received are lost (R357). -/
def State.handOver (s : State) (f a : Nat) (T : Tile) : State :=
  let box := match T.evac with
    | some (_, next) => { T.box with poison := (T.box.poison.filter fun q => q.1 < next) ++ allLost.drop next }
    | none => T.box
  let s := s.modTile a fun A =>
    { A with box := box, journal := T.journal.map fun e => { e with slot := none, eng := none },
             refusals := T.refusals, runList := T.runList, arrivals := T.arrivals, held := T.heldOthers,
             heldProbes := T.heldProbes, proxyBuf := T.proxyBuf, evac := some (f, 0) }
  s.moveOuts f a (if a < 1024 then some (.tile a) else none)

/-- Whether a notice about a journal entry of a rank is on its way. -/
def State.noticed (s : State) (rank idx : Nat) : Bool :=
  s.net.any fun m => m.rank == some rank && (match m.body with
    | .settled j _ _ => j == idx
    | .refusal j _ _ _ _ _ _ => j == idx
    | _ => false)

/-- One unsettled entry towards a rank whose counts are lost, refused at its source (R349 step 3): the refusal and the
mark that the adopter keeps. -/
def State.refuseLost (s : State) (a k u src : Nat) (e : JEntry) : State :=
  let s := s.markRefused a src e.seq e.idx
  match s.enterRefusal u k 2 e.seq e.idx e.addr e.gtid with
  | some s => s
  | none => s.send (.tile a) (.tile u) (some src) 0 (.refusal e.idx 2 k e.seq e.addr e.gtid 0)

/-- The tiles that hold a rank or did, and what the mill keeps of lost ranks. -/
def State.holders (s : State) : List (Nat × Nat) := s.tiles.filterMap fun q => q.2.rank.map fun r => (q.1, r)

/-- The sources' side of R349 step 3 for a dead shell: the adopter's settled count is each source's issue count, and
the source's unsettled entries are refused. -/
def State.loseStoresTo (s : State) (a k : Nat) : State :=
  let s := { s with net := s.net.filter fun m => match m.body with
    | .posted p => !(p.rank == k && p.src != 4095)
    | _ => true }
  s.holders.foldl (fun s (u, r) =>
    if u = a then s
    else
      let s := match tget (s.tile u).box.issue k with
        | some n => s.settle a r n
        | none => s
      ((s.tile u).journal.filter fun e => e.dst == .rank k && !s.noticed r e.idx).foldl
        (fun s e => s.refuseLost a k u r e) s) s

/-- The settled counts of a rank whose shell is dead and that has a stand-in: what each source has issued, up to the first store
that is still under way, which the stand-in refuses (R351). -/
def State.countTowards (s : State) (a k : Nat) : State :=
  let settled (r n : Nat) : Nat := s.net.foldl (fun n g => match g.body with
    | .posted p => if p.src = r && p.rank = k then min n (p.seq - 1) else n
    | _ => n) n
  s.holders.foldl (fun s (u, r) =>
    if u = a then s
    else match tget (s.tile u).box.issue k with
      | some n => s.settle a r (settled r n)
      | none => s) s

/-- One store of the lost rank that has not settled at its home: refused there (R349 step 3). -/
def State.refuseAtHome (s : State) (k : Nat) (p : Posted) : State :=
  let d := (s.homeOf p.rank).getD (keepTile p.rank)
  (s.markRefused d k p.seq p.jidx).settle d k p.seq

/-- A store of a rank to another one. -/
def Posted.leaves (k : Nat) (p : Posted) : Bool := p.src == k && p.rank != k

/-- The homes' side: the rank's own unsettled stores are refused where they were going, and the adopter goes on from
the settled counts. -/
def State.loseStoresFrom (s : State) (a k : Nat) : State :=
  let flying := s.net.filterMap fun m => match m.body with
    | .posted p => if p.leaves k then some p else none
    | _ => none
  let ours (h : Held) : Bool := match h with
    | .posted p _ _ => p.leaves k
    | _ => false
  let held := s.tiles.flatMap fun q => q.2.held.filterMap fun h => match h with
    | .posted p _ _ => if p.leaves k then some p else none
    | _ => none
  let s := (held ++ flying).foldl (fun s p => s.refuseAtHome k p) s
  let s := { s with net := s.net.filter fun m => match m.body with
    | .posted p => !p.leaves k
    | _ => true }
  let s : State := { s with tiles := s.tiles.map fun (q : Nat × Tile) => (q.1, { q.2 with held := q.2.held.filter fun h => !ours h }) }
  s.holders.foldl (fun s (t, h) =>
    match tget (s.tile t).box.settled k with
    | some n => if h = k then s else s.modTile a fun A => { A with box := { A.box with issue := tput A.box.issue h n } }
    | none => s) s

/-- A packet that a shell had taken waits behind the tile again, with the cycles it was held. -/
def State.resend (s : State) (f k : Nat) (ret : Ret) (since : Nat) (b : Body) : State :=
  s.send ret.node (.tile f) (some k) (min 65535 (s.clock - since)) b

/-- What a shell held for others waits behind the tile again (R413): stores, requests and probes; a JOIN or TREAP held
there meets lost data (log 70, DEDUCED). -/
def State.releaseHeld (s : State) (f k : Nat) (T : Tile) (keep : Posted → Bool) : State :=
  let s := T.held.foldl (fun s h => match h with
    | .posted p ret since => if keep p then s.resend f k ret since (.posted p) else s
    | .proxy r ret since => s.resend f k ret since (.proxyReq r)
    | .mark _ _ => s) s
  let s := T.proxyBuf.foldl (fun s b => s.resend f k b.ret b.since (.proxyReq b.req)) s
  T.heldProbes.foldl (fun s h =>
    if h.join.isSome || h.treap then s.reply (.tile f) (h.ret.since h.since s.clock) none (.proxyRep h.who h.own (.fault 53 h.ptr))
    else s.resend f k h.ret h.since (.probe h.who h.key true)) s

/-- The rank's state when the shell is dead (R349 step 3, R350): counts from the sources and homes, every range lost (log 69, DEDUCED).
With a stand-in the sources' stores are refused there. -/
def State.loseShell (s : State) (f a k : Nat) (T : Tile) (stand : Bool) : State :=
  let self := tgetD T.box.issue k 0
  let s := s.modTile a fun A => { A with box := ⟨tput [] k self, tput [] k self, [], allLost, T.box.admitRange⟩, evac := none }
  let s := if stand then (s.releaseHeld f k T fun p => p.src != k).countTowards a k
    else (s.releaseHeld f k T fun p => p.src == 4095).loseStoresTo a k
  (s.loseStoresFrom a k).moveOuts f 4094 none

/-- A run of lost ranges recorded (R349 step 6, 18_fault.md R335). -/
def State.recordLost (s : State) (p k f first n : Nat) : State :=
  if n = 0 then s
  else s.sendFault (.bridge 0) p
    (faultPayload 4 2 p k s.gen n f s.millTick (BitVec.ofNat 64 (k * 2 ^ 33 + first * 65536)) 0 0)

/-- Window entries with an unreported task record on the tile (R350): faulted with cause 9. -/
def State.faultTasks (s : State) (p k f : Nat) : State :=
  match tget s.parts p with
  | none => s
  | some P =>
    let hit (e : WEntry) : Bool := e.st == .issued && ((P.rangeOf e).any fun q => q.2 == k) && !e.reported.contains k
    let fail (e : WEntry) : WEntry :=
      { e with st := .faulted, cause := 9, rank := k, tval := BitVec.ofNat 64 (pcoord f), gtid := 0 }
    s.modWin p fun W => { W with entries := W.entries.map fun e => if hit e then fail e else e }

/-- The new map entry on its way to every tile (R350). -/
def State.tellMap (s : State) (k a : Nat) : State :=
  allTiles.foldl (fun s t =>
    if (s.tile t).life = .bad then s else s.send (.bridge 0) (.tile t) none 0 (.mapEntry k a s.gen)) s

/-- Steps 2 to 6 of R349 with an adopter. -/
def State.adopt (s : State) (f a k cause : Nat) : State :=
  let T := s.tile f
  let s := ((s.cutTies f).modTile f Tile.fallowed).dress a k T
  let s := if T.shellAlive then s.handOver f a T else s.loseShell f a k T false
  let s := State.endSuspicion { s with gen := s.gen + 1, rankTile := tput s.rankTile k a } f
  let s := s.tellMap k a
  match s.partOf k with
  | none => s.writeLatencies
  | some p =>
    let s := (s.faultTasks p k f).sendFault (.bridge 0) p (faultPayload 5 cause p k s.gen (pcoord a) f s.millTick 0 0 0)
    let first := if T.shellAlive then (match T.evac with
      | some (_, next) => next
      | none => 131072) else 0
    (s.recordLost p k f first (131072 - first)).writeLatencies

/-- Retirement without a spare (R351): the stand-in serves, and the record's cause is 5 (its aux is open, log 2, DESIGN CHOICE). What
a living shell held for others goes to the stand-in (log 71, DEDUCED); its counts, lists and arrival queue are kept for the adopter
that comes later (R349 steps 2 and 3; log 118, DESIGN CHOICE). -/
def State.standIn_ (s : State) (f k cause : Nat) : State :=
  let T := s.tile f
  let s := (s.cutTies f).modTile f Tile.fallowed
  let s := { s with rankTile := tdel s.rankTile k,
                    standIn := match s.standInFor f with
                      | some h => tput s.standIn k h
                      | none => s.standIn,
                    lost := tput s.lost k (f, cause) }
  let keep := keepTile k
  let s := s.setTile keep { Tile.reset with life := .fallow, before := .fallow, coreAlive := false, rank := some k, created := T.created }
  let s := if T.shellAlive then
      let bare := { T with held := [], heldProbes := [], proxyBuf := [], evac := none }
      ((s.releaseHeld f k T fun _ => true).handOver f keep bare).modTile keep fun K => { K with evac := none }
    else s.loseShell f keep k T true
  let s := State.endSuspicion s f
  match s.partOf k with
  | none => s
  | some p =>
    let (v, s) := s.free
    (s.faultTasks p k f).sendFault (.bridge 0) p (faultPayload 5 5 p k s.gen (v % 2 ^ 22) f s.millTick 0 0 0)

/-- Ranks whose stand-in was the tile find another (R351). -/
def State.moveStandIns (s : State) (f : Nat) : State :=
  { s with standIn := s.standIn.map fun q =>
      if q.2 = f then (q.1, ((tget s.lost q.1).bind fun l => s.standInFor l.1).getD f) else q }

/-- The mill retires a tile (R349). -/
def State.retireTile (s : State) (f cause : Nat) : State :=
  match (s.tile f).rank with
  | none => s
  | some k =>
    State.moveStandIns (match s.adopterFor f k with
      | some a => s.adopt f a k cause
      | none => s.standIn_ f k cause) f

/-- A report at the mill (R348): within 16 ticks of the first one, each neighbour that was live then counts once. The vote passes
with more than half of them. -/
def evVote (m : Nat) (s : State) : Option State :=
  (s.arrive m).map fun (r, s') =>
    match r.msg.body, r.msg.src with
    | .suspect n core, .tile t =>
      match tget s'.suspects n with
      | none => s'
      | some S =>
        if !S.live.contains t || S.by_.contains t || decide (S.first + 16 < s'.millTick) then s'
        else
          let by_ := S.by_ ++ [t]
          let passed := S.passed || decide (S.live.length < 2 * by_.length)
          let S' : Suspicion := { S with by_ := by_, core := S.core || core, passed := passed }
          { s' with suspects := tput s'.suspects n S' }
    | _, _ => s'

/-- A tile whose vote has passed: a spare becomes bad, any other tile is retired, for cause 2 when a report found the core dead
and cause 1 otherwise (R345; log 67, DEDUCED). -/
def State.votedOut (s : State) (n : Nat) : State :=
  match tget s.suspects n with
  | none => s
  | some S =>
    if (s.tile n).life = .spare then (s.modTile n fun T => { T with life := .bad, before := .bad }).endSuspicion n
    else s.retireTile n (if S.core then 2 else 1)

/-- The tiles voted out in the tick that ends, in order of field and local index (R357): within a field the table's order of keys
is the local one. -/
def State.endVotes (s : State) : State :=
  if s.suspects.all fun q => !q.2.passed then s
  else ((List.range 64).flatMap fun f => (s.suspects.filter fun q => q.2.passed && fieldOf q.1 == f).map (·.1)).foldl State.votedOut s

/-- The messages that no path takes, each reported once by the mill (01_wafer.md R411 item 4). -/
def State.reportStuck (s : State) : State :=
  let stuck := s.net.filter fun m => (s.pathOf m).isNone
  let new := stuck.filter fun m => !s.mill0.stuck.contains m.id
  let name (t : Nat) : Nat × Nat := (pcoord t, s.rankOf t)
  let s := new.foldl (fun s m => s.report (.noPath (name (s.nodeTile m.src)) (name (s.takesAt m)) s.gen)) s
  { s with mill0 := { s.mill0 with stuck := stuck.map (·.id) } }

/-- SUSPECT_VOTE (R348). -/
def execSuspectVote (m : Nat) (s : State) : Out := .next ((evVote m s).getD s)

/-- 16 ticks after the first report the vote has not passed (R345). -/
def evExpiry (n : Nat) (s : State) : Option State :=
  (tget s.suspects n).bind fun S =>
    if S.passed || decide (s.millTick < S.first + 16) then none
    else if S.watchdog && (s.tile n).life == .suspect then some (s.retireTile n 3)
    else
      let s := (s.endSuspicion n).modTile n fun T => if T.life = .suspect then { T with life := T.before } else T
      some (s.report (.cleared (pcoord n) (s.rankOf n) s.gen))

/-- The mill retires a tile for core failure (2) or by management command (4) (R345, R349). The commands of R385 have none that does:
the order comes from outside (log 119, PRESUMED). -/
def evOrder (n cause : Nat) (s : State) : Option State :=
  match (s.tile n).life with
  | .ranked | .adopted | .suspect => if cause = 2 || cause = 4 then some (s.retireTile n cause) else none
  | _ => none

/-- SUSPECT_WINDOW_EXPIRY (R345): the window of a suspicion ends, or, at tile + 1,024 * c, the mill retires the tile with cause c. -/
def execSuspectWindowExpiry (n : Nat) (s : State) : Out :=
  .next ((if n < 1024 then evExpiry n s else evOrder (n % 1024) (n / 1024) s).getD s)

/-! ### The tick edge (R354) -/

/-- Whether an edge is due at a field: every field that has not lost the grid counts, and none is behind it (R354: every field holds
the same TICK between edges). -/
def State.edgeDue (s : State) (f : Nat) : Bool :=
  (s.field f).counting && decide (f < 64) &&
  (List.range 64).all fun g =>
    (s.field g).stopped || (s.field g).gridLost || ((s.field g).started && decide ((s.field f).tick ≤ (s.field g).tick))

/-- What the mill does as a tick of its field ends. -/
def State.millEdge (s : State) (f : Nat) : State :=
  if f = fieldOf (bridgeTile 0) then s.reportStuck.endVotes else s

/-- A voted edge at a field (R354): TICK and FTIME, the drained-tick report and dtick of two edges ago (R146), the
heartbeats (R346), the sample records (21_observe.md R376), and the windows whose bridge lies at the field. -/
def evEdge (f : Nat) (s : State) : Option State :=
  if !s.edgeDue f then none
  else
    let s := s.millEdge f
    let n := (s.field f).tick + 1
    let rep := s.drainReport f n
    let s := s.modField f fun F => { F with tick := n, edge := edgeTime f n, reports := ((n, rep) :: F.reports).take 8 }
    let s : State := { s with ns := max s.ns (edgeTime f n) }
    let tiles := (List.range 16).map (tileOfField f)
    let s := match (if n < 2 then none else s.drainedAt (n - 2)) with
      | some d => tiles.foldl (fun s t => s.modTile t fun T => { T with dtick := max T.dtick d }) s
      | none => s
    let s := tiles.foldl State.takeSamples (tiles.foldl State.listen s)
    some ((s.parts.filter fun q => fieldOf (bridgeTile (winBridge q.1)) == f).foldl (fun s q => s.stallEdge q.1) s)

/-- TICK_EDGE (R354). -/
def execTickEdge (f : Nat) (s : State) : Out := .next ((evEdge f s).getD s)

/-! ### A spare for a lost rank (R351) -/

/-- A rank with a stand-in finds a spare (R351): adopted under R349, with what was kept of it and every range lost. -/
def evStandAdopt (k : Nat) (s : State) : Option State :=
  (tget s.lost k).bind fun (f, cause) =>
    (s.adopterFor f k).map fun a =>
      let K := s.tile (keepTile k)
      let s := (s.dress a k K).handOver (keepTile k) a { K with box := { K.box with poison := allLost } }
      let s := s.modTile a fun A => { A with evac := none }
      let s := { s with standIn := tdel s.standIn k, lost := tdel s.lost k, gen := s.gen + 1, rankTile := tput s.rankTile k a,
                        tiles := tdel s.tiles (keepTile k) }
      let s := s.tellMap k a
      match s.partOf k with
      | none => s.writeLatencies
      | some p =>
        ((s.sendFault (.bridge 0) p (faultPayload 5 cause p k s.gen (pcoord a) f s.millTick 0 0 0)).recordLost p k f 0 131072).writeLatencies

/-- STAND_IN_ADOPTION (R351). -/
def execStandInAdoption (k : Nat) (s : State) : Out := .next ((evStandAdopt k s).getD s)

/-- The cells of a range moved to another place. -/
def Memory.copyTo (m : Memory) (src dst n : Nat) : Memory :=
  (m.filter fun q => decide (src ≤ q.1) && decide (q.1 < src + n)).foldl (fun m q => m.set (q.1 - src + dst) q.2)
    (m.clear dst n)

/-- The next range of a retired tile's DRAM copied to its adopter, whose shell lives (R350, R413); one that cannot be read is lost and
recorded. -/
def evEvacuate (t : Nat) (ok : Bool) (s : State) : Option State :=
  if !(s.tile t).shellAlive then none else
  (s.tile t).evac.map fun (f, i) =>
    let good := ok && (s.tile f).shellAlive
    let s := s.modTile t fun T => { T with evac := if i + 1 = 131072 then none else some (f, i + 1) }
    if good then { s with mem := s.mem.copyTo (dramKey f (i * 65536)) (dramKey t (i * 65536)) 65536 }
    else
      let k := s.rankOf t
      let s := s.modTile t fun T => { T with box := { T.box with poison := tput T.box.poison i 2 } }
      match s.partOf k with
      | some p => s.recordLost p k f i 1
      | none => s

/-- EVACUATION_RANGE (R350): whether every line of the range could be read. -/
def execEvacuationRange (t : Nat) (ok : Bool) (s : State) : Out := .next ((evEvacuate t ok s).getD s)

/-! ### Machine checks, errors, power (R336, R323, R15, R395) -/

/-- A journal entry unsettled for 16,384 ticks (07_witness.md R153, R336): a kind 3 record, interrupt 21 while it stays,
and its home is suspect. -/
def evWatchdog (t idx : Nat) (s : State) : Option State :=
  ((s.tile t).journal.find? fun e => e.idx == idx).bind fun e =>
    if e.checked || s.tickOf t < e.tick + 16384 then none
    else
      let s := s.modTile t fun T =>
        { T with journal := T.journal.map fun x => if x.idx == idx then { x with checked := true } else x }
      let k := s.rankOf t
      let w := match e.dst with
        | .rank d => pairWit k d e.seq
        | _ => tickWit (e.tick + 1)
      let s := match s.partOf k with
        | some p => s.tileFault t p 3 1 idx e.addr w e.gtid
        | none => s
      some (match e.dst with
        | .rank d => match s.homeOf d with
          | some h => s.suspectTile h true
          | none => s
        | _ => s)

/-- DRAIN_WATCHDOG (R336). -/
def execDrainWatchdog (t idx : Nat) (s : State) : Out := .next ((evWatchdog t idx s).getD s)

/-- LOWER_OPERATING_POINT (R15): island i; no count or latency in cycles changes (log 8, DEDUCED). -/
def execLowerOperatingPoint (i : Nat) (s : State) : Out :=
  .next (if i < 512 then { s with points := tput s.points i (tgetD s.points i 0 + 1) } else s)

/-- JUNCTION_OVERTEMP (R395): every field stops. -/
def execJunctionOvertemp (s : State) : Out :=
  .next ((List.range 64).foldl (fun s f => s.modField f fun F => { F with stopped := true }) s)

/-- UNCORRECTABLE_ERROR (R323, 26_prog_gangmatmul.md R405): in the range of a DRAM offset, marked poisoned and recorded
(R335), or in the line of a scratchpad offset. -/
def execUncorrectableError (t : Nat) (spad : Bool) (off : Nat) (s : State) : Out :=
  .next <|
    if 1024 ≤ t then s
    else if spad then
      if 2 ^ 23 ≤ off then s
      else s.modTile t fun T => { T with badLines := off / 64 :: T.badLines.filter (· != off / 64) }
    else if 2 ^ 33 ≤ off then s
    else
      let i := off / 65536
      if s.poison t off != 0 then s
      else
        let s := s.modTile t fun T => { T with box := { T.box with poison := tput T.box.poison i 1 } }
        let k := s.rankOf t
        match s.partOf k with
        | some p => s.sendFault (.bridge 0) p
            (faultPayload 4 1 p k s.gen 1 t s.millTick (BitVec.ofNat 64 (k * 2 ^ 33 + i * 65536)) 0 0)
        | none => s

/-- CXL_SNOOP (22_host.md R381): the device holds no host line, so the snoop is a miss and nothing changes. -/
def execCxlSnoop (_port : Nat) (s : State) : Out := .next s

end Sys2Proof.Machine
end

