-- ==== Sys2Proof/Machine/Host.lean ====
section
/-! DEFINITION. The host's side: the register region and its mailboxes, the management commands, the container and its
load, and host memory accesses (22_host.md R381 to R394; 16_queue.md R306, R307; 14_kernel.md R266). -/
namespace Sys2Proof.Machine

/-! ### The line check (R389) -/

/-- One bit of the check's register. -/
def checkBit (r : Nat) (b : Bool) : Nat :=
  let top := (decide (2 ^ 15 ≤ r)) != b
  if top then Nat.xor (r * 2 % 2 ^ 16) 0x8BB7 else r * 2 % 2 ^ 16

/-- The CRC-16 of a line: polynomial 0x8BB7, initial value 0, most significant bit first. A line whose stored check
differs is what UNCORRECTABLE_ERROR stands for; every other line's check is this function of its bytes. -/
def lineCheck (l : List Byte) : Nat :=
  l.foldl (fun r b => (List.range 8).foldl (fun r i => checkBit r (b.getLsbD (7 - i))) r) 0

/-! ### Requests and responses (R383, R384) -/

/-- A request: code, tag, the service capability and the payload. -/
structure Req where
  code : Nat
  tag : Nat
  svc : List Word
  payload : List Byte
deriving DecidableEq, Repr

/-- n bytes of a list from an offset, as a little-endian number. -/
def leAt (b : List Byte) (off n : Nat) : Nat := leNat ((b.drop off).take n)

/-- Payload doubleword j. -/
def Req.dw (r : Req) (j : Nat) : Word := BitVec.ofNat 64 (leAt r.payload (8 * j) 8)

/-- The doublewords of payload that a command needs (R386, R387); none for a reserved code. -/
def payloadNeed (r : Req) : Option Nat :=
  match r.code with
  | 0x01 => some 17
  | 0x02 => some 1
  | 0x03 => some 3
  | 0x04 => some 5
  | 0x05 => some 5
  | 0x06 => some 5
  | 0x07 => some 1
  | 0x08 => some (match fld (r.dw 0) 9 8 with
    | 1 => 5
    | 2 => 6
    | _ => 2)
  | 0x09 => some 1
  | 0x0A => some (3 + (fld (r.dw 0) 30 24 + 1) / 2)
  | 0x0B => some 4
  | 0x0C => some 8
  | 0x0D => some 0
  | 0x0E => some 1
  | 0x0F => some 2
  | 0x10 => some 3
  | 0x11 => some 1
  | _ => none

/-- The commands marked S (R385). -/
def needsService (code : Nat) : Bool := [0x07, 0x09, 0x0A, 0x0C, 0x0E, 0x0F].contains code

def parseReq (b : List Byte) : Req :=
  ⟨leAt b 0 1, leAt b 2 2, (List.range 4).map fun i => BitVec.ofNat 64 (leAt b (16 + 8 * i) 8), b.drop 48⟩

/-- The envelope's checks (R384): reserved code or field, len, payload too short (log 74, DEDUCED). -/
def envelopeOk (b : List Byte) : Bool :=
  let r := parseReq b
  leAt b 1 1 == 0 && leAt b 8 8 == 0 && leAt b 4 4 == b.length && (needsService r.code || r.svc.all (· == 0)) &&
  (match payloadNeed r with
   | some n => decide (8 * n ≤ r.payload.length) || (r.code == 0x0A && decide (24 + 4 * fld (r.dw 0) 30 24 ≤ r.payload.length))
   | none => false)

def State.box (s : State) (x : Nat) : Mailbox := tgetD s.boxes x Mailbox.reset
def State.setBox (s : State) (x : Nat) (m : Mailbox) : State := { s with boxes := tput s.boxes x m }

/-- The request that a mailbox holds. -/
def Mailbox.request (m : Mailbox) : Req := parseReq (m.req.read 0 m.busy)

/-- A response written; MBDOOR cleared, and vector 0 of the port signalled (R383). -/
def State.respond (s : State) (x status : Nat) (payload : List Byte) : State :=
  let m := s.box x
  let r := m.request
  let payload := if status = 0 then payload else []
  let bytes := leBytes 1 status ++ leBytes 1 r.code ++ leBytes 2 r.tag ++ leBytes 4 (16 + payload.length) ++ leBytes 8 0 ++ payload
  let s := s.setBox x { m with busy := 0, resp := m.resp.write 0 bytes, left := none }
  if x < 2 then { s with msix := (x, 0) :: s.msix } else s

/-- A write of MBDOOR (R383): a request of n bytes submitted; a malformed one is answered at once (R384). -/
def State.submit (s : State) (x n : Nat) : State :=
  let m := s.box x
  if m.busy != 0 || !s.mill0.ready || n < 64 || 4096 < n then s
  else
    let s := s.setBox x { m with busy := n }
    if envelopeOk (m.req.read 0 n) then s else s.respond x 1 []

/-- One byte of a register write. -/
def State.putReg (s : State) (x off : Nat) (b : Byte) : State :=
  if 0x1000 ≤ off && off < 0x2000 then
    let m := s.box x
    if m.busy != 0 then s else s.setBox x { m with req := m.req.set (off - 0x1000) b }
  else if 0x80000 ≤ off && off < 0x80400 && x < 2 then
    { s with msixTables := tput s.msixTables x ((tgetD s.msixTables x []).set (off - 0x80000) b) }
  else s

/-- REGISTER_WRITE (R382, R383): bytes written at an offset of a port's register region; x 2 is the management
connector's buffers (R395). Offsets not listed ignore writes. -/
def execRegisterWrite (x off : Nat) (bytes : List Byte) (s : State) : Out :=
  .next <|
    if 2 < x then s
    else if off = 0x100 then s.submit x (leNat bytes)
    else ((List.range bytes.length).zip bytes).foldl (fun s q => s.putReg x (off + q.1) q.2) s

/-- A read of a register (R383). -/
def State.readReg (s : State) (x off : Nat) : Nat :=
  match off with
  | 0x0000 => 0x4C573300 * 2 ^ 32 + s.grade
  | 0x0008 =>
    let parts := (s.parts.map fun q => 2 ^ q.1).sum
    s.spares * 2 ^ 16 + parts * 2 ^ 8 + bn s.mill0.gnm 8 + bn s.mill0.sdef 4 + bn s.mill0.fwok 2 + bn s.mill0.ready 1
  | 0x0100 => if (s.box x).busy = 0 then 0 else 1
  | _ =>
    if 0x1000 ≤ off && off < 0x2000 then leNat ((s.box x).req.read (off - 0x1000) 8)
    else if 0x2000 ≤ off && off < 0x3000 then leNat ((s.box x).resp.read (off - 0x2000) 8)
    else if 0x80000 ≤ off && off < 0x80400 then leNat ((tgetD s.msixTables x []).read (off - 0x80000) 8)
    else 0

/-- A queue's status as the wake window reads it (16_queue.md R306). -/
def Queue.status (k : Queue) : List Word :=
  [BitVec.ofNat 64 (k.state * 2 ^ 62 + k.gen), BitVec.ofNat 64 k.pidx, k.doorbell,
   BitVec.ofNat 64 (k.rejects * 2 ^ 32 + k.cause * 2 ^ 28 + k.fseq % 2 ^ 28)]

/-- A read of doubleword j of a record's 64 bytes in the wake window (R382, 16_queue.md R304, R306): a free record's status, and
that of one whose rights hold CONSUME; what else a read gives is open (log 115, DESIGN CHOICE). -/
def State.readWake (s : State) (q j : Nat) : Word :=
  let k := s.queue q
  if k.state = 0 || bit (BitVec.ofNat 64 k.rights) 2 then k.status.getD j (Config.freeWord s.freeCount) else Config.freeWord s.freeCount

/-- Whether a request's service capability passes (R384). -/
def State.serviceOk (s : State) (r : Req) : Bool :=
  qcapFormat r.svc && s.qcapSeal r.svc && (s.queue 4095).matches_ r.svc && qcapHas r.svc 7

/-- What a command answers: its status, payload and effect. -/
abbrev Answer := Nat × List Byte × State

/-- A command of a code performed for a mailbox that holds one. -/
def mailEvent (code x : Nat) (k : Req → State → Answer) (s : State) : Option State :=
  let m := s.box x
  let r := m.request
  if 2 < x || m.busy = 0 || r.code != code then none
  else if needsService code && !s.serviceOk r then some (s.respond x 2 [])
  else
    let (st, p, s) := k r s
    some (s.respond x st p)

/-- Reading: log 62, UNVERIFIED. -/
def mailCommand (code x : Nat) (k : Req → State → Answer) (s : State) : Out := .next ((mailEvent code x k s).getD s)

/-! ### Queue records (16_queue.md R307) -/

/-- A record created: the next generation, error word and index 0. -/
def Queue.create (k : Queue) (base : Word) (owner rights length kind : Nat) (doorbell : Word) (notify : Nat) : Queue :=
  ⟨1, if k.gen = 2 ^ 24 - 1 then 1 else k.gen + 1, base, owner, rights, length, kind, 0, doorbell, notify, 0, 0, 0, 1⟩

/-- The lowest free record but 4,095. -/
def State.freeQueue (s : State) : Option Nat := (List.range 4095).find? fun q => (s.queue q).state == 0

/-- A queue revoked (R307, 20_link.md R368): records that have not fired are discarded. -/
def State.revoke (s : State) (q : Nat) : State :=
  let k := s.queue q
  let own (w : Work) : Bool := w.q == q && w.qgen == k.gen
  let pending (w : Work) : Bool := own w && decide ((w.serial + 2 ^ 33 - k.pidx - 1) % 2 ^ 32 < 2 ^ 31)
  let keep (w : Work) : Work := if own w then { w with fired := true } else w
  { s.setQueue q { k with state := 0 } with link := { s.link with works := (s.link.works.filter fun w => !pending w).map keep } }

/-! ### Tables (17_page.md R316 to R318) -/

/-- The tile and offset of the entry of a level for an address; none when a pointer entry above it lacks. -/
def State.leafSlot (s : State) (va target : Nat) : Nat → Nat → Nat → Option (Nat × Nat)
  | 0, _, _ => none
  | n + 1, level, table =>
    (s.homeOf (table / 2 ^ 33)).bind fun t =>
      let off := table % 2 ^ 33 + 8 * walkIndex level va false
      if level = target then some (t, off)
      else
        match readEntry s.grade level false (s.rdWord (s.liveKey t off)) with
        | .next table' => State.leafSlot s va target n (level - 1) table'
        | _ => none

/-- A leaf the mill needs: its address, its level and the entry. -/
structure MillLeaf where
  va : Nat
  level : Nat
  entry : Word
deriving DecidableEq, Repr

def State.slotOf (s : State) (satp : Word) (l : MillLeaf) : Option (Nat × Nat) :=
  s.leafSlot l.va l.level 4 3 (fld satp 27 0 * 2 ^ 17)

/-- Whether the tables have the pointer entries that leaves need. -/
def State.canMap (s : State) (satp : Word) (ls : List MillLeaf) : Bool := ls.all fun l => (s.slotOf satp l).isSome

def State.mapLeaves (s : State) (satp : Word) (ls : List MillLeaf) : State :=
  ls.foldl (fun s l => match s.slotOf satp l with
    | some (t, off) => s.wrWord (s.liveKey t off) l.entry
    | none => s) s

/-- A leaf of a level for a physical address; g is its G bit, rep its REP bit (R318). -/
def mkLeaf (va level pa xwr : Nat) (rep g : Bool) : MillLeaf :=
  ⟨va, level, BitVec.ofNat 64 (pa / 65536 * 65536 + bn rep (2 ^ 8) + bn g (2 ^ 7) + 2 ^ 5 + xwr * 2 + 1)⟩

/-- Leaves over a range with the largest pages that fit (14_kernel.md R266), on fuel. -/
def coverLeaves (g : Bool) : Nat → Nat → Nat → Nat → List MillLeaf
  | 0, _, _, _ => []
  | n + 1, va, pa, len =>
    if len = 0 then []
    else
      let fits (lg : Nat) : Bool := va % 2 ^ lg == 0 && pa % 2 ^ lg == 0 && decide (2 ^ lg ≤ len)
      let (level, lg) := if fits 30 then (2, 30) else if fits 21 then (1, 21) else (0, 16)
      mkLeaf va level pa 3 false g :: coverLeaves g n (va + 2 ^ lg) (pa + 2 ^ lg) (len - 2 ^ lg)

/-! ### FORM (R386, 01_wafer.md R25, 14_kernel.md R266) -/

/-- The buffers of each class. -/
def formCounts (r : Req) : List Nat := (List.range 16).map fun c => fld (r.dw (5 + c / 4)) (16 * (c % 4) + 15) (16 * (c % 4))

/-- The bytes of an arena. -/
def arenaSize (counts : List Nat) : Nat := ((List.range 16).map fun c => counts.getD c 0 * classSize c).sum

def overlaps (a n b m : Nat) : Bool := decide (a < b + m) && decide (b < a + n)

/-- R266 and the limits of R386's rows. -/
def formFields (r : Req) (ranks : Nat) : Bool :=
  let n (j : Nat) : Nat := (r.dw j).toNat
  let counts := formCounts r
  let size := arenaSize counts
  fld (r.dw 0) 63 4 == 0 && decide (n 0 < 8) && decide (n 1 != 0) && fld (r.dw 2) 63 60 == 9 &&
  n 3 % 2 ^ 31 == 0 && decide (n 3 + size ≤ 2 ^ 33) && decide (counts.sum ≤ 16384) &&
  n 4 % 2 ^ 33 == 0 && decide (n 4 + ranks * 2 ^ 33 ≤ 2 ^ 52) &&
  n 9 % 64 == 0 && decide (16 ≤ n 10) && decide (n 10 ≤ 4096) &&
  n 11 % 64 == 0 && (if n 11 = 0 then n 12 == 0 else decide (16 ≤ n 12) && decide (n 12 ≤ 65536)) &&
  n 13 % 64 == 0 && n 14 % 65536 == 0 && decide (n 14 + ranks * 65536 ≤ 2 ^ 52) &&
  n 15 % 65536 == 0 && n 16 % 65536 == 0 && decide (n 15 < 2 ^ 33) && decide (n 16 < 2 ^ 33) &&
  !overlaps (n 15) 65536 (n 3) size && !overlaps (n 16) 65536 (n 3) size && n 15 != n 16

/-- The fields of a mask. -/
def formMask (r : Req) : List Nat := (List.range 64).filter fun f => bit (r.dw 1) f

/-- The ranks a partition takes (R25): those of the tiles of its fields, rising, that no partition holds. -/
def State.formRanks (s : State) (fields : List Nat) : List Nat :=
  (s.rankTile.filter fun q => fields.contains (fieldOf q.2) && (s.partOf q.1).isNone).map (·.1)

/-- The leaves of the arena, the task blocks and the latency page (log 75, DEDUCED). -/
def formLeaves (r : Req) (ranks : List Nat) (g : Bool) : List MillLeaf :=
  let n (j : Nat) : Nat := (r.dw j).toNat
  let size := arenaSize (formCounts r)
  let each (q : Nat × Nat) : List MillLeaf :=
    coverLeaves g (size / 65536) (n 4 + q.1 * 2 ^ 33) (q.2 * 2 ^ 33 + n 3) size ++
    [mkLeaf (n 14 + q.1 * 65536) 0 (q.2 * 2 ^ 33 + n 15) 3 false g]
  ((List.range ranks.length).zip ranks).flatMap each ++ [mkLeaf 0xFFFFFFFFF0000 0 (n 16) 1 true true]

/-- A window at formation (14_kernel.md R263, R267, R268, R281). -/
def formWindow (r : Req) : Window :=
  let n (j : Nat) : Nat := (r.dw j).toNat
  let W : Window :=
    ⟨n 3, n 4, formCounts r, n 14, n 15, n 13, [], [], [], [], [], [], [], [], [], 0, false, 0, [], 0, 0, 0, 0, 0, [], none, tickCycles⟩
  let each (t : Tbl (List (Nat × Word))) (c : Nat) : Tbl (List (Nat × Word)) :=
    match (W.ofClass c).map fun b => (b, (0 : Word)) with
    | [] => t
    | l => tput t c l
  { W with free := (List.range 16).foldl each [] }

/-- A partition at formation. -/
def formPart (r : Req) (fields ranks : List Nat) : Part :=
  let n (j : Nat) : Nat := (r.dw j).toNat
  ⟨fields, ranks, satpOf (r.dw 2), n 9 / 2 ^ 33, n 9 % 2 ^ 33, n 10, 0, n 11 / 2 ^ 33, n 11 % 2 ^ 33, n 12, 0, n 16, none, Observe.none,
   formWindow r⟩

/-- Slot 0 of a tile idles until a LOAD (R392), with the partition's satp, whose reserved bits read zero (17_page.md R316). -/
def State.idleSlot0 (s : State) (t : Nat) (satp : Word) : State :=
  (s.vacate t 0).modTile t fun T => { T with priv := { T.priv with mode := .m, satp := satpOf satp }, obs := Observe.none }

def wordLe (n : Nat) : List Byte := leBytes 8 n

/-- FORM: reserved bits first, then what another partition holds (status 2), then the parameters (status 1). -/
def millForm (r : Req) (s : State) : Answer :=
  let p := (r.dw 0).toNat
  let fields := formMask r
  let ranks := s.formRanks fields
  let (v, s') := s.free
  let leaves := formLeaves r ranks (v % 2 == 1)
  if fld (r.dw 0) 63 4 != 0 then (1, [], s)
  else if (tget s.parts p).isSome || s.parts.any fun q => q.2.fields.any fields.contains then (2, [], s)
  else if !formFields r ranks.length || ranks.isEmpty || !s.canMap (r.dw 2) leaves then (1, [], s)
  else
    match s.freeQueue with
    | none => (4, [], s)
    | some q =>
      let s := { s' with parts := tput s'.parts p (formPart r fields ranks) }
      let s := s.setQueue q ((s.queue q).create 0 (2 * 16 + p) 0 64 2 0 0)
      let s := s.mapLeaves (r.dw 2) leaves
      let s := ranks.foldl (fun s k => match s.homeOf k with
        | some t => s.idleSlot0 t (r.dw 2)
        | none => s) s
      (0, wordLe (ranks.length + ranks.headD 0 * 2 ^ 16), s.writeLatency p)

/-- FORM (R386): of mailbox x. -/
def execForm (x : Nat) (s : State) : Out := mailCommand 0x01 x millForm s

/-! ### DISSOLVE (R386) -/

/-- Every context on a tile killed, in its slots, its arrival queue and its spill area; its engines ended; its observation settings
off. -/
def State.clearTile (s : State) (t : Nat) : State :=
  let s := (List.range 16).foldl (fun s c => s.kill t c) (s.leaveGang t 4)
  let s := s.wrWord (spillKey t 0) (setBits (s.rdWord (spillKey t 0)) 0 1 0)
  s.modTile t fun T =>
    { T with arrivals := [], saved := [], mxQueue := [], mxRun := none, mxHeld := none, copyQueue := [], copyRun := [], copyIrqs := [],
             decs := [], inbox := [], port := none, pins := [], mirrors := [], engFaults := [], obs := Observe.none, samples := [] }

/-- DISSOLVE. -/
def millDissolve (r : Req) (s : State) : Answer :=
  let p := fld (r.dw 0) 3 0
  match tget s.parts p with
  | none => (2, [], s)
  | some P =>
    let s := P.ranks.foldl (fun s k => match s.homeOf k with
      | some t => s.clearTile t
      | none => s) s
    let s := (List.range 4096).foldl (fun s q =>
      if (s.queue q).state != 0 && (s.queue q).owner % 16 == p then s.revoke q else s) s
    let (first, n) := Config.landing p
    let disarm (g : Nat × Region) : Nat × Region :=
      if first ≤ g.1 && decide (g.1 < first + n) then (g.1, { g.2 with armed := false }) else g
    (0, [], { s with parts := tdel s.parts p, link := { s.link with regions := s.link.regions.map disarm } })

/-- DISSOLVE (R386). -/
def execDissolve (x : Nat) (s : State) : Out := mailCommand 0x02 x millDissolve s

/-! ### Queues and service (R385, R386) -/

/-- R386's limits on QCREATE's fields. -/
def qcreateOk (r : Req) (ranks : Nat) : Bool :=
  let kind := fld (r.dw 0) 15 8
  let rights := fld (r.dw 0) 31 16
  let bell := r.dw 3
  [1, 3, 4].contains kind && rights / 2 ^ 4 == 0 &&
  fld (r.dw 1) 63 52 == 0 && (r.dw 1).toNat % 64 == 0 && fld (r.dw 2) 63 32 == 0 && r.dw 2 != 0 &&
  (match kind with
   | 1 => ptrSpace bell == 0 && bell.toNat % 16 == 0
   | 3 => ptrSpace bell == 2 && bell.toNat % 16 == 0
   | _ => bell == 0) &&
  decide (fld (r.dw 4) 11 0 < ranks)

/-- QCREATE. -/
def millQcreate (r : Req) (s : State) : Answer :=
  let p := fld (r.dw 0) 3 0
  match tget s.parts p with
  | none => (2, [], s)
  | some P =>
    if !qcreateOk r P.ranks.length then (1, [], s)
    else
      match s.freeQueue with
      | none => (4, [], s)
      | some q =>
        let k := (s.queue q).create (r.dw 1) (fld (r.dw 0) 5 4 * 16 + p) (fld (r.dw 0) 31 16) (r.dw 2).toNat
          (fld (r.dw 0) 15 8) (r.dw 3) (P.ranks.getD (fld (r.dw 4) 11 0) 0)
        (0, wordLe q ++ wordsBytes (s.mint k), s.setQueue q k)

/-- QCREATE (R386). -/
def execQcreate (x : Nat) (s : State) : Out := mailCommand 0x04 x millQcreate s

/-- Checks 1, 2 and 4 of R308 and the RESET right; a faulted record is in use too (R307) (log 76, DEDUCED). -/
def State.mayReset (s : State) (q : Nat) (c : List Word) : Bool :=
  qcapFormat c && s.qcapSeal c && qcapHas c 3 && (s.queue q).state != 0 && { s.queue q with state := 1 }.matches_ c

def reqCap (r : Req) : List Word := (List.range 4).map fun i => r.dw (1 + i)

/-- QRESET: a faulted record is live again (R307). -/
def millQreset (r : Req) (s : State) : Answer :=
  let q := fld (r.dw 0) 11 0
  if !s.mayReset q (reqCap r) then (2, [], s)
  else
    let k := s.queue q
    (0, [], if k.state = 2 then s.setQueue q { k with state := 1, cause := 0, fseq := 0 } else s)

/-- QRESET (R386). -/
def execQreset (x : Nat) (s : State) : Out := mailCommand 0x05 x millQreset s

/-- QREVOKE. -/
def millQrevoke (r : Req) (s : State) : Answer :=
  let q := fld (r.dw 0) 11 0
  if s.mayReset q (reqCap r) then (0, [], s.revoke q) else (2, [], s)

/-- QREVOKE (R386). -/
def execQrevoke (x : Nat) (s : State) : Out := mailCommand 0x06 x millQrevoke s

/-- SVCCAP: record 4,095's next generation, minted; over the management connector only (R385). -/
def millSvccap (x : Nat) (_r : Req) (s : State) : Answer :=
  if x != 2 then (2, [], s)
  else
    let k := (s.queue 4095).create 0 0x20 0x80 1 1 0 0
    (0, wordsBytes (s.mint k), s.setQueue 4095 k)

/-- SVCCAP (R385). -/
def execSvccap (x : Nat) (s : State) : Out := mailCommand 0x0D x (millSvccap x) s

/-- The tile of a coordinate laid out as pcoord bits 21:0; none when its fields disagree (05_scalar.md R119). -/
def tileOfCoord (c : Nat) : Option Nat :=
  let t := tileAt (c % 32) (c / 32 % 32)
  if pcoord t = c then some t else none

/-- READMIT (19_tile.md R352, R357): a fallow tile whose evacuation has ended is tested again. -/
def millReadmit (r : Req) (s : State) : Answer :=
  match tileOfCoord (fld (r.dw 0) 21 0) with
  | none => (1, [], s)
  | some t =>
    let busy := allTiles.any fun a => match (s.tile a).evac with
      | some (f, _) => f == t
      | none => false
    if (s.tile t).life != .fallow || busy then (2, [], s)
    else (0, [], s.modTile t fun T => { T with life := .testing, before := .fallow, gate := true, coreAlive := T.shellAlive })

/-- READMIT (R352). -/
def execReadmit (x : Nat) (s : State) : Out := mailCommand 0x07 x millReadmit s

/-- A tile's state as TILEQUERY codes it. -/
def Life.code : Life → Nat
  | .testing => 0
  | .bad => 1
  | .spare => 2
  | .ranked => 3
  | .adopted => 4
  | .suspect => 5
  | .fallow => 6

/-- TILEQUERY. -/
def millTilequery (r : Req) (s : State) : Answer :=
  match tileOfCoord (fld (r.dw 0) 21 0) with
  | none => (1, [], s)
  | some t => (0, wordLe (s.gen % 2 ^ 32 * 2 ^ 32 + s.rankOf t * 2 ^ 16 + (s.tile t).life.code), s)

/-- TILEQUERY (R386). -/
def execTilequery (x : Nat) (s : State) : Out := mailCommand 0x11 x millTilequery s

/-! ### Poison and admission (R386) -/

/-- UNPOISON: zeros, and the map's entries 00. -/
def millUnpoison (r : Req) (s : State) : Answer :=
  let k := fld (r.dw 0) 11 0
  let n := fld (r.dw 0) 47 32
  let first := fld (r.dw 1) 16 0
  if s.grade ≤ k || n = 0 || 131072 < first + n then (1, [], s)
  else
    match s.homeOf k with
    | none => (2, [], s)
    | some t =>
      let s := { s with mem := s.mem.clear (dramKey t (first * 65536)) (n * 65536) }
      (0, [], s.modTile t fun T =>
        { T with box := { T.box with poison := T.box.poison.filter fun q => !(decide (first ≤ q.1) && decide (q.1 < first + n)) } })

/-- Whether a mailbox's UNPOISON names ranges that an adopter has not received: it waits for them (R350). -/
def State.unpoisonWaits (s : State) (x : Nat) : Bool :=
  let r := (s.box x).request
  match s.homeOf (fld (r.dw 0) 11 0) with
  | some t => s.awaiting t ((fld (r.dw 1) 16 0 + fld (r.dw 0) 47 32 - 1) * 65536)
  | none => false

/-- UNPOISON (R386). -/
def execUnpoison (x : Nat) (s : State) : Out :=
  .next (if s.unpoisonWaits x then s else (mailEvent 0x0F x millUnpoison s).getD s)

/-- ADMIT (log 10, DEDUCED). -/
def millAdmit (r : Req) (s : State) : Answer :=
  let p := fld (r.dw 0) 3 0
  let i := fld (r.dw 0) 11 8
  let k := fld (r.dw 0) 23 12
  let off := fld (r.dw 1) 32 0
  let len := fld (r.dw 2) 32 0
  if s.grade ≤ k || off % 65536 != 0 || len % 65536 != 0 || 2 ^ 33 < off + len then (1, [], s)
  else if (tget s.parts p).isNone then (2, [], s)
  else
    match s.homeOf k with
    | none => (2, [], s)
    | some t => (0, [], s.modTile t fun T => { T with box := { T.box with
        admitRange := if bit (r.dw 0) 31 then tput T.box.admitRange i (p, off, off + len) else tdel T.box.admitRange i } })

/-- ADMIT (R386, 17_page.md R320). -/
def execAdmit (x : Nat) (s : State) : Out := mailCommand 0x10 x millAdmit s

/-! ### Observation (R387, 21_observe.md R376 to R380) -/

/-- A change of settings arrives at one of the tiles that lack it, whichever comes first; a rank without a home has none (R380). -/
def State.observeAt (s : State) (f : Observe → Observe) (l : List Nat) : List Nat × State :=
  let (v, s) := s.free
  let k := l.getD (v % l.length) 0
  (l.erase k, match s.homeOf k with
    | some t => s.modTile t fun T => { T with obs := f T.obs }
    | none => s)

/-- One step of an OBSERVE request (R380; log 77, DEDUCED): it is accepted and becomes the partition's setting; then it arrives at the
tiles, one with each step; the last arrival completes it. -/
def evObserve (setting : Nat) (ok : Req → Bool) (f : Req → Observe → Observe) (x : Nat) (s : State) : Option State :=
  let m := s.box x
  let r := m.request
  let p := fld (r.dw 0) 3 0
  if 2 < x || m.busy = 0 || r.code != 0x08 || fld (r.dw 0) 9 8 != setting then none
  else if !ok r then some (s.respond x 1 [])
  else
    match tget s.parts p, m.left with
    | none, _ => some (s.respond x 2 [])
    | some P, none =>
      let s := s.modPart p fun P => { P with obs := f r P.obs }
      some (if P.ranks.isEmpty then s.respond x 0 [] else s.setBox x { m with left := some P.ranks })
    | some _, some l =>
      let (l, s) := s.observeAt (f r) l
      some (if l.isEmpty then s.respond x 0 [] else s.setBox x { m with left := some l })

/-- Reading: log 77, DEDUCED. -/
def observe (setting : Nat) (ok : Req → Bool) (f : Req → Observe → Observe) (x : Nat) (s : State) : Out :=
  .next ((evObserve setting ok f x s).getD s)

/-- OBSERVE_SAMPLE_PERIOD (R376); a reserved setting is answered here too, with status 1. -/
def execObserveSamplePeriod (x : Nat) (s : State) : Out :=
  if fld ((s.box x).request.dw 0) 9 8 = 3 then mailCommand 0x08 x (fun _ s => (1, [], s)) s
  else observe 0 (fun r => decide (fld (r.dw 1) 20 0 ≤ 2 ^ 20)) (fun r o => { o with period := fld (r.dw 1) 20 0 }) x s

/-- OBSERVE_BREAKPOINT (R378). -/
def execObserveBreakpoint (x : Nat) (s : State) : Out :=
  observe 1 (fun r => decide (fld (r.dw 0) 18 16 < 8)) (fun r o =>
    let i := fld (r.dw 0) 18 16
    { o with breaks := if bit (r.dw 4) 0 then tput o.breaks i (r.dw 1, r.dw 2, r.dw 3) else tdel o.breaks i }) x s

/-- OBSERVE_WATCHPOINT (R379). -/
def execObserveWatchpoint (x : Nat) (s : State) : Out :=
  observe 2 (fun r =>
    let a := (r.dw 1).toNat
    let n := (r.dw 2).toNat
    a % 8 == 0 && n % 8 == 0 && decide (8 ≤ n) && decide (n ≤ 2 ^ 20) && fld (r.dw 3) 1 0 != 3) (fun r o =>
    let w := ((r.dw 1).toNat, (r.dw 2).toNat, fld (r.dw 3) 1 0, r.dw 4, r.dw 5)
    { o with watches := tput o.watches (fld (r.dw 0) 18 16) w }) x s

/-! ### Link settings (R387, 20_link.md R361) -/

/-- ENDPOINT (R361). -/
def execEndpoint (x : Nat) (s : State) : Out :=
  mailCommand 0x09 x (fun r s =>
    let e := fld (r.dw 0) 17 0
    if e = 0x3FFFF then (1, [], s) else (0, [], { s with link := { s.link with endpoint := some e } })) s

/-- A routing-table entry of a ROUTE request. -/
def routeEntry (r : Req) : Peer :=
  let w (i : Nat) : Nat := leAt r.payload (24 + 4 * i) 4
  ⟨(r.payload.drop 8).take 16, (List.range (fld (r.dw 0) 30 24)).map fun i => (w i % 32, w i / 2 ^ 16)⟩

/-- ROUTE (R361): no path empties the entry. -/
def execRoute (x : Nat) (s : State) : Out :=
  mailCommand 0x0A x (fun r s =>
    let e := fld (r.dw 0) 17 0
    let n := fld (r.dw 0) 30 24
    let bad := (List.range n).any fun i => leAt r.payload (24 + 4 * i) 4 / 32 % 2 ^ 11 != 0
    if 64 < n || e = 0x3FFFF || bad then (1, [], s)
    else
      let t := if n = 0 then tdel s.link.routes e else tput s.link.routes e (routeEntry r)
      (0, [], { s with link := { s.link with routes := t } })) s

/-! ### Keys and attestation (R387, R394) -/

/-- KEYINSTALL (R387). -/
def execKeyinstall (x : Nat) (s : State) : Out :=
  mailCommand 0x0C x (fun r s =>
    let key := (r.payload.drop 8).take 56
    if !lmsTypes key then (1, [], s)
    else (0, [], { s with mill0 := { s.mill0 with keys := tput s.mill0.keys (fld (r.dw 0) 2 0) key } })) s

/-- KEYREMOVE (R387). -/
def execKeyremove (x : Nat) (s : State) : Out :=
  mailCommand 0x0E x (fun r s => (0, [], { s with mill0 := { s.mill0 with keys := tdel s.mill0.keys (fld (r.dw 0) 2 0) } })) s

/-- n of the free bytes of a kind (log 2, DESIGN CHOICE, log 6, DESIGN CHOICE). -/
def freeBytesOf (kind i n : Nat) : List Byte := (Config.freeBytes kind i ++ List.replicate n 0).take n

/-- The attestation report before its signature (R387): the firmware's digest is open (log 80, DEDUCED). -/
def State.attestReport (s : State) (r : Req) : List Byte :=
  let loaded := s.parts.filterMap fun q => q.2.image.map fun h => leBytes 2 q.1 ++ h
  freeBytesOf 1 0 32 ++ leBytes 2 s.grade ++ leBytes 2 s.spares ++ leBytes 4 s.gen ++ r.payload.take 32 ++
  leBytes 2 loaded.length ++ loaded.flatten

/-- ATTEST (R394): the identity key makes 2^20 signatures; a signature's bytes are open. -/
def execAttest (x : Nat) (s : State) : Out :=
  mailCommand 0x0B x (fun r s =>
    let n := s.mill0.signatures
    if 2 ^ 20 ≤ n then (4, [], s)
    else (0, s.attestReport r ++ freeBytesOf 2 n 1452, { s with mill0 := { s.mill0 with signatures := n + 1 } })) s

/-! ### The container (R390, R391) -/

/-- A section entry. -/
structure Section where
  kind : Nat
  res1 : Nat
  role : Nat
  res2 : Nat
  off : Nat
  len : Nat
  addr : Nat
deriving DecidableEq, Repr

/-- A container's sections and its required rank count. -/
def sections (b : List Byte) : List Section :=
  (List.range (leAt b 6 2)).map fun i =>
    let o := 64 + 32 * i
    ⟨leAt b o 1, leAt b (o + 1) 1, leAt b (o + 2) 2, leAt b (o + 4) 4, leAt b (o + 8) 8, leAt b (o + 16) 8, leAt b (o + 24) 8⟩

def Section.bytes (b : List Byte) (x : Section) : List Byte := (b.drop x.off).take x.len

/-- A placement: role, first and last rank, reserved, PC; and a boot-tree entry: role, parent, child, reserved. -/
def placements (b : List Byte) : List (Nat × Nat × Nat × Nat × Nat) :=
  ((sections b).filter (·.kind == 4)).flatMap fun x =>
    let c := x.bytes b
    (List.range (x.len / 16)).map fun i =>
      let o := 16 * i
      (leAt c o 2, leAt c (o + 2) 2, leAt c (o + 4) 2, leAt c (o + 6) 2, leAt c (o + 8) 8)
def bootTree (b : List Byte) : List (Nat × Nat × Nat × Nat) :=
  ((sections b).filter (·.kind == 5)).flatMap fun x =>
    let c := x.bytes b
    (List.range (x.len / 8)).map fun i =>
      let o := 8 * i
      (leAt c o 2, leAt c (o + 2) 2, leAt c (o + 4) 2, leAt c (o + 6) 2)

/-- The header and the section table (R391: magic, version, reserved fields, sections in the file). -/
def containerForm (b : List Byte) (len : Nat) : Bool :=
  let xs := sections b
  decide (64 ≤ b.length) && leAt b 0 4 == 0x31585051 && leAt b 4 2 == 1 && decide (1 ≤ leAt b 6 2) && decide (leAt b 6 2 ≤ 1024) &&
  leAt b 8 8 == len && ((b.drop 18).take 46).all (· == 0) && decide (64 + 32 * leAt b 6 2 ≤ len) &&
  (xs.all fun x => decide (1 ≤ x.kind) && decide (x.kind ≤ 8) && x.res1 == 0 && x.res2 == 0 && decide (x.off + x.len ≤ len)) &&
  ((placements b).all fun q => q.2.2.2.1 == 0) && ((bootTree b).all fun q => q.2.2.2 == 0)

/-- Each boot-tree child's parent is rank 0 of the partition or an earlier child. -/
def bootOrder : List Nat → List (Nat × Nat × Nat × Nat) → Bool
  | _, [] => true
  | seen, (_, p, c, _) :: l => (p == 0 || seen.contains p) && bootOrder (c :: seen) l

/-- Placements inside the partition that share no rank. -/
def placesOk (ranks : Nat) : List (Nat × Nat × Nat × Nat × Nat) → Bool
  | [] => true
  | (_, a, z, _, _) :: l =>
    decide (a ≤ z) && decide (z < ranks) && (l.all fun (_, a', z', _, _) => decide (z < a') || decide (z' < a)) && placesOk ranks l

def texts (b : List Byte) : List Section := (sections b).filter (·.kind == 1)

/-- The text sections' ranges (R391). -/
def textsOk (P : Part) (b : List Byte) : Bool :=
  let W := P.win
  let ts := texts b
  (ts.all fun x =>
    decide (x.addr + x.len ≤ 2 ^ 33) && !overlaps x.addr x.len W.abase (arenaSize W.counts) &&
    !overlaps x.addr x.len W.tboff 65536 && !overlaps x.addr x.len P.lpoff 65536) &&
  ((List.range ts.length).all fun i => (List.range i).all fun j =>
    match ts[i]?, ts[j]? with
    | some x, some y => !overlaps x.addr x.len y.addr y.len
    | _, _ => true)

/-- The leaves of the text pages (R393 step 2). -/
def textLeaves (b : List Byte) : List MillLeaf :=
  (texts b).flatMap fun x =>
    if x.len = 0 then []
    else
      let first := x.addr / 65536
      (List.range ((x.addr + x.len - 1) / 65536 + 1 - first)).map fun i => mkLeaf ((first + i) * 65536) 0 ((first + i) * 65536) 5 true true

/-- The signature over every byte before it, under any key installed. -/
def State.signed (s : State) (b : List Byte) : Bool :=
  match (sections b).getLast? with
  | some x => x.kind == 8 && s.mill0.keys.any fun k => lmsVerify k.2 (b.take x.off) (x.bytes b)
  | none => false

/-- Why a load is refused (R391): status 1 or 3, or 0. -/
def State.loadStatus (s : State) (P : Part) (b : List Byte) (len : Nat) : Nat :=
  if !containerForm b len || !placesOk P.ranks.length (placements b) then 1
  else if leAt b 16 2 != 0 && leAt b 16 2 != P.ranks.length then 1
  else if !bootOrder [] (bootTree b) || !textsOk P b || !s.canMap P.satp (textLeaves b) then 1
  else if !s.signed b then 3
  else 0

/-! ### The load (R393) -/

/-- Some adopter is still being filled (19_tile.md R350). -/
def State.anyEvac (s : State) : Bool := s.tiles.any fun q => q.2.evac.isSome

/-- The bytes at a global physical address as the mill reads them. -/
def State.gpaBytes (s : State) (a n : Nat) : List Byte :=
  (List.range n).map fun i => match s.homeOf ((a + i) / 2 ^ 33) with
    | some t => s.mem.get (s.liveKey t ((a + i) % 2 ^ 33))
    | none => 0

/-- A data section written to its global pages, byte by byte where the tables map them (R393 step 2). -/
def State.writeData (s : State) (P : Part) (va : Nat) (b : List Byte) : State :=
  ((List.range b.length).zip b).foldl (fun s (i, v) =>
    let a := va + i
    match s.walkNow P.satp false (a / 65536 * 65536) 4 3 (fld P.satp 27 0 * 2 ^ 17) with
    | .error _ => s
    | .ok e =>
      let pa := fld e.leaf 51 16 * 65536 / 2 ^ e.size * 2 ^ e.size + (a - e.va)
      let tiles := if bit e.leaf 8 then P.ranks.filterMap s.homeOf else (s.homeOf (pa / 2 ^ 33)).toList
      tiles.foldl (fun s t => s.wrMem (s.liveKey t (pa % 2 ^ 33)) [v]) s) s

/-- The placement of a partition-relative rank: its role and entry PC. -/
def placedAt (b : List Byte) (q : Nat) : Option (Nat × Nat) :=
  ((placements b).find? fun (_, a, z, _, _) => decide (a ≤ q) && decide (q ≤ z)).map fun (role, _, _, _, pc) => (role, pc)

/-- The role and entry PC of a partition-relative rank. -/
def roleOf (b : List Byte) (q : Nat) : Nat × Nat := (placedAt b q).getD (Config.residentStart b)

/-- The part of a scratch section that lies in program scratchpad: its first offset and its bytes (01_wafer.md R30; log 78, DEDUCED). -/
def Section.inScratch (b : List Byte) (x : Section) : Nat × List Byte :=
  (max x.addr 0x10000, ((x.bytes b).take (2 ^ 23 - x.addr)).drop (0x10000 - x.addr))

/-- One rank's images and start (R393 steps 2, 3 and 5) (log 78, DEDUCED): scratch sections only into a placed rank. -/
def State.loadRank (s : State) (b : List Byte) (q t : Nat) : State :=
  let (role, pc) := roleOf b q
  let s := (texts b).foldl (fun s x => s.wrMem (s.liveKey t x.addr) (x.bytes b)) s
  let mine (x : Section) : Bool := (placedAt b q).isSome && x.kind == 3 && (x.role == role || x.role == 0xFFFF)
  let s := ((sections b).filter mine).foldl (fun s x =>
    let (o, l) := x.inScratch b
    if l.isEmpty then s else s.spadWrite t o l) s
  let th := Thread.fresh 0 (BitVec.ofNat 64 (pc / 4 * 4)) 4
  let th := (th.setX 10 (BitVec.ofNat 64 q)).setX 11 (BitVec.ofNat 64 role)
  (s.seat t 0 th .ready).modTile t fun T => { T with priv := { T.priv with mode := .m } }

/-- LOAD: host holds the container when it lies in space 2. -/
def millLoad (host : List Byte) (r : Req) (s : State) : Answer :=
  let p := fld (r.dw 0) 3 0
  let ptr := r.dw 1
  let len := (r.dw 2).toNat
  match tget s.parts p with
  | none => (2, [], s)
  | some P =>
    if fld ptr 59 52 != 0 || !(ptrSpace ptr == 0 || ptrSpace ptr == 2) || 2 ^ 45 < len then (1, [], s)
    else
      let b := if ptrSpace ptr = 0 then s.gpaBytes (ptrAddr ptr) len else host.take len
      match s.loadStatus P b len with
      | 0 =>
        let s := s.mapLeaves P.satp (textLeaves b)
        let s := ((sections b).filter (·.kind == 2)).foldl (fun s x => s.writeData P x.addr (x.bytes b)) s
        let s := ((List.range P.ranks.length).zip P.ranks).foldl (fun s (q, k) => match s.homeOf k with
          | some t => s.loadRank b q t
          | none => s) s
        (0, [], s.modPart p fun P => { P with image := some (sha256 b) })
      | e => (e, [], s)

/-- Whether the tables of a LOAD's data pages lie where a range has yet to be copied (19_tile.md R350): the mill waits for it. -/
def State.loadWaits (s : State) (x : Nat) (host : List Byte) : Bool :=
  let r := (s.box x).request
  let ptr := r.dw 1
  match tget s.parts (fld (r.dw 0) 3 0) with
  | none => false
  | some P =>
    let len := (r.dw 2).toNat
    let b := if ptrSpace ptr = 0 then s.gpaBytes (ptrAddr ptr) len else host.take len
    ((sections b).filter (·.kind == 2)).any fun y =>
      (List.range ((y.addr + y.len - 1) / 65536 + 1 - y.addr / 65536)).any fun i =>
        s.walkWaits P.satp false ((y.addr / 65536 + i) * 65536) 4 3 (fld P.satp 27 0 * 2 ^ 17)

/-- A LOAD of mailbox x. -/
def evLoad (x : Nat) (host : List Byte) (s : State) : Option State :=
  if s.anyEvac && s.loadWaits x host then none else mailEvent 0x03 x (millLoad host) s

/-- LOAD (R393): of mailbox x. -/
def execLoad (x : Nat) (host : List Byte) (s : State) : Out := .next ((evLoad x host s).getD s)

/-! ### Host memory accesses (R388) -/

/-- A CXL.mem write of at most a line: a posted store of the port's bridge; an address of no exposed rank takes none (log 79, DEDUCED). -/
def execHostMemWrite (port addr : Nat) (bytes : List Byte) (s : State) : Out :=
  .next <|
    if 1 < port || 64 < addr % 64 + bytes.length || bytes.isEmpty || s.grade ≤ addr / 2 ^ 33 then s
    else (s.postBridge port none (addr / 2 ^ 33) (addr % 2 ^ 33) (.store bytes)).1

/-- A CXL.mem read of at most a line (R388): data or poison. -/
def evHostRead (port addr n : Nat) (s : State) : Option State :=
  let give (v : Option (List Byte)) : State := { s with hostData := (port, addr, v) :: s.hostData }
  let rank := addr / 2 ^ 33
  let off := addr % 2 ^ 33
  if 1 < port || 64 < addr % 64 + n || n = 0 then none
  else if s.grade ≤ rank then some (give none)
  else
    match s.homeOf rank with
    | none => if (tget s.standIn rank).isSome then some (give none) else none
    | some t =>
      if !(s.tile t).shellAlive || s.awaiting t off || s.heldAhead t none then none
      else if s.poison t off != 0 then some (give none)
      else some (give (some (s.rdMem (dramKey t off) n)))

/-- HOST_MEM_READ (R388). -/
def execHostMemRead (port addr n : Nat) (s : State) : Out := .next ((evHostRead port addr n s).getD s)

end Sys2Proof.Machine
end

