-- ==== Sys2Proof/Machine/Link.lean ====
section
/-! DEFINITION. The link: LPOST, LARM and LCNT, context accesses in space 3, landing regions, connections, messages, work
records, and the packets that arrive (20_link.md R358 to R371). A bridge's time is that of its first gateway's field
(log 14, DESIGN CHOICE). The layout of control payloads is open: Config says what an arriving one means, and which bytes say
what one sent must say (log 81, DESIGN CHOICE). -/
namespace Sys2Proof.Machine

/-! ### Packets and frames (R359, R360) -/

/-- The posted atomics by their code in a payload (log 2, DESIGN CHOICE). -/
def atomOf (c : Nat) : AtomOp :=
  match c % 9 with
  | 0 => .add
  | 1 => .and
  | 2 => .or
  | 3 => .xor
  | 4 => .min
  | 5 => .max
  | 6 => .minu
  | 7 => .maxu
  | _ => .fadd

def AtomOp.code (a : AtomOp) : Nat := ((List.range 9).find? fun c => atomOf c == a).getD 0

/-- The returning atomics by their code in a payload. -/
def retOf (c : Nat) : RetOp :=
  match c % 3 with
  | 0 => .add
  | 1 => .swap
  | _ => .cas

def RetOp.code (a : RetOp) : Nat := ((List.range 3).find? fun c => retOf c == a).getD 0

/-- The header's four doublewords. -/
def Lft.words (p : Lft) : List Word :=
  let w (n : Nat) : Word := BitVec.ofNat 64 n
  [w (2 ^ 60 + p.cls * 2 ^ 58 + p.op * 2 ^ 54 + p.dst * 2 ^ 36 + p.src * 2 ^ 18 + p.path * 2 ^ 12 + p.spart * 2 ^ 8 + p.gen),
   w (p.seq * 2 ^ 32 + p.pkt * 2 ^ 16 + p.stamp), w p.off, w (p.total * 2 ^ 32 + p.payload.length)]

/-- Header, payload and CRC-32, stored little-endian. -/
def Lft.encode (p : Lft) : List Byte :=
  let b := wordsBytes p.words ++ p.payload
  b ++ leBytes 4 (crc32 b)

/-- The classes that may carry an operation: data and replies S or M, requests and triggers M, the rest control. -/
def lftClasses (op : Nat) : List Nat :=
  if op = 0 || op = 2 then [0, 1] else if op < 7 then [1] else [2]

/-- A packet read (R360): none when a value is reserved, a length or the CRC is wrong, or a packet of a Class S message
that is not the last is not full. -/
def Lft.decode (b : List Byte) : Option Lft :=
  let w (i : Nat) : Word := BitVec.ofNat 64 (leAt b (8 * i) 8)
  let n := fld (w 3) 12 0
  let body := b.take (32 + n)
  let p : Lft := ⟨fld (w 0) 59 58, fld (w 0) 57 54, fld (w 0) 53 36, fld (w 0) 35 18, fld (w 0) 17 12, fld (w 0) 11 8,
    fld (w 0) 7 0, fld (w 1) 63 32, fld (w 1) 31 16, fld (w 1) 15 0, fld (w 2) 33 0, fld (w 3) 63 32, body.drop 32⟩
  let ok := b.length == 36 + n && decide (n ≤ 4096) && fld (w 0) 63 60 == 1 && decide (p.op < 10) &&
    (lftClasses p.op).contains p.cls && fld (w 2) 63 34 == 0 && fld (w 3) 31 13 == 0 && decide (1 ≤ p.total) &&
    decide (p.total ≤ 2 ^ 28) && (p.cls != 0 || (decide (4096 * p.pkt < p.total) && n == min 4096 (p.total - 4096 * p.pkt))) &&
    leAt b (32 + n) 4 == crc32 body
  if ok then some p else none

/-- The ones-complement sum of 16-bit big-endian words. -/
def onesSum : List Byte → Nat
  | a :: b :: l =>
    let v := beNat [a, b] + onesSum l
    v % 2 ^ 16 + v / 2 ^ 16
  | [a] => beNat [a, 0]
  | [] => 0

/-- The first n bytes, zeros after the last. -/
def padTo (n : Nat) (l : List Byte) : List Byte := (l ++ List.replicate n 0).take n

/-- The frame that carries a packet (R359). The header layouts are the standards' (log 26, PRESUMED); the Ethernet addresses, the flow
label, the hop limit and the port's own IPv6 address are open. -/
def frameOf (port udp : Nat) (addr : List Byte) (tc : Nat) (lft : List Byte) : List Byte :=
  let o := padTo 32 (Config.freeBytes 5 port)
  let len := 8 + lft.length
  let ips := o.drop 16 ++ padTo 16 addr
  let head (ck : Nat) : List Byte := beBytes 2 udp ++ beBytes 2 0xB96E ++ beBytes 2 len ++ beBytes 2 ck
  let sum := onesSum (ips ++ beBytes 4 len ++ beBytes 4 17 ++ head 0 ++ lft)
  o.take 12 ++ beBytes 2 0x86DD ++ beBytes 4 (6 * 2 ^ 28 + tc * 2 ^ 20 + beNat ((o.drop 12).take 3) % 2 ^ 20) ++ beBytes 2 len ++
    beBytes 1 17 ++ (o.drop 15).take 1 ++ ips ++ head (if sum = 0xFFFF then 0xFFFF else 0xFFFF - sum) ++ lft

/-- A frame's checks (R359): Ethernet II without a tag, IPv6 without extension headers, UDP to port 0xB96E with its
checksum, then the packet. The header layouts are the standards' (log 26, PRESUMED). -/
def frameLft (f : List Byte) : Option Lft :=
  let at_ (o n : Nat) : Nat := beNat ((f.drop o).take n)
  let len := at_ 18 2
  let pseudo := (f.drop 22).take 32 ++ beBytes 4 len ++ beBytes 4 17
  let ok := at_ 12 2 == 0x86DD && at_ 14 1 / 16 == 6 && at_ 20 1 == 17 && f.length == 54 + len && decide (8 ≤ len) &&
    at_ 56 2 == 0xB96E && at_ 58 2 == len && at_ 60 2 != 0 && onesSum (pseudo ++ f.drop 54) == 0xFFFF
  if ok then Lft.decode (f.drop 62) else none

/-! ### Connections and sending (R361, R362, R368) -/

def linkKey (part peer : Nat) : Nat := part * 2 ^ 18 + peer
def keyPeer (k : Nat) : Nat := k % 2 ^ 18
def keyPart (k : Nat) : Nat := k / 2 ^ 18

def State.modLink (s : State) (f : Link → Link) : State := { s with link := f s.link }

/-- The bridge that holds a peer's connections, and its TICK. -/
def State.linkTick (s : State) (peer : Nat) : Nat := s.tickOf (bridgeTile (peer % 4))

def Conn.fresh : Conn := ⟨false, none, none, 0, [], [], 0⟩
def State.conn (s : State) (k : Nat) : Conn := tgetD s.link.conns k Conn.fresh
def State.modConn (s : State) (k : Nat) (f : Conn → Conn) : State :=
  s.modLink fun L => { L with conns := tput L.conns k (f (tgetD L.conns k Conn.fresh)) }

/-- A packet leaves on path k mod P of its peer (R359, R361): the packet as sent. -/
def State.emit (s : State) (k : Nat) (p : Lft) : Lft × State :=
  match s.link.endpoint, tget s.link.routes p.dst with
  | some me, some R =>
    let i := k % R.paths.length
    let (port, udp) := R.paths.getD i (0, 0)
    let p := { p with src := me, path := i }
    let tc := if p.cls = 0 then 0x28 else 0x30
    (p, s.modLink fun L => { L with frames := ⟨port, udp, R.addr, tc, p.encode, frameOf port udp R.addr tc p.encode⟩ :: L.frames })
  | _, _ => (p, s)

/-- A control packet of a connection (R360): its sequence, its packet number and the layout of its payload are open
(log 81, DESIGN CHOICE). -/
def State.control (s : State) (key op : Nat) (b : List Byte) : Lft × State :=
  let (v, s) := s.free
  let payload := b.take 4096
  let p : Lft := ⟨2, op, keyPeer key, 0, 0, keyPart key, 0, v % 2 ^ 32, v / 2 ^ 32 % 2 ^ 16, s.linkTick (keyPeer key) % 2 ^ 16, 0,
    max 1 payload.length, payload⟩
  s.emit (v / 2 ^ 48) p

/-- An ack, a NACK or the answer of a set-up exchange sent. -/
def State.sendControl (s : State) (key op : Nat) (b : List Byte) : State := (s.control key op b).2

/-- The set-up packet that opens or refreshes a connection (R362), with this module's TICK; sent again or not. -/
def State.sendSetup (s : State) (key resends : Nat) : State :=
  if s.link.endpoint.isNone then s
  else
    let now := s.linkTick (keyPeer key)
    let (p, s) := s.control key 9 (Config.setupBytes false (!(s.conn key).up) now)
    s.modConn key fun c => { c with setAt := some now, setup := some ⟨p, .none, now, resends⟩ }

/-- One packet that waits is sent: its sequence, its stamp and a path. -/
def State.sendNext (key : Nat) (s : State) (x : LSent) : State :=
  let now := s.linkTick (keyPeer key)
  let (v, s) := s.free
  let (p, s) := s.emit v { x.p with seq := (s.conn key).next, stamp := now % 2 ^ 16 }
  s.modConn key fun c =>
    { c with next := (c.next + 1) % 2 ^ 32, flight := c.flight ++ [⟨p, x.org, now, 0⟩], used := now }

/-- What the window of 256 admits is sent (R368 step 3). -/
def State.pump (s : State) (key : Nat) : State :=
  let c := s.conn key
  if !c.up || s.link.endpoint.isNone then s
  else
    let n := 256 - c.flight.length
    (c.unsent.take n).foldl (State.sendNext key) (s.modConn key fun c => { c with unsent := c.unsent.drop n })

def Conn.idle (c : Conn) : Bool := c.unsent.isEmpty && c.flight.isEmpty && c.setup.isNone

/-- The key of the connection on which a packet arrives. -/
def rxKey (p : Lft) : Nat := linkKey p.spart p.src

/-- The placements under way of a connection's Class M packets, by their sequences. -/
def Link.placingOn (L : Link) (k : Nat) : List Nat :=
  L.placing.filterMap fun x => x.ack.bind fun p => if p.cls == 1 && rxKey p == k then some p.seq else none

/-- The idle connections, sending and receiving: when last used, whether receiving, and the key. -/
def Link.idle (L : Link) : List (Nat × Bool × Nat) :=
  (L.conns.filterMap fun q => if q.2.idle && !(L.reads.any fun r => r.2.1 == q.1) then some (q.2.used, false, q.1) else none) ++
  (L.rxConns.filterMap fun q => if q.2.ahead.isEmpty && (L.placingOn q.1).isEmpty then some (q.2.used, true, q.1) else none)

/-- The idle connection least recently used. -/
def Link.oldestIdle (L : Link) : Option (Bool × Nat) :=
  (L.idle.find? fun (x : Nat × Bool × Nat) => L.idle.all fun (y : Nat × Bool × Nat) => x.1 ≤ y.1).map (·.2)

/-- Whether the module holds as many connections as it may. -/
def Link.full (L : Link) : Bool := decide (65536 ≤ L.conns.length + L.rxConns.length)

/-- Whether another connection may be opened (R362). -/
def Link.room (L : Link) : Bool := !L.full || L.oldestIdle.isSome

/-- The least recently used idle connection makes room. -/
def Link.makeRoom (L : Link) : Link :=
  if L.full then
    match L.oldestIdle with
    | some (true, k) => { L with rxConns := tdel L.rxConns k }
    | some (false, k) => { L with conns := tdel L.conns k }
    | none => L
  else L

/-- Whether a connection is open or another may be opened (R362). -/
def State.connRoom (s : State) (key : Nat) : Bool := (tget s.link.conns key).isSome || s.link.room

/-- A connection opened on first use. -/
def State.openConn (s : State) (key : Nat) : State :=
  if (tget s.link.conns key).isSome then s
  else ((s.modLink Link.makeRoom).modConn key fun c => { c with used := s.linkTick (keyPeer key) }).sendSetup key 0

/-- The reads of an origin no longer wait. -/
def State.dropReads (s : State) (org : LOrg) : State :=
  s.modLink fun L => { L with reads := L.reads.filter fun q => q.2.2 != org }

/-! ### Landing regions (R363, R364) -/

def Region.reset : Region := ⟨false, 0, 0, 0, 0, 0, none⟩
def State.region (s : State) (r : Nat) : Region := tgetD s.link.regions r Region.reset

/-- Whether a region lies in a partition's range; and the partition whose range holds it. -/
def inLanding (p r : Nat) : Bool := decide ((Config.landing p).1 ≤ r) && decide (r < (Config.landing p).1 + (Config.landing p).2)
def State.regionOwner (s : State) (r : Nat) : Option Nat := (s.parts.find? fun q => inLanding q.1 r).map (·.1)

/-- A pointer moved by n bytes. -/
def ptrPlus (p : Word) (n : Nat) : Word := effPtr p (BitVec.ofNat 64 n)

/-- The pieces of a span within pages of 64 KiB, on fuel: pointers and lengths. -/
def pieces : Nat → Word → Nat → List (Word × Nat)
  | 0, _, _ => []
  | k + 1, p, n =>
    if n = 0 then []
    else
      let m := min n (65536 - ptrAddr p % 65536)
      (p, m) :: pieces k (ptrPlus p m) (n - m)

def spanPieces (p : Word) (n : Nat) : List (Word × Nat) := pieces (n / 65536 + 2) p n

/-- What a bridge finds where it reads or computes. -/
inductive Found (α : Type) where
  | wait
  | refused
  | ok (a : α)
deriving DecidableEq, Repr

/-- Where a pointer of a partition lies for a bridge's access at its home, which must admit the partition (R363, 17_page.md
R320). -/
def State.linkPlace (s : State) (p : Nat) (k : AKind) (ptr : Word) : Found (Nat × Nat) :=
  if s.winWaits p ptr then .wait
  else
    match s.winXlat p k ptr with
    | some (.dram rank off _ _) =>
      match s.homeOf rank with
      | none => if (tget s.standIn rank).isSome then .refused else .wait
      | some t =>
        if !(s.tile t).shellAlive || s.awaiting t off || s.heldAhead t none then .wait
        else if s.poison t off != 0 || !s.admits t (some p) rank off then .refused
        else .ok (t, off)
    | _ => .refused

/-- The bytes of pieces, read at their homes. -/
def State.readPieces (s : State) (p : Nat) : List (Word × Nat) → Found (List Byte)
  | [] => .ok []
  | (ptr, n) :: l =>
    match s.linkPlace p akLoad ptr with
    | .wait => .wait
    | .refused => .refused
    | .ok (t, off) =>
      match s.readPieces p l with
      | .ok b => .ok (s.rdMem (dramKey t off) n ++ b)
      | r => r

/-- Bytes stored by pieces for a partition, each a posted store (R363); refused when a piece does not translate. -/
def State.storePieces (s : State) (br p : Nat) (q : Placing) (ptr : Word) (b : List Byte) : Found State :=
  let ps := spanPieces ptr b.length
  if ps.any fun x => s.winWaits p x.1 then .wait
  else if ps.all fun x => (s.winXlat p akStore x.1).isSome then
    .ok (ps.foldl (fun (a : State × List Byte) x =>
      match a.1.winXlat p akStore x.1 with
      | some l =>
        let (s, id) := a.1.bridgePost br p l (a.2.take x.2)
        (s.modLink fun L => { L with placing := L.placing ++ [{ q with ticket := some id, bytes := x.2 }] }, a.2.drop x.2)
      | none => a) (s, b)).1
  else .refused

/-- An access that a region accepts (R363): its partition, the region's number and descriptor, and its pointer. -/
def State.accepts (s : State) (p : Lft) (n right : Nat) : Option (Nat × Nat × Region × Word) :=
  let r := p.off / 2 ^ 24
  let o := p.off % 2 ^ 24
  let R := s.region r
  if R.armed && decide (o + n ≤ R.len) && decide (R.rights / 2 ^ right % 2 = 1) && (p.gen == 0 || p.gen == R.gen) then
    (s.regionOwner r).map fun q => (q, r, R, ptrPlus R.base o)
  else none

/-! ### The end of what was sent (R365, R366, R368, R369) -/

def Work.op (w : Work) : Nat := fld (w.words.getD 0 0) 63 60
def Work.cls (w : Work) : Nat := fld (w.words.getD 0 0) 59 58
def Work.ord (w : Work) : Bool := bit (w.words.getD 0 0) 57
def Work.gen (w : Work) : Nat := fld (w.words.getD 0 0) 36 29
def Work.len (w : Work) : Nat := fld (w.words.getD 0 0) 28 0
def Work.local_ (w : Work) : Word := w.words.getD 1 0
def Work.remote (w : Work) : Word := w.words.getD 2 0
def Work.win (w : Work) : Word := w.words.getD 3 0
def Work.bslot (w : Work) : Word := w.words.getD 4 0
def Work.cword (w : Work) : Word := w.words.getD 5 0
def Work.peer (w : Work) : Nat := peerEp w.remote
def Work.is (w : Work) (q serial gen : Nat) : Bool := w.q == q && w.serial == serial && w.qgen == gen
def Work.org (w : Work) : LOrg := .record w.q w.serial w.qgen
def Work.id (w : Work) : Nat × Nat × Nat := (w.q, w.serial, w.qgen)

/-- Two records of one queue. -/
def Work.mates (w k : Work) : Bool := w.q == k.q && w.qgen == k.qgen

def State.work (s : State) (q serial gen : Nat) : Option Work := s.link.works.find? (·.is q serial gen)
def State.modWork (s : State) (w : Work) (f : Work → Work) : State :=
  s.modLink fun L => { L with works := L.works.map fun x => if x.is w.q w.serial w.qgen then f x else x }

/-- Whether an ended record may be reported, given the earlier ones that stand (R369). -/
def Work.mayEnd (w : Work) (kept : List Work) : Bool :=
  w.status.isSome && w.word.isNone && !kept.any fun k => k.mates w && (w.ord || (w.cls == 1 && k.cls == 1))

/-- A record's completion word (R368): status and serial, and the witness of a get that is done. The record stands until
the word has performed, so that the words of a queue appear in order (R369). -/
def State.writeCword (s : State) (w : Work) : Option Work × State :=
  let st := w.status.getD 0
  if w.cword = 0 then (none, s)
  else if s.winWaits w.part w.cword then (some w, s)
  else
    match s.winXlat w.part akStore w.cword with
    | some l =>
      let out := if w.op = 1 && st = 1 then w.out else 0
      let (s, id) := s.bridgePost (w.q / 1024) w.part l (wordsBytes [BitVec.ofNat 64 (st * 2 ^ 56 + w.serial), out])
      (some { w with word := some id }, s.modLink fun L => { L with
        placing := L.placing ++ [⟨some id, 0, w.part, 0, none, none, some w.id, true⟩] })
    | none => (none, s)

/-- Ended records leave, in the orders of R369. -/
def State.finishList : List Work → List Work → State → State
  | kept, [], s => s.modLink fun L => { L with works := kept }
  | kept, w :: l, s =>
    if w.mayEnd kept then
      let (w', s) := s.writeCword w
      State.finishList (kept ++ w'.toList) l s
    else State.finishList (kept ++ [w]) l s
def State.finishWorks (s : State) : State := State.finishList [] s.link.works s

/-- Whether a record of a queue has ended and its completion word can be written now. -/
def State.wordDue (s : State) (q : Nat) : Bool :=
  let ws := s.link.works.filter fun w => w.q == q
  ((List.range ws.length).zip ws).any fun (x : Nat × Work) => x.2.mayEnd (ws.take x.1) && !s.winWaits x.2.part x.2.cword

/-- A record ends with a status; what it had not sent is not sent. -/
def State.endWork (s : State) (w : Work) (status : Nat) : State :=
  let s := s.modLink fun L => { L with
    conns := L.conns.map fun (q : Nat × Conn) => (q.1, { q.2 with unsent := q.2.unsent.filter fun x => x.org != w.org })
    reads := L.reads.filter fun r => r.2.2 != w.org }
  (s.modWork w fun w => { w with status := some (w.status.getD status), flight := [] }).finishWorks

/-- A decrement of a record's slot left to make (R366, 10_barrier.md R198). -/
def State.owe (s : State) (w : Work) (n : Nat) : State :=
  if w.bslot = 0 || n = 0 then s
  else s.modLink fun L => { L with placing := L.placing ++ [⟨none, n, w.part, w.bslot, none, none, none, false⟩] }

/-- The journal entry of a posted access of a tile. -/
def State.peerEntry (s : State) (t j : Nat) : Option JEntry := (s.tile t).journal.find? fun e => e.idx == j

/-- A posted access settles at its tile (R365): performed (1); refused (2), with cause 4 and dst 4,095, its sequence in
the entry being open; or on a broken connection (3). A bridge's ticket ends; a lost tile's is forgotten. The cycles from
departure count (21_observe.md R372). -/
def State.peerSettle (s : State) (br t j : Nat) (ret : Ret) (since how : Nat) : State :=
  if t = 4095 then
    { s with bridgeOut := tdel s.bridgeOut j, bridgeRefused := if how = 1 then s.bridgeRefused else s.bridgeRefused ++ [j] }
  else
    match s.peerEntry t j with
    | none => s
    | some e =>
      let acc := s.accOf t (.peer e.addr)
      let back := ret.since since s.clock
      if how = 1 then s.reply (.bridge br) back (s.tile t).rank (.settled j acc true)
      else
        let (v, s) := s.free
        s.reply (.bridge br) back (s.tile t).rank (.refusal j (if how = 2 then 4 else 0) 4095 (v % 2 ^ 38) e.addr e.gtid acc)

/-- A context's read or returning atomic answered (R365). -/
def State.peerReply (s : State) (br : Nat) (who : Who) (ret : Ret) (since : Nat) (v : ReplyVal) : State :=
  s.reply (.bridge br) (ret.since since s.clock) none (.proxyRep who 0 v)

/-- What was sent does not succeed: refused (2) or unreachable (3) (log 84, DEDUCED). -/
def State.orgFails (s : State) (peer status : Nat) (org : LOrg) : State :=
  match org with
  | .post t j ret since => s.peerSettle (peer % 4) t j ret since status
  | .read who ptr ret since =>
    if s.link.reads.any fun q => q.2.2 == org then (s.dropReads org).peerReply (peer % 4) who ret since (.fault 5 ptr) else s
  | .record q serial gen =>
    match s.work q serial gen with
    | some w => s.endWork w status
    | none => s
  | .none => s

/-- A packet of a connection has been acknowledged: the store settles; the bytes of a put are acked (R365, R366). -/
def State.orgAcked (s : State) (peer : Nat) (x : LSent) : State :=
  match x.org with
  | .post t j ret since => s.peerSettle (peer % 4) t j ret since 1
  | .record q serial gen =>
    match s.work q serial gen with
    | some w =>
      if w.op = 1 || w.status.isSome then s
      else
        let s := (s.owe w (if w.op = 0 then x.p.payload.length else 0)).modWork w fun w => { w with left := w.left - 1 }
        if w.left ≤ 1 then s.endWork w 1 else s
    | none => s
  | _ => s

/-- Packets for a peer enter its connection; one whose entry is empty is unreachable (R361). -/
def State.sendM (s : State) (key : Nat) (l : List (Lft × LOrg)) : State :=
  if ((tget s.link.routes (keyPeer key)).map (·.paths)).getD [] = [] then
    l.foldl (fun s x => s.orgFails (keyPeer key) 3 x.2) s
  else
    ((s.openConn key).modConn key fun c => { c with unsent := c.unsent ++ l.map fun x => ⟨x.1, x.2, 0, 0⟩ }).pump key

/-- A connection is broken (R368 step 3): everything that uses it fails, and the next use opens a new one. -/
def State.breakConn (s : State) (key : Nat) : State :=
  let c := s.conn key
  let reads := (s.link.reads.filter fun q => q.2.1 == key).map (·.2.2)
  let s := s.modLink fun L => { L with conns := tdel L.conns key }
  (reads ++ (c.flight ++ c.unsent).map (·.org)).foldl (fun s o => s.orgFails (keyPeer key) 3 o) s

/-- A packet of our own: the fields that sending fills are zero. -/
def lftOf (cls op dst part gen off total : Nat) (b : List Byte) : Lft := ⟨cls, op, dst, 0, 0, part, gen, 0, 0, 0, off, total, b⟩

/-- The packets of a message (R360): packet j carries bytes 4,096 × j onward, on fuel. -/
def lftPackets (p : Lft) : Nat → Nat → List Byte → List Lft
  | 0, _, _ => []
  | k + 1, j, b =>
    if b.isEmpty then []
    else { p with pkt := if p.cls = 0 then j else 0, off := (p.off + 4096 * j) % 2 ^ 34, payload := b.take 4096 } ::
      lftPackets p k (j + 1) (b.drop 4096)
def lftMessage (p : Lft) (b : List Byte) : List Lft := lftPackets p (b.length / 4096 + 1) 0 b

/-! ### Class S messages (R368 step 2) -/

/-- A packet of a Class S message leaves on path (j + seq + k) mod P. -/
def State.spray (s : State) (k : Nat) (x : LSent) : LSent × State :=
  let (p, s) := s.emit (x.p.pkt + x.p.seq + k) x.p
  ({ x with p := p, at_ := s.linkTick p.dst, resends := k }, s)

def State.sprayAll (s : State) : List (Nat × LSent) → List LSent × State
  | [] => ([], s)
  | (k, x) :: l =>
    let (y, s) := s.spray k x
    let (r, s) := s.sprayAll l
    (y :: r, s)

/-- A message's packets sent for the first time. -/
def State.startSpray (s : State) (w : Work) (p : Lft) (b : List Byte) : State :=
  let id := s.link.nextMsg
  let now := s.linkTick p.dst
  let pk := lftMessage { p with seq := id, stamp := now % 2 ^ 16 } b
  let (fl, s) := (s.modLink fun L => { L with nextMsg := (id + 1) % 2 ^ 32 }).sprayAll (pk.map fun p => (0, ⟨p, .none, 0, 0⟩))
  s.modWork w fun w =>
    { w with running := true, msg := id, flight := fl, left := fl.length, progress := now }

/-- The peer of a running message: of a record by its pointer, of a reply by its packets. -/
def Work.dest (w : Work) : Nat :=
  match w.flight with
  | x :: _ => x.p.dst
  | [] => w.peer

/-- Packets of a message resent on the next path; after 16 resends of one the record ends with status 3. -/
def State.resendS (s : State) (w : Work) (hit : LSent → Bool) : State :=
  if w.flight.any fun x => hit x && decide (16 ≤ x.resends) then s.endWork w 3
  else
    let (fl, s) := s.sprayAll ((w.flight.filter hit).map fun x => (x.resends + 1, x))
    let swap (x : LSent) : LSent := (fl.find? fun y => y.p.pkt == x.p.pkt).getD x
    s.modWork w fun w => { w with flight := w.flight.map swap, progress := s.linkTick w.dest }

/-- The Class S message that a control packet names. -/
def State.liveMsg (s : State) (key id : Nat) : Option Work :=
  s.link.works.find? fun w => w.running && w.status.isNone && w.cls == 0 && w.msg == id && w.part == keyPart key && w.dest == keyPeer key &&
    !w.flight.isEmpty

/-! ### Work records (R366 to R369) -/

/-- The records of a queue as it now is. -/
def State.worksOf (s : State) (q : Nat) : List Work := s.link.works.filter fun w => w.q == q && w.qgen == (s.queue q).gen

/-- Whether a record has fired: its serial is not above pidx, or was not when its queue was revoked. -/
def State.fired (s : State) (w : Work) : Bool :=
  w.fired || (w.qgen == (s.queue w.q).gen && decide (2 ^ 31 ≤ (w.serial + 2 ^ 33 - (s.queue w.q).pidx - 1) % 2 ^ 32))

/-- The posted records that are pending (R366). -/
def State.pending (s : State) (q : Nat) : Nat := ((s.worksOf q).filter fun w => !s.fired w).length

/-- The first fired record of a queue that does not run yet and whose earlier ones let it: those of Class M start in
order, and ord 1 waits for every earlier one to end (R368, R369). -/
def State.startable (s : State) (q : Nat) : Option Work :=
  let ws := s.link.works.filter fun w => w.q == q
  (((List.range ws.length).zip ws).find? fun (x : Nat × Work) =>
    let w := x.2
    let before := (ws.take x.1).filter (·.mates w)
    !w.running && w.status.isNone && s.fired w && !(w.ord && !before.isEmpty) &&
    (before.all fun k => k.cls == 0 || w.cls == 0 || k.running || k.status.isSome) &&
    s.checkAt (.bridge (q / 1024)) w.win != .wait).map (·.2)

/-- A fired record whose win is satisfied runs (R368); one of Class M, and a get, on its connection. A local span that
cannot be read ends it with an open status other than done (log 85, DEDUCED). -/
def State.runWork (s : State) (w : Work) : Option State :=
  let key := linkKey w.part w.peer
  let run (left : Nat) (s : State) : State := s.modWork w fun w =>
    { w with running := true, left := left, progress := s.linkTick w.peer }
  if (w.op = 1 || w.cls = 1) && !s.connRoom key then none
  else if ((tget s.link.routes w.peer).map (·.paths)).getD [] = [] then some (s.endWork w 3)
  else if w.op = 1 then
    let s : State := { s with nextId := s.nextId + 1, link := { s.link with reads := tput s.link.reads s.nextId (key, w.org) } }
    let b := (Config.readBytes w.cls).take 4096
    some ((run w.len s).sendM key [(lftOf 1 1 w.peer w.part w.gen (peerOff w.remote) w.len b, w.org)])
  else
    match s.readPieces w.part (spanPieces w.local_ w.len) with
    | .wait => none
    | .refused =>
      let (v, s) := s.free
      some (s.endWork w (2 + v % 3))
    | .ok b =>
      let p := lftOf w.cls (if w.op = 0 then 0 else 6) w.peer w.part w.gen (peerOff w.remote) w.len []
      if w.cls = 0 then if s.link.endpoint.isNone then none else some (s.startSpray w p b)
      else
        let pk := lftMessage p b
        some ((run pk.length s).sendM key (pk.map fun p => (p, w.org)))

/-- The first record of a queue that can start does; poison ends it with status 4 (R368 step 1). A completion word that had
to wait for its page is written. -/
def evFire (q : Nat) (s : State) : Option State :=
  if s.wordDue q then some s.finishWorks
  else
    (s.startable q).bind fun w =>
      s.needWit (.bridge (q / 1024)) w.win (fun s => some (s.endWork w 4)) fun s => s.runWork w

/-- LINK_RECORD_FIRE (R368): of queue q. -/
def execLinkRecordFire (q : Nat) (s : State) : Out := .next ((evFire q s).getD s)

/-! ### LPOST, LARM, LCNT (R364, R367) -/

/-- A space-0 pointer of format 0, aligned. -/
def plainPtr (p : Word) (n : Nat) : Bool := ptrSpace p == 0 && ptrFmt p == 0 && ptrBlock p == 0 && ptrAddr p % n == 0

/-- A record of R366 is well formed. -/
def recordOk (grade : Nat) (w : List Word) : Bool :=
  let d := w.getD 0 0
  let r := w.getD 2 0
  let op := fld d 63 60
  let cls := fld d 59 58
  let len := fld d 28 0
  decide (op < 3) && decide (cls < 2) && (op != 2 || (cls == 1 && len == 64 && peerOff r == 0)) && fld d 56 37 == 0 &&
  (cls == 1 || fld d 36 29 != 0) && decide (1 ≤ len) && decide (len ≤ 2 ^ 28) && plainPtr (w.getD 1 0) 1 && ptrSpace r == 3 &&
  witWf grade (w.getD 3 0) && (w.getD 4 0 == 0 || plainPtr (w.getD 4 0) 16) && (w.getD 5 0 == 0 || plainPtr (w.getD 5 0) 16) &&
  w.getD 6 0 == 0 && w.getD 7 0 == 0

/-- The checks of LPOST (right 1) and LCNT (right 2) on a handle: the cause that fails (R308, R367). -/
def State.handleFault (s : State) (part : Option Nat) (h : List Word) (right : Nat) : Option Nat :=
  let q := fld (h.getD 4 0) 11 0
  let c := h.take 4
  let k := s.queue q
  if k.state = 2 then some 9
  else if !qcapFormat c || fld (h.getD 4 0) 63 12 != 0 then some 1
  else if !s.qcapSeal c then some 2
  else if qcapKind c != 4 then some 3
  else if !k.matches_ c then some 4
  else if !qcapHas c right then some 5
  else if part != some (qcapOwner c % 16) then some 6
  else none

/-- LPOST at its bridge: the reply (R366, R367); none while the ring's page cannot be walked. -/
def State.linkPost (s : State) (part : Option Nat) (h w : List Word) : Option (State × Word) :=
  let q := fld (h.getD 4 0) 11 0
  let k := s.queue q
  let fault := match s.handleFault part h 1 with
    | some c => some c
    | none => if recordOk s.grade w then none else some 10
  match fault with
  | some c => some (s.setQueue q (k.reject c), BitVec.ofNat 64 (3 * 2 ^ 62 + c * 2 ^ 32))
  | none =>
    let slot (n : Nat) : Nat := (n + 2 ^ 32 - 1) % 2 ^ 32 % k.length
    let p := part.getD 0
    let place := ptrPlus k.base (64 * slot k.serial)
    if s.pending q = 2 ^ 20 - 1 then some (s, BitVec.ofNat 64 (2 ^ 62))
    else if (s.worksOf q).any fun x => slot x.serial == slot k.serial then some (s, BitVec.ofNat 64 (2 ^ 63))
    else if s.winWaits p place then none
    else
      let work : Work := ⟨q, k.serial, p, w, false, 0, [], 0, 0, 0, none, k.gen, false, none⟩
      let s := s.setQueue q { k with serial := (k.serial + 1) % 2 ^ 32 }
      let s := s.modLink fun L => { L with works := L.works ++ [work] }
      let s := match s.winXlat p akStore place with
        | some l => (s.bridgePost (q / 1024) p l (wordsBytes w)).1
        | none => s
      some (s, BitVec.ofNat 64 k.serial)

/-- LCNT at its bridge (R367). -/
def State.linkCount (s : State) (part : Option Nat) (h : List Word) : Word :=
  let q := fld (h.getD 4 0) 11 0
  match s.handleFault part h 2 with
  | some c => BitVec.ofNat 64 (3 * 2 ^ 62 + c)
  | none => BitVec.ofNat 64 (s.pending q * 2 ^ 42 + (s.queue q).pidx)

/-- A descriptor of R364 is well formed. -/
def descOk (d : List Word) : Bool :=
  let w (i : Nat) : Word := d.getD i 0
  let len := fld (w 1) 24 0
  plainPtr (w 0) 64 && fld (w 1) 63 35 == 0 && fld (w 1) 31 25 == 0 && len % 64 == 0 && decide (64 ≤ len) && decide (len ≤ 2 ^ 24) &&
  (w 2 == 0 || plainPtr (w 2) 16) && (d.drop 3).all (· == 0)

/-- LARM at its bridge (R364): the reply; none while it waits for a placement. -/
def State.linkArm (s : State) (part : Option Nat) (d : List Word) (v : Word) : Option (State × Word) :=
  let r := fld v 9 0
  let R := s.region r
  let arm := !bit v 10
  let now := s.tickOf (bridgeTile 0)
  let rep (st gen : Nat) : Word := BitVec.ofNat 64 (st * 2 ^ 62 + gen)
  if fld v 63 11 != 0 || (arm && !descOk d) then some (s, rep 3 R.gen)
  else if !(match part with
    | some p => inLanding p r
    | none => false) then some (s, rep 2 R.gen)
  else if arm && (match R.lastArm with
    | some t => decide (now - t < 17)
    | none => false) then some (s, rep 1 R.gen)
  else if s.link.placing.any fun x => x.region == some r then none
  else
    let R' : Region := if arm then
        ⟨true, R.gen % 255 + 1, d.getD 0 0, fld (d.getD 1 0) 34 32, fld (d.getD 1 0) 24 0, d.getD 2 0, some now⟩
      else { R with armed := false }
    some (s.modLink fun L => { L with regions := tput L.regions r R' }, rep 0 R'.gen)

/-- An earlier posted access of the same sender and peer is still on its way (R365). -/
def State.peerBehind (s : State) (g : Msg) (ptr : Word) : Bool :=
  match s.net.find? fun x => x.src == g.src && (match x.body with
    | .peerPost _ _ _ q _ => peerEp q == peerEp ptr
    | _ => false) with
  | some x => x.id != g.id
  | none => false

/-- A context's read or returning atomic leaves on its connection, with gen 0 (R365). -/
def State.sendPeerRead (s : State) (who : Who) (part : Option Nat) (ptr : Word) (op : ProxOp) (ret : Ret) : State :=
  let peer := peerEp ptr
  let p := part.getD 0
  let key := linkKey p peer
  let org := LOrg.read who ptr ret s.clock
  let s : State := { s with nextId := s.nextId + 1, link := { s.link with reads := tput s.link.reads s.nextId (key, org) } }
  match op with
  | .load n => s.sendM key [(lftOf 1 1 peer p 0 (peerOff ptr) n ((Config.readBytes 1).take 4096), org)]
  | .ret a v cmp => s.sendM key [(lftOf 1 4 peer p 0 (peerOff ptr) 8 ((Config.atomicBytes a.code v cmp).take 4096), org)]
  | _ => s

/-- A posted store or atomic leaves on its connection (R365). -/
def State.sendPeerPost (s : State) (t j : Nat) (part : Option Nat) (ptr : Word) (op : PostOp) (ret : Ret) : State :=
  let peer := peerEp ptr
  let p := part.getD 0
  let org := LOrg.post t j ret s.clock
  let write (b : List Byte) : State :=
    s.sendM (linkKey p peer) ((lftMessage (lftOf 1 0 peer p 0 (peerOff ptr) b.length []) b).map fun x => (x, org))
  match op with
  | .store b => write b
  | .copy b _ _ => write b
  | .atomic a v =>
    s.sendM (linkKey p peer) [(lftOf 1 3 peer p 0 (peerOff ptr) 8 ((Config.atomicBytes a.code v 0).take 4096), org)]
  | _ => s

/-- A request at its bridge: LPOST, LARM or LCNT, or an access of space 3. -/
def evLinkRequest (m : Nat) (s : State) : Option State :=
  (s.arrive m).bind fun (r, s') =>
    let reply (who : Who) (v : Word) (s : State) : State := s.reply r.msg.dst r.ret none (.linkRep who v)
    match r.msg.body with
    | .linkReq who op part h w v =>
      if op = 0 then (s'.linkPost part h w).map fun (s1, x) => reply who x s1
      else if op = 1 then (s'.linkArm part w v).map fun (s1, x) => reply who x s1
      else some (reply who (s'.linkCount part h) s')
    | .peerReq who part ptr op =>
      if s'.connRoom (linkKey (part.getD 0) (peerEp ptr)) then some (s'.sendPeerRead who part ptr op r.ret) else none
    | .peerPost t j part ptr op =>
      if s'.connRoom (linkKey (part.getD 0) (peerEp ptr)) && !s.peerBehind r.msg ptr then some (s'.sendPeerPost t j part ptr op r.ret)
      else none
    | _ => none

/-- LINK_BRIDGE_REQUEST (R367). -/
def execLinkBridgeRequest (m : Nat) (s : State) : Out := .next ((evLinkRequest m s).getD s)

/-- The bridge's reply fills rd (R367). -/
def evLinkReply (m : Nat) (s : State) : Option State :=
  (s.arrive m).bind fun (r, s') =>
    match r.msg.body with
    | .linkRep who w => some (match s'.takeProducer who.agent who.slot who.id with
        | some (q, s') => s'.fillDest who.agent who.slot q.dest 1 w 0#5
        | none => s')
    | _ => none

/-- LINK_BRIDGE_REPLY (R367). -/
def execLinkBridgeReply (m : Nat) (s : State) : Out := .next ((evLinkReply m s).getD s)

/-- A request of the issuing context leaves for a bridge. -/
def State.askLink (s : State) (rd : XReg) (br op : Nat) (h w : List Word) (v : Word) : State :=
  let who : Who := ⟨s.focus, s.curSlot, s.nextId⟩
  ((s.claim (.x rd) .answer 0).retireQuiet).send s.focus.node (.bridge br) none 0 (.linkReq who op s.curPart h w v)

/-- LPOST's join of the record's win with WSELF, unless op is 2; a malformed win is left to the bridge's check. -/
def State.joinSelf (s : State) (w : List Word) : List Word :=
  if fld (w.getD 0 0) 63 60 = 2 || !witWf s.grade (w.getD 3 0) then w
  else w.set 3 (wjoin s.tick (w.getD 3 0) (s.cur.th.wself s.tick))

/-- A contained context traps with the pointer (14_kernel.md R275, 18_fault.md R327), after the pointer's own checks (R328). -/
def State.uncontained (s : State) (p : Word) (go : State → State) : State :=
  if s.kernelOf.isSome then s.trap 27 p else go s

/-- LPOST (R367). -/
noncomputable def execLpost (rd rs1 rs2 : XReg) (s : State) : Out :=
  issue (.lpost rd rs1 rs2) s fun s =>
    let p1 := effPtr (s.x1 rs1) 0
    let p2 := effPtr (s.x2 rs1 rs2) 0
    s.withParams 8 p1 fun w s => s.withParams 8 p2 fun h s => s.uncontained p1 fun s =>
      s.askLink rd (fld (h.getD 4 0) 11 0 / 1024) 0 (h.take 5) (s.joinSelf w) 0

/-- LARM (R364, R367): a disarm reads no descriptor. -/
noncomputable def execLarm (rd rs1 rs2 : XReg) (s : State) : Out :=
  issue (.larm rd rs1 rs2) s fun s =>
    let p := effPtr (s.x1 rs1) 0
    let v := s.x2 rs1 rs2
    s.withParams 8 p fun d s => s.uncontained p fun s => s.askLink rd 0 1 [] (if bit v 10 then [] else d) v

/-- LCNT (R367). -/
noncomputable def execLcnt (rd rs1 : XReg) (s : State) : Out :=
  issue (.lcnt rd rs1) s fun s =>
    let p := effPtr (s.x1 rs1) 0
    s.withParams 8 p fun h s => s.askLink rd (fld (h.getD 4 0) 11 0 / 1024) 2 (h.take 5) [] 0

/-! ### Placements (R363, R366, R368) -/

def msgKey (p : Lft) : Nat := p.spart * 2 ^ 50 + p.src * 2 ^ 32 + p.seq

def RxConn.fresh : RxConn := ⟨0, [], [], 0⟩
def State.rx (s : State) (k : Nat) : RxConn := tgetD s.link.rxConns k RxConn.fresh
def State.setRx (s : State) (k : Nat) (c : RxConn) : State := s.modLink fun L => { L with rxConns := tput L.rxConns k c }

/-- The ack of a connection (R368 step 3): cumulative up to the first packet that has not performed, or that a NACK answers;
and the later ones that have. -/
def State.ackM (s : State) (key : Nat) : State :=
  let c := s.rx key
  let open_ := s.link.placingOn key ++ c.bad
  let back (q : Nat) : Nat := (c.expect + 2 ^ 32 - q) % 2 ^ 32
  let n := open_.foldl (fun n q => max n (back q)) 0
  let seqs := (List.range (min n 256)).map fun i => (c.expect + 2 ^ 32 - n + i) % 2 ^ 32
  s.sendControl key 7 (Config.ackBytes false ((c.expect + 2 ^ 33 - n - 1) % 2 ^ 32) (seqs.filter fun q => !open_.contains q))

/-- A NACK (R363, R368, R370): code 1, refused, or 2, stale. A refused packet of a connection is noted, so that no ack covers it. -/
def State.nack (s : State) (p : Lft) (code : Nat) : State :=
  let s := s.sendControl (rxKey p) 8 (Config.nackBytes (p.cls == 0) code p.seq [])
  if p.cls = 0 then s
  else
    let c := s.rx (rxKey p)
    s.setRx (rxKey p) { c with bad := if c.bad.contains p.seq then c.bad else c.bad ++ [p.seq] }

/-- Every packet of a Class S message has come. -/
def RxMsg.full (m : RxMsg) : Bool := m.got.length == (m.total + 4095) / 4096

/-- A packet's placement has performed: a Class M packet is acknowledged; a Class S message when all of it is, and is then
released (R368, R370): the final ack names the message. -/
def State.placedAll (s : State) (p : Lft) : State :=
  if s.link.placing.any fun x => (x.ack.map fun q => q.cls == p.cls && (if p.cls = 0 then msgKey q == msgKey p else q == p)) == some true then s
  else if p.cls = 0 then
    match tget s.link.rxMsgs (msgKey p) with
    | some m =>
      if m.full && !m.released then
        (s.modLink fun L => { L with rxMsgs := tput L.rxMsgs (msgKey p) { m with released := true } }).sendControl (rxKey p) 7
          (Config.ackBytes true p.seq [])
      else s
    | none => s
  else s.ackM (rxKey p)

/-- A packet whose store its home refused: a NACK; a Class S message has not received it. -/
def State.placeFails (s : State) (p : Lft) : State :=
  let s := s.nack p 1
  let lose (q : Nat × RxMsg) : Nat × RxMsg := if q.1 = msgKey p then (q.1, { q.2 with got := q.2.got.filter (· != p.pkt) }) else q
  if p.cls = 0 then s.modLink fun L => { L with rxMsgs := L.rxMsgs.map lose } else s

/-- Bytes of a get have landed (R366, R368 step 4). -/
def State.landed (s : State) (w : Work) (n : Nat) : State :=
  let s := s.modWork w fun w => { w with left := w.left - n, progress := s.linkTick w.peer }
  if w.left ≤ n then s.endWork w 1 else s

/-- A completion word has performed: the record's slot is free (R368). -/
def State.wordDone (s : State) (w : Work) : State :=
  (s.modLink fun L => { L with works := L.works.filter fun x => !(x.is w.q w.serial w.qgen && x.word.isSome) }).finishWorks

/-- The decrement of a placement's slot at its home (R198); none while its range awaits evacuation. -/
def State.linkDecrement (s : State) (q : Placing) : Option State :=
  if q.bslot = 0 then some s
  else
    match s.linkPlace q.part akRetS q.bslot with
    | .wait => none
    | .refused => some s
    | .ok (t, off) =>
      match engineDecrement (s.readSlot (dramKey t off)) q.bytes with
      | none => some s
      | some (k, _, _) => some ((s.homeWrite t off 4095 (wordsBytes k.words)).barrierDone t off)

/-- Whether an earlier placement of the same connection stands: those of Class M complete in connection order (R369). -/
def Link.behind (L : Link) (i : Nat) (q : Placing) : Bool :=
  match q.ack with
  | some p => p.cls == 1 && (L.placing.take i).any fun x => match x.ack with
    | some r => r.cls == 1 && rxKey r == rxKey p
    | none => false
  | none => false

/-- The i-th placement once its store has performed, or was refused. -/
def evPlaced (i : Nat) (s : State) : Option State :=
  s.link.placing[i]?.bind fun q =>
    let drop (s : State) : State := s.modLink fun L => { L with placing := L.placing.eraseIdx i }
    let work := q.record.bind fun (w, n, g) => s.work w n g
    if s.link.behind i q then none
    else
      match (match q.ticket with
        | none => some true
        | some id => s.ticketDone id) with
      | none => none
      | some ok =>
        if q.word then
          some (match work with
            | some w => (drop s).wordDone w
            | none => drop s)
        else if ok then
          (s.linkDecrement q).map fun s =>
            let s := drop s
            let s := match q.ack with
              | some p => s.placedAll p
              | none => s
            match work with
            | some w => s.landed w q.bytes
            | none => s
        else
          let s := drop s
          let s := match q.ack with
            | some p => s.placeFails p
            | none => s
          some (match work with
            | some w => s.endWork w 2
            | none => s)

/-- ENGINE_DECREMENT (10_barrier.md R198): of the engines of tile t; from 1,024 up, of the link's i-th placement. -/
def execEngineDecrement (t : Nat) (s : State) : Out :=
  .next ((if t < 1024 then evDecrement t s else evPlaced (t - 1024) s).getD s)

/-! ### Packets that arrive (R362, R363, R368, R370) -/

/-- What a frame is to an event: of another operation; dropped and counted, or too old; or a packet. -/
inductive Arrival where
  | other
  | dropped (s : State)
  | packet (p : Lft) (s : State)

/-- A frame of an operation as it arrives (R359 to R362): age is this bridge's TICK less the stamp, corrected by the
peer's difference, and open while that is unknown; a set-up packet then brings the difference itself (log 83, DEDUCED). -/
def State.frameIn (s : State) (op : Nat) (frame : List Byte) : Arrival :=
  let count (s : State) : State := s.modLink fun L => { L with drops := L.drops + 1 }
  match s.link.endpoint with
  | none => .other
  | some me =>
    match frameLft frame with
    | none => .dropped (count s)
    | some p =>
      if p.op != op then .other
      else if p.dst != me then .dropped (count s)
      else if op = 9 && (tget s.link.diffs p.src).isNone then .packet p s
      else
        let (diff, s) := match tget s.link.diffs p.src with
          | some d => (d, s)
          | none => s.free
        let age := (s.linkTick p.src + 2 ^ 17 - p.stamp - diff % 2 ^ 16) % 2 ^ 16
        if 4096 < age then .dropped s else .packet p s

/-- A write of a packet into its region (R363); late: of a released message, with no second decrement (R370). -/
def State.placeBytes (s : State) (p : Lft) (late : Bool) : Found State :=
  match s.accepts p p.payload.length 0 with
  | none => .refused
  | some (part, r, R, ptr) =>
    s.storePieces (p.src % 4) part ⟨none, 0, part, if late then 0 else R.bslot, some r, some p, none, false⟩ ptr p.payload

/-- What an access found is done, refused with a NACK, or waits. -/
def State.orNack (s : State) (p : Lft) (f : Found State) (k : State → State) : Option State :=
  match f with
  | .wait => none
  | .refused => some (s.nack p 1)
  | .ok s => some (k s)

/-- The message record after a packet (R368): its gap opens when an earlier packet is missing. -/
def RxMsg.add (m : RxMsg) (j now : Nat) : RxMsg :=
  let got := m.got ++ [j]
  let open_ := got.any fun k => (List.range k).any fun i => !got.contains i
  { m with got := got, gap := if open_ then some (m.gap.getD now) else none }

/-- A Class S packet (R368, R370): placed by `put`, dropped as a duplicate, or placed again after release. -/
def State.takeS (s : State) (p : Lft) (put : Bool → State → Found State) (stale : Bool) : Option State :=
  let note (m : RxMsg) (s : State) : State := s.modLink fun L =>
    { L with rxMsgs := tput L.rxMsgs (msgKey p) (m.add p.pkt (s.linkTick p.src)) }
  match tget s.link.rxMsgs (msgKey p) with
  | some m =>
    if m.released then if stale then some (s.nack p 2) else s.orNack p (put true s) id
    else if m.got.contains p.pkt then some s
    else s.orNack p (put false s) (note m)
  | none => s.orNack p (put false s) (note ⟨p.total, [], none, false⟩)

/-- A read request of Class M served from a region (R363, R368 step 4): the reply is in the class asked for; one of Class S is a
message that the bridge keeps until it is acknowledged (queue number 4,096). -/
def State.serveRead (s : State) (p : Lft) : Option State :=
  match s.accepts p p.total 1 with
  | none => some (s.nack p 1)
  | some (part, _, _, ptr) =>
    match s.readPieces part (spanPieces ptr p.total) with
    | .wait => none
    | .refused => some (s.nack p 1)
    | .ok b =>
      let cls := Config.requestClass p.payload % 2
      let q := lftOf cls 2 p.src part p.gen p.off p.total []
      if cls = 0 then
        let id := s.link.nextMsg
        let w : Work := ⟨4096, id, part, [], true, id, [], 0, 0, 0, none, 0, true, none⟩
        some ((s.modLink fun L => { L with works := L.works ++ [w] }).startSpray w q b)
      else some (s.sendM (linkKey part p.src) ((lftMessage q b).map fun x => (x, .none)))

/-- A posted atomic into a region (R363). -/
def State.placeAtomic (s : State) (p : Lft) : Option State :=
  let (c, v, _) := Config.atomicInfo p.payload
  match s.accepts p 8 0 with
  | none => some (s.nack p 1)
  | some (part, r, R, ptr) =>
    if s.winWaits part ptr then none
    else
      match s.winXlat part akStore ptr with
      | some (.dram rank off _ _) =>
        if off % 8 != 0 then some (s.nack p 1)
        else
          let (s, id) := s.postBridge (p.src % 4) (some part) rank off (.atomic (atomOf c) v)
          some (s.modLink fun L => { L with placing := L.placing ++ [⟨some id, 8, part, R.bslot, some r, some p, none, false⟩] })
      | _ => some (s.nack p 1)

/-- A returning atomic performed at its home and answered (R363). -/
def State.serveAtomic (s : State) (p : Lft) : Option State :=
  let (c, v, cmp) := Config.atomicInfo p.payload
  match s.accepts p 8 2 with
  | none => some (s.nack p 1)
  | some (part, _, _, ptr) =>
    match s.linkPlace part akRetS ptr with
    | .wait => none
    | .refused => some (s.nack p 1)
    | .ok (t, off) =>
      if off % 8 != 0 then some (s.nack p 1)
      else
        let m := s.rdWord (dramKey t off)
        let s := s.homeWrite t off 4095 (wordBytes ((retOf c).apply m v cmp))
        some (s.sendM (linkKey part p.src) [(lftOf 1 5 p.src part p.gen p.off 8 (wordBytes m), .none)])

/-- A trigger checked as a wake (R368): its bytes name no queue, so it is the lowest record, live or faulted, that the
capability matches. -/
def State.trigger (s : State) (p : Lft) : State :=
  let w (i : Nat) : Word := BitVec.ofNat 64 (leAt p.payload (8 * i) 8)
  let c := [w 0, w 1, w 2, w 3]
  let format := p.payload.length == 64 && fld (w 4) 63 32 == 0 && w 5 == 0 && w 6 == 0 && w 7 == 0
  match (List.range 4096).find? fun q => (s.queue q).state != 0 && ({ s.queue q with state := 1 } : Queue).matches_ c with
  | some q => s.wake .link q c (fld (w 4) 31 0) format
  | none => s

/-- The read that a reply answers: the link's matching is not given, so the arrival names it. -/
def State.readOf (s : State) (ref src : Nat) : Option LOrg :=
  (tget s.link.reads ref).bind fun (key, org) => if keyPeer key = src then some org else none

/-- The answer to a context's read or returning atomic (R365). -/
def State.answerRead (s : State) (p : Lft) (ref : Nat) : State :=
  match s.readOf ref p.src with
  | some (.read who _ ret since) =>
    (s.modLink fun L => { L with reads := tdel L.reads ref }).peerReply (p.src % 4) who ret since
      (.value (BitVec.ofNat 64 (leNat (p.payload.take 8))))
  | _ => s

/-- Bytes of a get stored at its local span (R368 step 4): its output is the tick witness of the last of these stores (07_witness.md
R148); bytes that cannot be stored end the record with an open status other than done (log 85, DEDUCED). -/
def State.landAt (s : State) (w : Work) (p : Lft) : Found State :=
  let at_ := (p.off + 2 ^ 34 - peerOff w.remote) % 2 ^ 34
  let fail : Found State :=
    let (v, s) := s.free
    .ok (s.endWork w (2 + v % 3))
  if w.status.isSome then .ok s
  else if w.len < at_ + p.payload.length then fail
  else
    match s.storePieces (w.q / 1024) w.part ⟨none, 0, w.part, w.bslot, none, some p, some w.id, false⟩ (ptrPlus w.local_ at_) p.payload with
    | .wait => .wait
    | .refused => fail
    | .ok s => .ok (s.modWork w fun w => { w with out := tickWit (s.tickOf (bridgeTile (w.q / 1024)) + 1) })

/-- Read-reply data (R365, R368 step 4): a context's register, or a get's local span. -/
def State.takeReply (s : State) (p : Lft) (ref : Nat) : Option State :=
  match s.readOf ref p.src with
  | some (.record q serial gen) =>
    match s.work q serial gen with
    | none => some s
    | some w =>
      if p.cls = 0 then s.takeS p (fun late s => if late then .ok s else s.landAt w p) false
      else
        match s.landAt w p with
        | .ok s => some s
        | _ => none
  | _ => some (s.answerRead p ref)

/-- One packet in its sequence, or of Class S, has its effect; none while it must wait. -/
def State.effect (s : State) (p : Lft) (ref : Nat) : Option State :=
  match p.op with
  | 0 =>
    if p.cls = 0 then s.takeS p (fun late s => s.placeBytes p late) (p.gen != (s.region (p.off / 2 ^ 24)).gen)
    else s.orNack p (s.placeBytes p false) id
  | 1 => s.serveRead p
  | 2 => s.takeReply p ref
  | 3 => s.placeAtomic p
  | 4 => s.serveAtomic p
  | 5 => some (s.answerRead p ref)
  | 6 => some (s.trigger p)
  | _ => none

/-- The packet next in a connection's sequence has its effect; one that places nothing is acknowledged at once. The peer has had
the NACK of what lies 256 packets back (log 81, DESIGN CHOICE). -/
def State.nextM (s : State) (k : Nat) (p : Lft) (ref : Nat) : Option State :=
  (s.effect p ref).map fun s =>
    let c := s.rx k
    let next := (c.expect + 1) % 2 ^ 32
    let s := s.setRx k { c with expect := next, ahead := tdel c.ahead c.expect, used := s.linkTick (keyPeer k),
                                bad := c.bad.filter fun q => (next + 2 ^ 32 - q) % 2 ^ 32 ≤ 256 }
    if (s.link.placingOn k).contains p.seq || (s.rx k).bad.contains p.seq then s else s.ackM k

/-- The packets held ahead that are now in sequence, on fuel. -/
def State.drainRx (k : Nat) : Nat → State → State
  | 0, s => s
  | n + 1, s =>
    match tget (s.rx k).ahead (s.rx k).expect with
    | none => s
    | some (p, ref) =>
      match s.nextM k p ref with
      | none => s
      | some s' => State.drainRx k n s'

/-- A Class M packet (R368 step 3, R370): in sequence, up to 256 ahead and held, or a duplicate, which is dropped and
answered again. One of a connection that no set-up exchange has opened here has no effect (R362; log 82, DEDUCED). -/
def State.takeM (s : State) (p : Lft) (ref : Nat) : Option State :=
  let k := rxKey p
  (tget s.link.rxConns k).bind fun c =>
    let d := (p.seq + 2 ^ 32 - c.expect) % 2 ^ 32
    if d = 0 then (s.nextM k p ref).map (State.drainRx k 256)
    else if d ≤ 256 then
      some (if (tget c.ahead p.seq).isSome then s else s.setRx k { c with ahead := tput c.ahead p.seq (p, ref) })
    else if 2 ^ 31 ≤ d then
      some (if (s.link.placingOn k).contains p.seq then s else if c.bad.contains p.seq then s.nack p 1 else s.ackM k)
    else some s

/-- A packet of an operation at bridge b. -/
def evLft (op b : Nat) (frame : List Byte) (ref : Nat) (s : State) : Option State :=
  if 4 ≤ b then none
  else
    match s.frameIn op frame with
    | .other => none
    | .dropped s => some s
    | .packet p s => if p.cls = 0 then s.effect p ref else s.takeM p ref

/-- LFT_WRITE (R363). -/
def execLftWrite (b : Nat) (frame : List Byte) (s : State) : Out := .next ((evLft 0 b frame 0 s).getD s)

/-- LFT_READ_REQUEST (R363). -/
def execLftReadRequest (b : Nat) (frame : List Byte) (s : State) : Out := .next ((evLft 1 b frame 0 s).getD s)

/-- LFT_READ_REPLY (R368): ref is the outstanding read that it answers. -/
def execLftReadReply (b : Nat) (frame : List Byte) (ref : Nat) (s : State) : Out := .next ((evLft 2 b frame ref s).getD s)

/-- LFT_POSTED_ATOMIC (R363). -/
def execLftPostedAtomic (b : Nat) (frame : List Byte) (s : State) : Out := .next ((evLft 3 b frame 0 s).getD s)

/-- LFT_RETURNING_ATOMIC (R363). -/
def execLftReturningAtomic (b : Nat) (frame : List Byte) (s : State) : Out := .next ((evLft 4 b frame 0 s).getD s)

/-- LFT_ATOMIC_REPLY (R365): ref as for a read reply. -/
def execLftAtomicReply (b : Nat) (frame : List Byte) (ref : Nat) (s : State) : Out := .next ((evLft 5 b frame ref s).getD s)

/-- LFT_TRIGGER (R368). -/
def execLftTrigger (b : Nat) (frame : List Byte) (s : State) : Out := .next ((evLft 6 b frame 0 s).getD s)

/-! ### Acknowledgements and set-up (R362, R368) -/

/-- A control packet of an operation at bridge b: its connection is named by partition and peer. -/
def controlEvent (op b : Nat) (frame : List Byte) (k : Nat → Lft → State → State) (s : State) : Option State :=
  if 4 ≤ b then none
  else
    match s.frameIn op frame with
    | .other => none
    | .dropped s => some s
    | .packet p s => some (k (rxKey p) p s)

/-- Whether a sequence is at or below another. -/
def seqLe (a b : Nat) : Bool := decide ((b + 2 ^ 32 - a) % 2 ^ 32 < 2 ^ 31)

/-- An ack (R368): of a Class S message, which ends its record and acks its bytes; of a connection's packets, cumulative
with a bitmap. -/
def State.takeAck (key : Nat) (p : Lft) (s : State) : State :=
  let (isS, upto, more) := Config.ackInfo p.payload
  if isS then
    match s.liveMsg key upto with
    | some w => (s.owe w (if w.op = 0 then w.len else 0)).endWork w 1
    | none => s
  else
    let c := s.conn key
    let (acked, left) := c.flight.partition fun x => seqLe x.p.seq upto || more.contains x.p.seq
    let s := if (tget s.link.conns key).isSome then s.modConn key fun c => { c with flight := left, used := s.linkTick (keyPeer key) } else s
    (acked.foldl (fun s x => s.orgAcked (keyPeer key) x) s).pump key

/-- LFT_ACK (R368). -/
def execLftAck (b : Nat) (frame : List Byte) (s : State) : Out := .next ((controlEvent 7 b frame State.takeAck s).getD s)

/-- One packet of a connection resent, on a free path. -/
def State.resendOne (key : Nat) (s : State) (x : LSent) : State :=
  let (v, s) := s.free
  let (p, s) := s.emit v x.p
  let now := s.linkTick (keyPeer key)
  s.modConn key fun c => { c with flight := c.flight.map fun y =>
    if y.p.seq = x.p.seq then { x with p := p, at_ := now, resends := x.resends + 1 } else y }

/-- Packets of a connection resent; after 16 resends of one the connection is broken (R368 step 3). -/
def State.resendM (s : State) (key : Nat) (l : List LSent) : State :=
  if l.any fun x => 16 ≤ x.resends then s.breakConn key else l.foldl (State.resendOne key) s

/-- A NACK (R368, R370): a bitmap asks for packets again; refused and stale end the record, or refuse the access. One of
a message that no longer lives is ignored. -/
def State.takeNack (key : Nat) (p : Lft) (s : State) : State :=
  let (isS, code, id, asked) := Config.nackInfo p.payload
  if isS then
    match s.liveMsg key id with
    | none => s
    | some w => if code = 0 then s.resendS w fun x => asked.contains x.p.pkt else s.endWork w 2
  else
    let c := s.conn key
    if code = 0 then s.resendM key (c.flight.filter fun x => asked.contains x.p.seq)
    else
      match takeFirst (fun x : LSent => x.p.seq == id) c.flight with
      | none => s
      | some (x, rest) =>
        ((s.modConn key fun c => { c with flight := rest }).orgFails (keyPeer key) 2 x.org).pump key

/-- LFT_NACK (R368). -/
def execLftNack (b : Nat) (frame : List Byte) (s : State) : Out := .next ((controlEvent 8 b frame State.takeNack s).getD s)

/-- A set-up packet (R362): the peer's difference; a request is answered, an answer opens the connection (log 82, DEDUCED). -/
def State.takeSetup (key : Nat) (p : Lft) (s : State) : State :=
  let (answers, opens, t) := Config.setupInfo p.payload
  let peer := keyPeer key
  let s := s.modLink fun L => { L with diffs := tput L.diffs peer ((s.linkTick peer + 2 ^ 16 - t % 2 ^ 16) % 2 ^ 16) }
  if answers then
    if (tget s.link.conns key).isSome then (s.modConn key fun c => { c with up := true, setup := none }).pump key else s
  else
    let known := (tget s.link.rxConns key).isSome
    if opens && !known && !s.link.room then s
    else
      let s := if opens then (if known then s else s.modLink Link.makeRoom).setRx key { RxConn.fresh with used := s.linkTick peer } else s
      s.sendControl key 9 (Config.setupBytes true opens (s.linkTick peer))

/-- LFT_SETUP (R362). -/
def execLftSetup (b : Nat) (frame : List Byte) (s : State) : Out := .next ((controlEvent 9 b frame State.takeSetup s).getD s)

/-! ### Time (R362, R368) -/

/-- A gap open for 16 ticks: a bitmap NACK, and the next one 16 ticks on. -/
def evGap (key : Nat) (s : State) : Option State :=
  (tget s.link.rxMsgs key).bind fun m =>
    m.gap.bind fun t0 =>
      let peer := key / 2 ^ 32 % 2 ^ 18
      let now := s.linkTick peer
      if now < t0 + 16 || m.released then none
      else
        let missing := (List.range (m.got.foldl max 0)).filter fun j => !m.got.contains j
        let s := s.sendControl (linkKey (key / 2 ^ 50) peer) 8 (Config.nackBytes true 0 (key % 2 ^ 32) missing)
        some (s.modLink fun L => { L with rxMsgs := tput L.rxMsgs key { m with gap := some now } })

/-- CLASS_S_GAP_TIMEOUT (R368): the message's key. -/
def execClassSGapTimeout (key : Nat) (s : State) : Out := .next ((evGap key s).getD s)

/-- 256 ticks without progress of a Class S message. -/
def evProgress (q serial : Nat) (s : State) : Option State :=
  (s.link.works.find? fun w => w.q == q && w.serial == serial && w.running && w.status.isNone && !w.flight.isEmpty).bind fun w =>
    if !w.running || w.status.isSome || w.flight.isEmpty || s.linkTick w.dest < w.progress + 256 then none
    else some (s.resendS w fun _ => true)

/-- CLASS_S_PROGRESS_TIMEOUT (R368). -/
def execClassSProgressTimeout (q serial : Nat) (s : State) : Out := .next ((evProgress q serial s).getD s)

/-- Packets of a connection without an ack for 128 ticks; a set-up packet without an answer goes again likewise. -/
def evResend (key : Nat) (s : State) : Option State :=
  (tget s.link.conns key).bind fun c =>
    let now := s.linkTick (keyPeer key)
    let due (x : LSent) : Bool := decide (x.at_ + 128 ≤ now)
    match c.setup with
    | some x =>
      if !due x then none
      else if 16 ≤ x.resends then some (s.breakConn key)
      else some (s.sendSetup key (x.resends + 1))
    | none =>
      match c.flight.filter due with
      | [] => none
      | l => some (s.resendM key l)

/-- CLASS_M_RESEND_TIMEOUT (R368): the connection's key. -/
def execClassMResendTimeout (key : Nat) (s : State) : Out := .next ((evResend key s).getD s)

/-- The set-up exchange repeated every 2^20 ticks, or made once the identifier is set (R361, R362). -/
def evRefresh (key : Nat) (s : State) : Option State :=
  (tget s.link.conns key).bind fun c =>
    let due := match c.setAt with
      | none => true
      | some t => decide (t + 2 ^ 20 ≤ s.linkTick (keyPeer key))
    if due && s.link.endpoint.isSome && c.setup.isNone then some (s.sendSetup key 0) else none

/-- CONNECTION_SETUP_REFRESH (R362): the connection's key. -/
def execConnectionSetupRefresh (key : Nat) (s : State) : Out := .next ((evRefresh key s).getD s)

end Sys2Proof.Machine
end

