-- ==== Sys2Proof/Machine/Dispatch.lean ====
section
/-! DEFINITION. The meaning of every instruction and event: one arm for each constructor of Instr. -/
namespace Sys2Proof.Machine

open Sys2Proof in noncomputable
def exec (i : Instr) (s : State) : Host.Outcome State Fault Refusal :=
  match i with
  | .lb rd rs1 imm => Sys2Proof.Machine.execLb rd rs1 imm s
  | .lh rd rs1 imm => Sys2Proof.Machine.execLh rd rs1 imm s
  | .lw rd rs1 imm => Sys2Proof.Machine.execLw rd rs1 imm s
  | .ld rd rs1 imm => Sys2Proof.Machine.execLd rd rs1 imm s
  | .lbu rd rs1 imm => Sys2Proof.Machine.execLbu rd rs1 imm s
  | .lhu rd rs1 imm => Sys2Proof.Machine.execLhu rd rs1 imm s
  | .lwu rd rs1 imm => Sys2Proof.Machine.execLwu rd rs1 imm s
  | .sb rs1 rs2 imm => Sys2Proof.Machine.execSb rs1 rs2 imm s
  | .sh rs1 rs2 imm => Sys2Proof.Machine.execSh rs1 rs2 imm s
  | .sw rs1 rs2 imm => Sys2Proof.Machine.execSw rs1 rs2 imm s
  | .sd rs1 rs2 imm => Sys2Proof.Machine.execSd rs1 rs2 imm s
  | .addi rd rs1 imm => Sys2Proof.Machine.execAddi rd rs1 imm s
  | .slti rd rs1 imm => Sys2Proof.Machine.execSlti rd rs1 imm s
  | .sltiu rd rs1 imm => Sys2Proof.Machine.execSltiu rd rs1 imm s
  | .xori rd rs1 imm => Sys2Proof.Machine.execXori rd rs1 imm s
  | .ori rd rs1 imm => Sys2Proof.Machine.execOri rd rs1 imm s
  | .andi rd rs1 imm => Sys2Proof.Machine.execAndi rd rs1 imm s
  | .slli rd rs1 shamt => Sys2Proof.Machine.execSlli rd rs1 shamt s
  | .srli rd rs1 shamt => Sys2Proof.Machine.execSrli rd rs1 shamt s
  | .srai rd rs1 shamt => Sys2Proof.Machine.execSrai rd rs1 shamt s
  | .clz rd rs1 => Sys2Proof.Machine.execClz rd rs1 s
  | .ctz rd rs1 => Sys2Proof.Machine.execCtz rd rs1 s
  | .cpop rd rs1 => Sys2Proof.Machine.execCpop rd rs1 s
  | .rev8 rd rs1 => Sys2Proof.Machine.execRev8 rd rs1 s
  | .addiw rd rs1 imm => Sys2Proof.Machine.execAddiw rd rs1 imm s
  | .slliw rd rs1 shamt => Sys2Proof.Machine.execSlliw rd rs1 shamt s
  | .srliw rd rs1 shamt => Sys2Proof.Machine.execSrliw rd rs1 shamt s
  | .sraiw rd rs1 shamt => Sys2Proof.Machine.execSraiw rd rs1 shamt s
  | .add rd rs1 rs2 => Sys2Proof.Machine.execAdd rd rs1 rs2 s
  | .sll rd rs1 rs2 => Sys2Proof.Machine.execSll rd rs1 rs2 s
  | .slt rd rs1 rs2 => Sys2Proof.Machine.execSlt rd rs1 rs2 s
  | .sltu rd rs1 rs2 => Sys2Proof.Machine.execSltu rd rs1 rs2 s
  | .xor rd rs1 rs2 => Sys2Proof.Machine.execXor rd rs1 rs2 s
  | .srl rd rs1 rs2 => Sys2Proof.Machine.execSrl rd rs1 rs2 s
  | .or rd rs1 rs2 => Sys2Proof.Machine.execOr rd rs1 rs2 s
  | .and rd rs1 rs2 => Sys2Proof.Machine.execAnd rd rs1 rs2 s
  | .sub rd rs1 rs2 => Sys2Proof.Machine.execSub rd rs1 rs2 s
  | .sra rd rs1 rs2 => Sys2Proof.Machine.execSra rd rs1 rs2 s
  | .mul rd rs1 rs2 => Sys2Proof.Machine.execMul rd rs1 rs2 s
  | .mulh rd rs1 rs2 => Sys2Proof.Machine.execMulh rd rs1 rs2 s
  | .mulhsu rd rs1 rs2 => Sys2Proof.Machine.execMulhsu rd rs1 rs2 s
  | .mulhu rd rs1 rs2 => Sys2Proof.Machine.execMulhu rd rs1 rs2 s
  | .div rd rs1 rs2 => Sys2Proof.Machine.execDiv rd rs1 rs2 s
  | .divu rd rs1 rs2 => Sys2Proof.Machine.execDivu rd rs1 rs2 s
  | .rem rd rs1 rs2 => Sys2Proof.Machine.execRem rd rs1 rs2 s
  | .remu rd rs1 rs2 => Sys2Proof.Machine.execRemu rd rs1 rs2 s
  | .sh1add rd rs1 rs2 => Sys2Proof.Machine.execSh1add rd rs1 rs2 s
  | .sh2add rd rs1 rs2 => Sys2Proof.Machine.execSh2add rd rs1 rs2 s
  | .sh3add rd rs1 rs2 => Sys2Proof.Machine.execSh3add rd rs1 rs2 s
  | .min rd rs1 rs2 => Sys2Proof.Machine.execMin rd rs1 rs2 s
  | .minu rd rs1 rs2 => Sys2Proof.Machine.execMinu rd rs1 rs2 s
  | .max rd rs1 rs2 => Sys2Proof.Machine.execMax rd rs1 rs2 s
  | .maxu rd rs1 rs2 => Sys2Proof.Machine.execMaxu rd rs1 rs2 s
  | .addw rd rs1 rs2 => Sys2Proof.Machine.execAddw rd rs1 rs2 s
  | .sllw rd rs1 rs2 => Sys2Proof.Machine.execSllw rd rs1 rs2 s
  | .srlw rd rs1 rs2 => Sys2Proof.Machine.execSrlw rd rs1 rs2 s
  | .subw rd rs1 rs2 => Sys2Proof.Machine.execSubw rd rs1 rs2 s
  | .sraw rd rs1 rs2 => Sys2Proof.Machine.execSraw rd rs1 rs2 s
  | .mulw rd rs1 rs2 => Sys2Proof.Machine.execMulw rd rs1 rs2 s
  | .divw rd rs1 rs2 => Sys2Proof.Machine.execDivw rd rs1 rs2 s
  | .divuw rd rs1 rs2 => Sys2Proof.Machine.execDivuw rd rs1 rs2 s
  | .remw rd rs1 rs2 => Sys2Proof.Machine.execRemw rd rs1 rs2 s
  | .remuw rd rs1 rs2 => Sys2Proof.Machine.execRemuw rd rs1 rs2 s
  | .beq rs1 rs2 off => Sys2Proof.Machine.execBeq rs1 rs2 off s
  | .bne rs1 rs2 off => Sys2Proof.Machine.execBne rs1 rs2 off s
  | .blt rs1 rs2 off => Sys2Proof.Machine.execBlt rs1 rs2 off s
  | .bge rs1 rs2 off => Sys2Proof.Machine.execBge rs1 rs2 off s
  | .bltu rs1 rs2 off => Sys2Proof.Machine.execBltu rs1 rs2 off s
  | .bgeu rs1 rs2 off => Sys2Proof.Machine.execBgeu rs1 rs2 off s
  | .jal rd off => Sys2Proof.Machine.execJal rd off s
  | .jalr rd rs1 imm => Sys2Proof.Machine.execJalr rd rs1 imm s
  | .lui rd imm => Sys2Proof.Machine.execLui rd imm s
  | .auipc rd imm => Sys2Proof.Machine.execAuipc rd imm s
  | .fence fm pred succ rs1 rd => Sys2Proof.Machine.execFence fm pred succ rs1 rd s
  | .fenceI => Sys2Proof.Machine.execFenceI s
  | .ecall => Sys2Proof.Machine.execEcall s
  | .ebreak => Sys2Proof.Machine.execEbreak s
  | .sret => Sys2Proof.Machine.execSret s
  | .mret => Sys2Proof.Machine.execMret s
  | .wfi => Sys2Proof.Machine.execWfi s
  | .sfenceVma rs1 rs2 => Sys2Proof.Machine.execSfenceVma rs1 rs2 s
  | .csrrw rd csr rs1 => Sys2Proof.Machine.execCsrrw rd csr rs1 s
  | .csrrs rd csr rs1 => Sys2Proof.Machine.execCsrrs rd csr rs1 s
  | .csrrc rd csr rs1 => Sys2Proof.Machine.execCsrrc rd csr rs1 s
  | .csrrwi rd csr uimm => Sys2Proof.Machine.execCsrrwi rd csr uimm s
  | .csrrsi rd csr uimm => Sys2Proof.Machine.execCsrrsi rd csr uimm s
  | .csrrci rd csr uimm => Sys2Proof.Machine.execCsrrci rd csr uimm s
  | .flw fd rs1 imm => Sys2Proof.Machine.execFlw fd rs1 imm s
  | .fld fd rs1 imm => Sys2Proof.Machine.execFld fd rs1 imm s
  | .fsw rs1 fs2 imm => Sys2Proof.Machine.execFsw rs1 fs2 imm s
  | .fsd rs1 fs2 imm => Sys2Proof.Machine.execFsd rs1 fs2 imm s
  | .fmaddS fd fs1 fs2 fs3 rm => Sys2Proof.Machine.execFmaddS fd fs1 fs2 fs3 rm s
  | .fmaddD fd fs1 fs2 fs3 rm => Sys2Proof.Machine.execFmaddD fd fs1 fs2 fs3 rm s
  | .fmsubS fd fs1 fs2 fs3 rm => Sys2Proof.Machine.execFmsubS fd fs1 fs2 fs3 rm s
  | .fmsubD fd fs1 fs2 fs3 rm => Sys2Proof.Machine.execFmsubD fd fs1 fs2 fs3 rm s
  | .fnmsubS fd fs1 fs2 fs3 rm => Sys2Proof.Machine.execFnmsubS fd fs1 fs2 fs3 rm s
  | .fnmsubD fd fs1 fs2 fs3 rm => Sys2Proof.Machine.execFnmsubD fd fs1 fs2 fs3 rm s
  | .fnmaddS fd fs1 fs2 fs3 rm => Sys2Proof.Machine.execFnmaddS fd fs1 fs2 fs3 rm s
  | .fnmaddD fd fs1 fs2 fs3 rm => Sys2Proof.Machine.execFnmaddD fd fs1 fs2 fs3 rm s
  | .faddS fd fs1 fs2 rm => Sys2Proof.Machine.execFaddS fd fs1 fs2 rm s
  | .faddD fd fs1 fs2 rm => Sys2Proof.Machine.execFaddD fd fs1 fs2 rm s
  | .fsubS fd fs1 fs2 rm => Sys2Proof.Machine.execFsubS fd fs1 fs2 rm s
  | .fsubD fd fs1 fs2 rm => Sys2Proof.Machine.execFsubD fd fs1 fs2 rm s
  | .fmulS fd fs1 fs2 rm => Sys2Proof.Machine.execFmulS fd fs1 fs2 rm s
  | .fmulD fd fs1 fs2 rm => Sys2Proof.Machine.execFmulD fd fs1 fs2 rm s
  | .fdivS fd fs1 fs2 rm => Sys2Proof.Machine.execFdivS fd fs1 fs2 rm s
  | .fdivD fd fs1 fs2 rm => Sys2Proof.Machine.execFdivD fd fs1 fs2 rm s
  | .fsqrtS fd fs1 rm => Sys2Proof.Machine.execFsqrtS fd fs1 rm s
  | .fsqrtD fd fs1 rm => Sys2Proof.Machine.execFsqrtD fd fs1 rm s
  | .fsgnjS fd fs1 fs2 => Sys2Proof.Machine.execFsgnjS fd fs1 fs2 s
  | .fsgnjD fd fs1 fs2 => Sys2Proof.Machine.execFsgnjD fd fs1 fs2 s
  | .fsgnjnS fd fs1 fs2 => Sys2Proof.Machine.execFsgnjnS fd fs1 fs2 s
  | .fsgnjnD fd fs1 fs2 => Sys2Proof.Machine.execFsgnjnD fd fs1 fs2 s
  | .fsgnjxS fd fs1 fs2 => Sys2Proof.Machine.execFsgnjxS fd fs1 fs2 s
  | .fsgnjxD fd fs1 fs2 => Sys2Proof.Machine.execFsgnjxD fd fs1 fs2 s
  | .fminS fd fs1 fs2 => Sys2Proof.Machine.execFminS fd fs1 fs2 s
  | .fminD fd fs1 fs2 => Sys2Proof.Machine.execFminD fd fs1 fs2 s
  | .fmaxS fd fs1 fs2 => Sys2Proof.Machine.execFmaxS fd fs1 fs2 s
  | .fmaxD fd fs1 fs2 => Sys2Proof.Machine.execFmaxD fd fs1 fs2 s
  | .fleS rd fs1 fs2 => Sys2Proof.Machine.execFleS rd fs1 fs2 s
  | .fleD rd fs1 fs2 => Sys2Proof.Machine.execFleD rd fs1 fs2 s
  | .fltS rd fs1 fs2 => Sys2Proof.Machine.execFltS rd fs1 fs2 s
  | .fltD rd fs1 fs2 => Sys2Proof.Machine.execFltD rd fs1 fs2 s
  | .feqS rd fs1 fs2 => Sys2Proof.Machine.execFeqS rd fs1 fs2 s
  | .feqD rd fs1 fs2 => Sys2Proof.Machine.execFeqD rd fs1 fs2 s
  | .fcvtSD fd fs1 rm => Sys2Proof.Machine.execFcvtSD fd fs1 rm s
  | .fcvtDS fd fs1 rm => Sys2Proof.Machine.execFcvtDS fd fs1 rm s
  | .fcvtSH fd fs1 rm => Sys2Proof.Machine.execFcvtSH fd fs1 rm s
  | .fcvtSBf fd fs1 rm => Sys2Proof.Machine.execFcvtSBf fd fs1 rm s
  | .fcvtSE4 fd fs1 rm => Sys2Proof.Machine.execFcvtSE4 fd fs1 rm s
  | .fcvtSE5 fd fs1 rm => Sys2Proof.Machine.execFcvtSE5 fd fs1 rm s
  | .fcvtDH fd fs1 rm => Sys2Proof.Machine.execFcvtDH fd fs1 rm s
  | .fcvtDBf fd fs1 rm => Sys2Proof.Machine.execFcvtDBf fd fs1 rm s
  | .fcvtDE4 fd fs1 rm => Sys2Proof.Machine.execFcvtDE4 fd fs1 rm s
  | .fcvtDE5 fd fs1 rm => Sys2Proof.Machine.execFcvtDE5 fd fs1 rm s
  | .fcvtHS fd fs1 rm sat => Sys2Proof.Machine.execFcvtHS fd fs1 rm sat s
  | .fcvtHD fd fs1 rm sat => Sys2Proof.Machine.execFcvtHD fd fs1 rm sat s
  | .fcvtBfS fd fs1 rm sat => Sys2Proof.Machine.execFcvtBfS fd fs1 rm sat s
  | .fcvtBfD fd fs1 rm sat => Sys2Proof.Machine.execFcvtBfD fd fs1 rm sat s
  | .fcvtE4S fd fs1 rm sat => Sys2Proof.Machine.execFcvtE4S fd fs1 rm sat s
  | .fcvtE4D fd fs1 rm sat => Sys2Proof.Machine.execFcvtE4D fd fs1 rm sat s
  | .fcvtE5S fd fs1 rm sat => Sys2Proof.Machine.execFcvtE5S fd fs1 rm sat s
  | .fcvtE5D fd fs1 rm sat => Sys2Proof.Machine.execFcvtE5D fd fs1 rm sat s
  | .fcvtWS rd fs1 rm sat => Sys2Proof.Machine.execFcvtWS rd fs1 rm sat s
  | .fcvtWuS rd fs1 rm sat => Sys2Proof.Machine.execFcvtWuS rd fs1 rm sat s
  | .fcvtLS rd fs1 rm sat => Sys2Proof.Machine.execFcvtLS rd fs1 rm sat s
  | .fcvtLuS rd fs1 rm sat => Sys2Proof.Machine.execFcvtLuS rd fs1 rm sat s
  | .fcvtWD rd fs1 rm sat => Sys2Proof.Machine.execFcvtWD rd fs1 rm sat s
  | .fcvtWuD rd fs1 rm sat => Sys2Proof.Machine.execFcvtWuD rd fs1 rm sat s
  | .fcvtLD rd fs1 rm sat => Sys2Proof.Machine.execFcvtLD rd fs1 rm sat s
  | .fcvtLuD rd fs1 rm sat => Sys2Proof.Machine.execFcvtLuD rd fs1 rm sat s
  | .fcvtSW fd rs1 rm => Sys2Proof.Machine.execFcvtSW fd rs1 rm s
  | .fcvtSWu fd rs1 rm => Sys2Proof.Machine.execFcvtSWu fd rs1 rm s
  | .fcvtSL fd rs1 rm => Sys2Proof.Machine.execFcvtSL fd rs1 rm s
  | .fcvtSLu fd rs1 rm => Sys2Proof.Machine.execFcvtSLu fd rs1 rm s
  | .fcvtDW fd rs1 rm => Sys2Proof.Machine.execFcvtDW fd rs1 rm s
  | .fcvtDWu fd rs1 rm => Sys2Proof.Machine.execFcvtDWu fd rs1 rm s
  | .fcvtDL fd rs1 rm => Sys2Proof.Machine.execFcvtDL fd rs1 rm s
  | .fcvtDLu fd rs1 rm => Sys2Proof.Machine.execFcvtDLu fd rs1 rm s
  | .fmvXW rd fs1 => Sys2Proof.Machine.execFmvXW rd fs1 s
  | .fmvXD rd fs1 => Sys2Proof.Machine.execFmvXD rd fs1 s
  | .fclassS rd fs1 => Sys2Proof.Machine.execFclassS rd fs1 s
  | .fclassD rd fs1 => Sys2Proof.Machine.execFclassD rd fs1 s
  | .fmvWX fd rs1 => Sys2Proof.Machine.execFmvWX fd rs1 s
  | .fmvDX fd rs1 => Sys2Proof.Machine.execFmvDX fd rs1 s
  | .frecipS fd fs1 rm => Sys2Proof.Machine.execFrecipS fd fs1 rm s
  | .frecipD fd fs1 rm => Sys2Proof.Machine.execFrecipD fd fs1 rm s
  | .frecipH fd fs1 rm => Sys2Proof.Machine.execFrecipH fd fs1 rm s
  | .frecipBf fd fs1 rm => Sys2Proof.Machine.execFrecipBf fd fs1 rm s
  | .frsqrtS fd fs1 rm => Sys2Proof.Machine.execFrsqrtS fd fs1 rm s
  | .frsqrtD fd fs1 rm => Sys2Proof.Machine.execFrsqrtD fd fs1 rm s
  | .frsqrtH fd fs1 rm => Sys2Proof.Machine.execFrsqrtH fd fs1 rm s
  | .frsqrtBf fd fs1 rm => Sys2Proof.Machine.execFrsqrtBf fd fs1 rm s
  | .lbW rd rs1 rs2 wt => Sys2Proof.Machine.execLbW rd rs1 rs2 wt s
  | .lhW rd rs1 rs2 wt => Sys2Proof.Machine.execLhW rd rs1 rs2 wt s
  | .lwW rd rs1 rs2 wt => Sys2Proof.Machine.execLwW rd rs1 rs2 wt s
  | .ldW rd rs1 rs2 wt => Sys2Proof.Machine.execLdW rd rs1 rs2 wt s
  | .lbuW rd rs1 rs2 wt => Sys2Proof.Machine.execLbuW rd rs1 rs2 wt s
  | .lhuW rd rs1 rs2 wt => Sys2Proof.Machine.execLhuW rd rs1 rs2 wt s
  | .lwuW rd rs1 rs2 wt => Sys2Proof.Machine.execLwuW rd rs1 rs2 wt s
  | .sbW rd rs1 rs2 wt => Sys2Proof.Machine.execSbW rd rs1 rs2 wt s
  | .shW rd rs1 rs2 wt => Sys2Proof.Machine.execShW rd rs1 rs2 wt s
  | .swW rd rs1 rs2 wt => Sys2Proof.Machine.execSwW rd rs1 rs2 wt s
  | .sdW rd rs1 rs2 wt => Sys2Proof.Machine.execSdW rd rs1 rs2 wt s
  | .ldrem rd rs1 wt => Sys2Proof.Machine.execLdrem rd rs1 wt s
  | .migrate rs1 => Sys2Proof.Machine.execMigrate rs1 s
  | .home rd rs1 => Sys2Proof.Machine.execHome rd rs1 s
  | .padd rd rs1 rs2 => Sys2Proof.Machine.execPadd rd rs1 rs2 s
  | .wjoin rd rs1 rs2 => Sys2Proof.Machine.execWjoin rd rs1 rs2 s
  | .wwait rs1 => Sys2Proof.Machine.execWwait rs1 s
  | .wtest rd rs1 => Sys2Proof.Machine.execWtest rd rs1 s
  | .wself rd => Sys2Proof.Machine.execWself rd s
  | .wcoarsen rd rs1 => Sys2Proof.Machine.execWcoarsen rd rs1 s
  | .pfence wt => Sys2Proof.Machine.execPfence wt s
  | .aaddP rd rs1 rs2 wt => Sys2Proof.Machine.execAaddP rd rs1 rs2 wt s
  | .aandP rd rs1 rs2 wt => Sys2Proof.Machine.execAandP rd rs1 rs2 wt s
  | .aorP rd rs1 rs2 wt => Sys2Proof.Machine.execAorP rd rs1 rs2 wt s
  | .axorP rd rs1 rs2 wt => Sys2Proof.Machine.execAxorP rd rs1 rs2 wt s
  | .aminP rd rs1 rs2 wt => Sys2Proof.Machine.execAminP rd rs1 rs2 wt s
  | .amaxP rd rs1 rs2 wt => Sys2Proof.Machine.execAmaxP rd rs1 rs2 wt s
  | .aminuP rd rs1 rs2 wt => Sys2Proof.Machine.execAminuP rd rs1 rs2 wt s
  | .amaxuP rd rs1 rs2 wt => Sys2Proof.Machine.execAmaxuP rd rs1 rs2 wt s
  | .afaddP rd rs1 rs2 wt => Sys2Proof.Machine.execAfaddP rd rs1 rs2 wt s
  | .aadd rd rs1 rs2 wt => Sys2Proof.Machine.execAadd rd rs1 rs2 wt s
  | .aswap rd rs1 rs2 wt => Sys2Proof.Machine.execAswap rd rs1 rs2 wt s
  | .acas rd rs1 rs2 wt => Sys2Proof.Machine.execAcas rd rs1 rs2 wt s
  | .tdec rd rs1 wt => Sys2Proof.Machine.execTdec rd rs1 wt s
  | .spawn rs1 rs2 => Sys2Proof.Machine.execSpawn rs1 rs2 s
  | .join rs1 => Sys2Proof.Machine.execJoin rs1 s
  | .exit rs1 => Sys2Proof.Machine.execExit rs1 s
  | .yield => Sys2Proof.Machine.execYield s
  | .tstart rd rs1 rs2 => Sys2Proof.Machine.execTstart rd rs1 rs2 s
  | .treap rd rs1 => Sys2Proof.Machine.execTreap rd rs1 s
  | .tkill rs1 => Sys2Proof.Machine.execTkill rs1 s
  | .tarm rs1 rs2 => Sys2Proof.Machine.execTarm rs1 rs2 s
  | .pin => Sys2Proof.Machine.execPin s
  | .unpin => Sys2Proof.Machine.execUnpin s
  | .gtopo rd uimm => Sys2Proof.Machine.execGtopo rd uimm s
  | .irqsend rs1 rs2 => Sys2Proof.Machine.execIrqsend rs1 rs2 s
  | .uiret => Sys2Proof.Machine.execUiret s
  | .tracemark rs1 uimm => Sys2Proof.Machine.execTracemark rs1 uimm s
  | .ctxread rd rs1 uimm => Sys2Proof.Machine.execCtxread rd rs1 uimm s
  | .ctxwrite rs1 rs2 uimm => Sys2Proof.Machine.execCtxwrite rs1 rs2 uimm s
  | .preempt => Sys2Proof.Machine.execPreempt s
  | .resume rs1 => Sys2Proof.Machine.execResume rs1 s
  | .gcreate rd rs1 => Sys2Proof.Machine.execGcreate rd rs1 s
  | .gjoin rs1 => Sys2Proof.Machine.execGjoin rs1 s
  | .gleave rs1 => Sys2Proof.Machine.execGleave rs1 s
  | .gsync rs1 => Sys2Proof.Machine.execGsync rs1 s
  | .gcount rd rs1 => Sys2Proof.Machine.execGcount rd rs1 s
  | .gdissolve rs1 => Sys2Proof.Machine.execGdissolve rs1 s
  | .binit rs1 rs2 => Sys2Proof.Machine.execBinit rs1 rs2 s
  | .barrive rd rs1 => Sys2Proof.Machine.execBarrive rd rs1 s
  | .bwait rs1 rs2 => Sys2Proof.Machine.execBwait rs1 rs2 s
  | .btest rd rs1 rs2 => Sys2Proof.Machine.execBtest rd rs1 rs2 s
  | .bexpect rs1 rs2 => Sys2Proof.Machine.execBexpect rs1 rs2 s
  | .bcomplete rs1 rs2 => Sys2Proof.Machine.execBcomplete rs1 rs2 s
  | .bretire rs1 => Sys2Proof.Machine.execBretire rs1 s
  | .gang rs1 rs2 => Sys2Proof.Machine.execGang rs1 rs2 s
  | .bget rd bn => Sys2Proof.Machine.execBget rd bn s
  | .bput rs1 bn => Sys2Proof.Machine.execBput rs1 bn s
  | .furrow rs1 rs2 => Sys2Proof.Machine.execFurrow rs1 rs2 s
  | .unfurrow => Sys2Proof.Machine.execUnfurrow s
  | .vfadd fd fs1 fs2 et => Sys2Proof.Machine.execVfadd fd fs1 fs2 et s
  | .vfsub fd fs1 fs2 et => Sys2Proof.Machine.execVfsub fd fs1 fs2 et s
  | .vfmul fd fs1 fs2 et => Sys2Proof.Machine.execVfmul fd fs1 fs2 et s
  | .vfma fd fs1 fs2 et => Sys2Proof.Machine.execVfma fd fs1 fs2 et s
  | .vfmin fd fs1 fs2 et => Sys2Proof.Machine.execVfmin fd fs1 fs2 et s
  | .vfmax fd fs1 fs2 et => Sys2Proof.Machine.execVfmax fd fs1 fs2 et s
  | .vfdiv fd fs1 fs2 et => Sys2Proof.Machine.execVfdiv fd fs1 fs2 et s
  | .vfsqrt fd fs1 et => Sys2Proof.Machine.execVfsqrt fd fs1 et s
  | .vcvt fd fs1 fs2 et => Sys2Proof.Machine.execVcvt fd fs1 fs2 et s
  | .vfill fd fs1 et => Sys2Proof.Machine.execVfill fd fs1 et s
  | .vmov fd fs1 et => Sys2Proof.Machine.execVmov fd fs1 et s
  | .vaxpy fd fs1 fs2 et => Sys2Proof.Machine.execVaxpy fd fs1 fs2 et s
  | .vscal fd fs1 et => Sys2Proof.Machine.execVscal fd fs1 et s
  | .vdot fd fs1 fs2 et => Sys2Proof.Machine.execVdot fd fs1 fs2 et s
  | .vsum fd fs1 et => Sys2Proof.Machine.execVsum fd fs1 et s
  | .vmaxr fd fs1 et => Sys2Proof.Machine.execVmaxr fd fs1 et s
  | .viadd fd fs1 fs2 et => Sys2Proof.Machine.execViadd fd fs1 fs2 et s
  | .vgather fd fs1 fs2 et => Sys2Proof.Machine.execVgather fd fs1 fs2 et s
  | .scfg fd rs1 => Sys2Proof.Machine.execScfg fd rs1 s
  | .sen fd rs1 => Sys2Proof.Machine.execSen fd rs1 s
  | .spos rd fs1 => Sys2Proof.Machine.execSpos rd fs1 s
  | .vwait => Sys2Proof.Machine.execVwait s
  | .vstat rd => Sys2Proof.Machine.execVstat rd s
  | .mxop rd rs1 => Sys2Proof.Machine.execMxop rd rs1 s
  | .mxg rd rs1 => Sys2Proof.Machine.execMxg rd rs1 s
  | .mxstat rd rs1 => Sys2Proof.Machine.execMxstat rd rs1 s
  | .mxcancel rs1 => Sys2Proof.Machine.execMxcancel rs1 s
  | .cpyq rd => Sys2Proof.Machine.execCpyq rd s
  | .cpyqNb rd => Sys2Proof.Machine.execCpyqNb rd s
  | .cwptr rd rs1 => Sys2Proof.Machine.execCwptr rd rs1 s
  | .cwait rs1 => Sys2Proof.Machine.execCwait rs1 s
  | .lpost rd rs1 rs2 => Sys2Proof.Machine.execLpost rd rs1 rs2 s
  | .larm rd rs1 rs2 => Sys2Proof.Machine.execLarm rd rs1 rs2 s
  | .lcnt rd rs1 => Sys2Proof.Machine.execLcnt rd rs1 s
  | .kappend rd rs1 => Sys2Proof.Machine.execKappend rd rs1 s
  | .qwake rs1 rs2 => Sys2Proof.Machine.execQwake rs1 rs2 s
  | .hld rd rs1 => Sys2Proof.Machine.execHld rd rs1 s
  | .hst rs1 rs2 => Sys2Proof.Machine.execHst rs1 rs2 s
  | .hnarrow rd rs1 rs2 => Sys2Proof.Machine.execHnarrow rd rs1 rs2 s
  | .hdrop rd rs1 rs2 => Sys2Proof.Machine.execHdrop rd rs1 rs2 s
  | .hseek rd rs1 rs2 => Sys2Proof.Machine.execHseek rd rs1 rs2 s
  | .hlock rd rs1 uimm => Sys2Proof.Machine.execHlock rd rs1 uimm s
  | .hopen rd rs1 uimm => Sys2Proof.Machine.execHopen rd rs1 uimm s
  | .hinfo rd rs1 uimm => Sys2Proof.Machine.execHinfo rd rs1 uimm s
  | .hmint rd rs1 rs2 => Sys2Proof.Machine.execHmint rd rs1 rs2 s
  | .moduleReset fw failed => Sys2Proof.Machine.execModuleReset fw failed s
  | .selfTestEnd t pass => Sys2Proof.Machine.execSelfTestEnd t pass s
  | .startEdge f => Sys2Proof.Machine.execStartEdge f s
  | .tickEdge f => Sys2Proof.Machine.execTickEdge f s
  | .gridWireDisagree f w => Sys2Proof.Machine.execGridWireDisagree f w s
  | .fieldGridLoss f => Sys2Proof.Machine.execFieldGridLoss f s
  | .coreAliveLoss t => Sys2Proof.Machine.execCoreAliveLoss t s
  | .suspectReport t n => Sys2Proof.Machine.execSuspectReport t n s
  | .suspectVote m => Sys2Proof.Machine.execSuspectVote m s
  | .suspectWindowExpiry n => Sys2Proof.Machine.execSuspectWindowExpiry n s
  | .standInAdoption k => Sys2Proof.Machine.execStandInAdoption k s
  | .evacuationRange t ok => Sys2Proof.Machine.execEvacuationRange t ok s
  | .mapEntryUpdate m => Sys2Proof.Machine.execMapEntryUpdate m s
  | .ownerMovedNotice m => Sys2Proof.Machine.execOwnerMovedNotice m s
  | .drainWatchdog t idx => Sys2Proof.Machine.execDrainWatchdog t idx s
  | .lowerOperatingPoint ix => Sys2Proof.Machine.execLowerOperatingPoint ix s
  | .junctionOvertemp => Sys2Proof.Machine.execJunctionOvertemp s
  | .latencyPageRefresh p => Sys2Proof.Machine.execLatencyPageRefresh p s
  | .sample t => Sys2Proof.Machine.execSample t s
  | .slotAssign t c => Sys2Proof.Machine.execSlotAssign t c s
  | .departure t c => Sys2Proof.Machine.execDeparture t c s
  | .migrationArrival m => Sys2Proof.Machine.execMigrationArrival m s
  | .acceptanceNotice m => Sys2Proof.Machine.execAcceptanceNotice m s
  | .refusalNotice m => Sys2Proof.Machine.execRefusalNotice m s
  | .backoffExpiry t c => Sys2Proof.Machine.execBackoffExpiry t c s
  | .arrivalCheck t c => Sys2Proof.Machine.execArrivalCheck t c s
  | .proxyRequest m => Sys2Proof.Machine.execProxyRequest m s
  | .proxyReply m => Sys2Proof.Machine.execProxyReply m s
  | .postedStoreArrival m => Sys2Proof.Machine.execPostedStoreArrival m s
  | .settlementNotice m => Sys2Proof.Machine.execSettlementNotice m s
  | .refusalEntryFill m => Sys2Proof.Machine.execRefusalEntryFill m s
  | .refusalAckArrival m => Sys2Proof.Machine.execRefusalAckArrival m s
  | .refusalAckAnswer m => Sys2Proof.Machine.execRefusalAckAnswer m s
  | .heldAccessPerform t => Sys2Proof.Machine.execHeldAccessPerform t s
  | .cacheFill t => Sys2Proof.Machine.execCacheFill t s
  | .walkComplete f ix => Sys2Proof.Machine.execWalkComplete f ix s
  | .waitProbe m => Sys2Proof.Machine.execWaitProbe m s
  | .testProbe m => Sys2Proof.Machine.execTestProbe m s
  | .waitProbeAnswer t => Sys2Proof.Machine.execWaitProbeAnswer t s
  | .probeAnswer m => Sys2Proof.Machine.execProbeAnswer m s
  | .divideResult t c => Sys2Proof.Machine.execDivideResult t c s
  | .fdivFsqrtResult t c => Sys2Proof.Machine.execFdivFsqrtResult t c s
  | .hostReadReply t c w => Sys2Proof.Machine.execHostReadReply t c w s
  | .hostWriteCompletion ix => Sys2Proof.Machine.execHostWriteCompletion ix s
  | .frameExitArrival m => Sys2Proof.Machine.execFrameExitArrival m s
  | .tdecArrival m => Sys2Proof.Machine.execTdecArrival m s
  | .dequeResume t => Sys2Proof.Machine.execDequeResume t s
  | .stealRound t => Sys2Proof.Machine.execStealRound t s
  | .stealRequest m => Sys2Proof.Machine.execStealRequest m s
  | .stealAnswer m => Sys2Proof.Machine.execStealAnswer m s
  | .stealRetryExpiry t => Sys2Proof.Machine.execStealRetryExpiry t s
  | .groupRequest m => Sys2Proof.Machine.execGroupRequest m s
  | .barrierRequest m => Sys2Proof.Machine.execBarrierRequest m s
  | .engineDecrement t => Sys2Proof.Machine.execEngineDecrement t s
  | .gangFormed t => Sys2Proof.Machine.execGangFormed t s
  | .gangWireArrival t => Sys2Proof.Machine.execGangWireArrival t s
  | .mxeWinSatisfied t ix => Sys2Proof.Machine.execMxeWinSatisfied t ix s
  | .mxeSelect t => Sys2Proof.Machine.execMxeSelect t s
  | .mxeKstepBoundary t => Sys2Proof.Machine.execMxeKstepBoundary t s
  | .gangOpStart t => Sys2Proof.Machine.execGangOpStart t s
  | .mxeBlockWritten t => Sys2Proof.Machine.execMxeBlockWritten t s
  | .mxeOpEnd t => Sys2Proof.Machine.execMxeOpEnd t s
  | .mxstatResult t c => Sys2Proof.Machine.execMxstatResult t c s
  | .channelStart t => Sys2Proof.Machine.execChannelStart t s
  | .channelWinSatisfied t ix => Sys2Proof.Machine.execChannelWinSatisfied t ix s
  | .channelWrite t ix host => Sys2Proof.Machine.execChannelWrite t ix host s
  | .copyCompletionInterrupt t c => Sys2Proof.Machine.execCopyCompletionInterrupt t c s
  | .streamElementFetch t c r => Sys2Proof.Machine.execStreamElementFetch t c r s
  | .streamOutputPerform t c r => Sys2Proof.Machine.execStreamOutputPerform t c r s
  | .vectorCommandComplete t c => Sys2Proof.Machine.execVectorCommandComplete t c s
  | .furrowWordTransfer t => Sys2Proof.Machine.execFurrowWordTransfer t s
  | .kappendArrival m => Sys2Proof.Machine.execKappendArrival m s
  | .kappendReply m => Sys2Proof.Machine.execKappendReply m s
  | .windowDecode p => Sys2Proof.Machine.execWindowDecode p s
  | .windowIssue p => Sys2Proof.Machine.execWindowIssue p s
  | .report m => Sys2Proof.Machine.execReport m s
  | .windowRetire p => Sys2Proof.Machine.execWindowRetire p s
  | .windowFault p => Sys2Proof.Machine.execWindowFault p s
  | .squashNotice m => Sys2Proof.Machine.execSquashNotice m s
  | .windowKindComplete p k => Sys2Proof.Machine.execWindowKindComplete p k s
  | .kbindWrite p k => Sys2Proof.Machine.execKbindWrite p k s
  | .ksignalWrite p => Sys2Proof.Machine.execKsignalWrite p s
  | .kwaitRead p k w => Sys2Proof.Machine.execKwaitRead p k w s
  | .kfenceComplete p k => Sys2Proof.Machine.execKfenceComplete p k s
  | .wakeWrite port off bytes => Sys2Proof.Machine.execWakeWrite port off bytes s
  | .qwakeArrival m => Sys2Proof.Machine.execQwakeArrival m s
  | .doorbellStore ix => Sys2Proof.Machine.execDoorbellStore ix s
  | .doorbellInterrupt ix => Sys2Proof.Machine.execDoorbellInterrupt ix s
  | .eventMsix ix => Sys2Proof.Machine.execEventMsix ix s
  | .lftWrite b frame => Sys2Proof.Machine.execLftWrite b frame s
  | .lftReadRequest b frame => Sys2Proof.Machine.execLftReadRequest b frame s
  | .lftReadReply b frame ref => Sys2Proof.Machine.execLftReadReply b frame ref s
  | .lftPostedAtomic b frame => Sys2Proof.Machine.execLftPostedAtomic b frame s
  | .lftReturningAtomic b frame => Sys2Proof.Machine.execLftReturningAtomic b frame s
  | .lftAtomicReply b frame ref => Sys2Proof.Machine.execLftAtomicReply b frame ref s
  | .lftTrigger b frame => Sys2Proof.Machine.execLftTrigger b frame s
  | .lftAck b frame => Sys2Proof.Machine.execLftAck b frame s
  | .lftNack b frame => Sys2Proof.Machine.execLftNack b frame s
  | .lftSetup b frame => Sys2Proof.Machine.execLftSetup b frame s
  | .classSGapTimeout key => Sys2Proof.Machine.execClassSGapTimeout key s
  | .classSProgressTimeout q serial => Sys2Proof.Machine.execClassSProgressTimeout q serial s
  | .classMResendTimeout key => Sys2Proof.Machine.execClassMResendTimeout key s
  | .connectionSetupRefresh key => Sys2Proof.Machine.execConnectionSetupRefresh key s
  | .linkRecordFire q => Sys2Proof.Machine.execLinkRecordFire q s
  | .linkBridgeRequest m => Sys2Proof.Machine.execLinkBridgeRequest m s
  | .linkBridgeReply m => Sys2Proof.Machine.execLinkBridgeReply m s
  | .hostMemWrite port addr bytes => Sys2Proof.Machine.execHostMemWrite port addr bytes s
  | .hostMemRead port addr n => Sys2Proof.Machine.execHostMemRead port addr n s
  | .registerWrite x off bytes => Sys2Proof.Machine.execRegisterWrite x off bytes s
  | .form x => Sys2Proof.Machine.execForm x s
  | .dissolve x => Sys2Proof.Machine.execDissolve x s
  | .load x host => Sys2Proof.Machine.execLoad x host s
  | .qcreate x => Sys2Proof.Machine.execQcreate x s
  | .qreset x => Sys2Proof.Machine.execQreset x s
  | .qrevoke x => Sys2Proof.Machine.execQrevoke x s
  | .readmit x => Sys2Proof.Machine.execReadmit x s
  | .observeSamplePeriod x => Sys2Proof.Machine.execObserveSamplePeriod x s
  | .observeBreakpoint x => Sys2Proof.Machine.execObserveBreakpoint x s
  | .observeWatchpoint x => Sys2Proof.Machine.execObserveWatchpoint x s
  | .endpoint x => Sys2Proof.Machine.execEndpoint x s
  | .route x => Sys2Proof.Machine.execRoute x s
  | .attest x => Sys2Proof.Machine.execAttest x s
  | .keyinstall x => Sys2Proof.Machine.execKeyinstall x s
  | .svccap x => Sys2Proof.Machine.execSvccap x s
  | .keyremove x => Sys2Proof.Machine.execKeyremove x s
  | .unpoison x => Sys2Proof.Machine.execUnpoison x s
  | .admitRange x => Sys2Proof.Machine.execAdmit x s
  | .tilequery x => Sys2Proof.Machine.execTilequery x s
  | .irqMessageArrival m => Sys2Proof.Machine.execIrqMessageArrival m s
  | .interruptTake t => Sys2Proof.Machine.execInterruptTake t s
  | .wfiWake t => Sys2Proof.Machine.execWfiWake t s
  | .faultRecordArrival m => Sys2Proof.Machine.execFaultRecordArrival m s
  | .traceRecordArrival m => Sys2Proof.Machine.execTraceRecordArrival m s
  | .sfenceSelection m => Sys2Proof.Machine.execSfenceSelection m s
  | .sfenceAck m => Sys2Proof.Machine.execSfenceAck m s
  | .mipWrite t w => Sys2Proof.Machine.execMipWrite t w s
  | .satpWrite t w => Sys2Proof.Machine.execSatpWrite t w s
  | .arrcfgWrite t w => Sys2Proof.Machine.execArrcfgWrite t w s
  | .fcsrAccess t c w => Sys2Proof.Machine.execFcsrAccess t c w s
  | .illegalInstruction w => Sys2Proof.Machine.execIllegalInstruction w s
  | .tileSupplyLoss t => Sys2Proof.Machine.execTileSupplyLoss t s
  | .uncorrectableError t spad off => Sys2Proof.Machine.execUncorrectableError t spad off s
  | .cxlSnoop port => Sys2Proof.Machine.execCxlSnoop port s

end Sys2Proof.Machine
end

