-- ==== Sys2Proof/Machine/Fetch.lean ====
section
/-! DEFINITION. A turn before its instruction: what is delivered or taken between instructions, the reasons a turn is
forfeited, and the fetch (04_context.md R82, 05_scalar.md R100, R101, R121, R124, 13_channel.md R259, 16_queue.md R313,
18_fault.md R327, R339). -/
namespace Sys2Proof.Machine

/-- What a fetch gives: the instruction's word, or a state in which the turn is over: a fault taken, or a fill or
translation under way. -/
inductive Fetched where
  | word (w : Word32) (s : State)
  | none (s : State)

/-- The word at a place of a line of 64 bytes. -/
def lineWord (b : List Byte) (off : Nat) : Word32 := BitVec.ofNat 32 (leNat ((b.drop (off % 64)).take 4))

/-- An instruction access or page fault: the value is the PC (18_fault.md R327). -/
def State.fetchFault (s : State) (cause : Nat) : Fetched := .none (s.trap cause s.cur.th.pc)

/-- The word at an offset of the tile's own DRAM: of the slot's prefetched line, or of a line of the home cache, which
becomes the prefetched one (log 18, DEDUCED); a missing line replays (R101). A marked range is an instruction access fault (log 86, DEDUCED). -/
def State.fetchOff (s : State) (off : Nat) : Fetched :=
  let t := s.curTile
  let l := lineOf off
  let fromCache : Fetched :=
    if s.poison t off != 0 then s.fetchFault 1
    else
      match s.atHome t off (.slot s.curSlot) with
      | .held s => .none (s.park (.held off))
      | .wait => .none s.forfeit
      | .go s =>
        if s.curT.lines.contains l then
          let b := s.rdMem (dramKey t (l * 64)) 64
          .word (lineWord b off) (s.modCur fun c => { c with pref := some (l, b) })
        else .none (s.replay fun s => s.startFill off)
  match s.cur.pref with
  | some (k, b) => if k = l then .word (lineWord b off) s else fromCache
  | none => fromCache

/-- The fetch at a tile's PC (R100). -/
def State.fetchTile (s : State) : Fetched :=
  let pc := s.cur.th.pc
  if ptrSpace pc != 0 then s.fetchFault 1
  else
    match s.xlatMode true with
    | none => if 2 ^ 33 ≤ ptrAddr pc then s.fetchFault 1 else s.fetchOff (ptrAddr pc)
    | some _ =>
      match s.xlat akFetch pc with
      | .ok (.dram _ off _ _) => (s.touchTlb false (ptrAddr pc)).fetchOff off
      | .ok _ => s.fetchFault 1
      | .accessFault => s.fetchFault 1
      | .pageFault => s.fetchFault 12
      | .miss host a => .none (s.replay fun s => s.startXlat host a)

/-- The fetch of a mill core through its fetch capability (R313): outside it the capability fault with check 3 or 5; the
fault names no register, so that part of its value is open (log 2, DESIGN CHOICE). -/
def State.fetchMill (s : State) (k : Nat) : Fetched :=
  let a := fld s.cur.th.pc 47 0
  let go (b : List Byte) : Fetched := .word (lineWord b 0) s
  match capCheck (s.mill k).fetch true [4] a 4 with
  | some check =>
    let (v, s) := s.free
    .none (s.trap 52 (BitVec.ofNat 64 ((if check = 3 then 3 else 5) * 256 + v % 32)))
  | none =>
    if 2 ^ 45 ≤ a then go (s.rdMem (sramKey (a - 2 ^ 45)) 4)
    else
      match s.homeOf (a / 2 ^ 33) with
      | none => s.fetchFault 1
      | some t =>
        match s.atHome t (a % 2 ^ 33) (.mill k) with
        | .held s => .none (s.park (.range (a / 2 ^ 33) (a % 2 ^ 33)))
        | .wait => .none s.forfeit
        | .go s =>
          if s.poison t (a % 2 ^ 33) != 0 then s.fetchFault 1
          else .word (lineWord (s.rdMem (dramKey t (a % 2 ^ 33)) 4) 0) s

def State.fetch (s : State) : Fetched :=
  match s.focus with
  | .tile _ => s.fetchTile
  | .mill k => s.fetchMill k

/-- What happens between instructions, before a turn's fetch: a completion interrupt of a copy transfer (R259), and slot
0's interrupts (R121); a mill core's own units answer (log 33, DEDUCED). -/
def State.between (s : State) : State :=
  match s.focus with
  | .tile t =>
    let c := s.curSlot
    let s := (evCopyIrq t c s).getD s
    if c = 0 then (takeIrq t s).getD s else s
  | .mill k =>
    let s := (s.recordCapFault k).millResults k
    (takeIrqOf (.mill k) s).getD s

/-- Whether the slot whose turn it is tries to issue (R82, R88): ready, or parked for a wait that is over, with no own store of
the context held (07_witness.md R143); while slot 0 stands in PREEMPT no light slot does (R339) (log 64, DEDUCED). -/
def State.mayIssue (s : State) : Bool :=
  let c := s.cur
  let here := match s.focus with
    | .tile t => (s.tile t).coreAlive && !(s.field (fieldOf t)).stopped &&
        (s.curSlot == 0 || ((s.tile t).slot 0).stage != .preempt) && !(s.tile t).ownHeld c.th.gtid
    | .mill _ => true
  here && !c.killed && s.stateOf s.focus s.curSlot == .ready

/-- A turn up to its instruction. -/
def State.beginTurn (s : State) (a : Agent) : Fetched :=
  let s := State.between { s with focus := a }
  if s.mayIssue then s.fetch else .none s

/-- The instruction a word stands for: a word that is none is the illegal-instruction event (03_encoding.md R74). -/
noncomputable def instrOf (w : Word32) : Instr :=
  match decode w with
  | .ok i => i
  | .reject _ => .illegalInstruction w

/-! ### After a turn (R82) -/

/-- The cycles to the next occupied slot's turn; 16 when no other is occupied. -/
def Tile.stride (T : Tile) : Nat :=
  (((List.range 16).find? fun k => (T.slot ((T.cycles + k + 1) % 16)).st != .free).getD 15) + 1

/-- Whether an agent has anything that its turns or cycles serve. -/
def Tile.busy (T : Tile) : Bool :=
  (T.slots.toList.any fun c => c.st != .free) || T.steal != .idle || T.mxRun.isSome || !T.copyRun.isEmpty
/-- Reading: log 87, DEDUCED. -/
def MillCore.busy (K : MillCore) : Bool := K.ctx.st != .free

/-- The busy tile whose cycle count is least. -/
def State.slowest (s : State) : Option (Nat × Nat) :=
  s.tiles.foldl (fun b q =>
    if q.2.busy && (match b with
      | some (_, n) => decide (q.2.cycles < n)
      | none => true) then some (q.1, q.2.cycles) else b) none

/-- The busy mill core from number k on. -/
def State.millFrom (s : State) (k : Nat) : Option Nat := (s.mills.find? fun q => k ≤ q.1 && q.2.busy).map (·.1)

/-- Whose turn is next: a busy mill core after each tile's turn, then the tile that is behind (log 1, DESIGN CHOICE). -/
def State.nextAgent (s : State) (a : Agent) : Agent :=
  let tile : Agent := match s.slowest with
    | some (t, _) => .tile t
    | none => match s.millFrom 0 with
      | some k => .mill k
      | none => a
  match s.millFrom (match a with
    | .tile _ => 0
    | .mill k => k + 1) with
  | some k => .mill k
  | none => tile

/-- A turn is over: the barrel goes on, the next agent has the focus, and a tile that was idle catches up (log 1, DESIGN CHOICE). -/
def State.endTurn (s : State) (a : Agent) : State :=
  let s := match a with
    | .tile t =>
      let n := (s.tile t).cycles + (s.tile t).stride
      State.modTile { s with clock := max s.clock n } t fun T => { T with cycles := n }
    | .mill _ => s
  let b := s.nextAgent a
  let s := { s with focus := b }
  match a, b with
  | .tile t, .tile u =>
    if t = u then s
    else
      let n := (s.tile t).cycles
      s.modTile u fun T => if T.cycles + 32 < n then { T with cycles := n - 16 } else T
  | _, _ => s

/-! ### Placing a word (log 30, DESIGN CHOICE) -/

/-- Slot 0 of tile 0 made ready in M mode, its core alive and its turn the next, and n bytes of w stored at its PC in a
line that the home cache holds. -/
def State.placeWord (s : State) (n w : Nat) : State :=
  let ready (c : Ctx) : Ctx := { c with st := .ready, stage := .none, killed := false, pref := none }
  let s : State := { s with focus := .tile 0, agenda := .turn (.tile 0) :: s.agenda }
  let s := s.modTile 0 fun T => { T.setSlot 0 (ready (T.slot 0)) with
    coreAlive := true, cycles := (T.cycles + 15) / 16 * 16, priv := { T.priv with mode := .m },
    lines := lineOf (ptrAddr (T.slot 0).th.pc) :: T.lines.filter (· != lineOf (ptrAddr (T.slot 0).th.pc)) }
  s.wrMem (dramKey 0 (ptrAddr ((s.tile 0).slot 0).th.pc)) (leBytes n w)

end Sys2Proof.Machine
end

