-- ==== Sys2Proof/Machine/Schedule.lean ====
section
/-! DEFINITION. What a step does when the agenda names nothing: the first event that can happen now, in a fixed order, or
the turn of the agent in focus (log 1, DESIGN CHOICE). Events that bring data or decisions from outside the module are never chosen
here: they stand on the agenda (log 29, DESIGN CHOICE). -/
namespace Sys2Proof.Machine

/-- An event and whether it can happen now. -/
abbrev Offer := Instr × Bool

/-! ### Boot and time (22_host.md R392, 19_tile.md R354, R355) -/

/-- The module's first reset: nominal, every self-test passing (log 30, DESIGN CHOICE). -/
noncomputable def bootOffers (s : State) : List Offer :=
  if s.mill0.resets = 0 then [(.moduleReset true [], true)]
  else
    ((List.range 64).map fun f => (.startEdge f, (evStart f s).isSome)) ++
    ((s.tiles.map (·.1) ++ if s.mill0.ready then [] else allTiles).map fun t =>
      (.selfTestEnd t true, (s.tile t).life == .testing && (s.tile t).before != .fallow && (evSelfTest t true s).isSome))

/-- Some agent has turns to take. -/
def State.anyBusy (s : State) : Bool := s.slowest.isSome || (s.millFrom 0).isSome

/-- The tick edges that are due: by the tile that is ahead, or at once when no agent has a turn to take. -/
noncomputable def tickOffers (s : State) : List Offer :=
  let idle := !s.anyBusy
  s.fields.map fun (f, F) => (.tickEdge f, s.edgeDue f && (decide (tickCycles * (F.tick + 1) ≤ s.clock) || idle))

/-- What follows from an edge of the mill's field (R356): the latency pages every 2^20 ticks. -/
noncomputable def State.afterEdge (i : Instr) (s : State) : List Next :=
  match i with
  | .tickEdge f =>
    if f = fieldOf (bridgeTile 0) && ((s.field f).tick + 1) % 2 ^ 20 = 0 then s.parts.map fun q => .event (.latencyPageRefresh q.1)
    else []
  | _ => []

/-! ### Messages -/

/-- The event that takes a request of a kind of access. -/
noncomputable def requestOffer (s : State) (m : Nat) (op : ProxOp) : Offer :=
  if op.isGroup then (.groupRequest m, (evRequest ProxOp.isGroup m s).isSome)
  else if op.isBarrier then (.barrierRequest m, (evRequest ProxOp.isBarrier m s).isSome)
  else (.proxyRequest m, (evRequest (fun o => !o.isGroup && !o.isBarrier) m s).isSome)

/-- The event a message's arrival is, and whether it can arrive now. -/
noncomputable def msgOffer (s : State) (g : Msg) : Offer :=
  let m := g.id
  match g.body with
  | .migrate _ _ _ _ => (.migrationArrival m, (evArrival m s).isSome)
  | .notice _ true => (.acceptanceNotice m, (evAccepted m s).isSome)
  | .notice _ false => (.refusalNotice m, (evRefused m s).isSome)
  | .ownerMoved _ _ _ => (.ownerMovedNotice m, (evOwnerMoved m s).isSome)
  | .mapEntry _ _ _ => (.mapEntryUpdate m, (evMapEntry m s).isSome)
  | .proxyReq r => requestOffer s m r.op
  | .proxyRep _ _ _ => (.proxyReply m, (evProxyReply m s).isSome)
  | .posted p =>
    if p.op.isTdec then (.tdecArrival m, (evPosted PostOp.isTdec m s).isSome)
    else if p.op.isExit then (.frameExitArrival m, (evPosted PostOp.isExit m s).isSome)
    else (.postedStoreArrival m, (evPosted (fun o => !o.isTdec && !o.isExit) m s).isSome)
  | .settled _ _ _ => (.settlementNotice m, (evSettled m s).isSome)
  | .refusal _ _ _ _ _ _ _ => (.refusalEntryFill m, (evRefusal m s).isSome)
  | .refAck _ _ _ => (.refusalAckArrival m, (evRefAck m s).isSome)
  | .refAckAns _ _ => (.refusalAckAnswer m, (evRefAckAns m s).isSome)
  | .probe _ _ true => (.waitProbe m, (evWaitProbe m s).isSome)
  | .probe _ _ false => (.testProbe m, (evTestProbe m s).isSome)
  | .probeAns _ _ => (.probeAnswer m, (evProbeAnswer m s).isSome)
  | .irq _ _ => (.irqMessageArrival m, (evIrq m s).isSome)
  | .faultRec _ _ => (.faultRecordArrival m, (evFaultRecord m s).isSome)
  | .traceRec _ _ _ => (.traceRecordArrival m, (evTraceRecord m s).isSome)
  | .sfence _ _ _ _ => (.sfenceSelection m, (evSfence m s).isSome)
  | .sfenceDrain _ _ _ _ _ _ _ => (.sfenceSelection m, (evSfence m s).isSome)
  | .sfenceAck _ _ => (.sfenceAck m, (evSfenceAck m s).isSome)
  | .peerReq _ _ _ _ => (.linkBridgeRequest m, (evLinkRequest m s).isSome)
  | .peerPost _ _ _ _ _ => (.linkBridgeRequest m, (evLinkRequest m s).isSome)
  | .kappend _ _ _ _ words =>
    if krKind words = 0x40 && !words.isEmpty then (.report m, (evReport m s).isSome) else (.kappendArrival m, (evAppend m s).isSome)
  | .kreply _ _ => (.kappendReply m, (evReply m s).isSome)
  | .qwake _ _ _ => (.qwakeArrival m, (evQwake m s).isSome)
  | .linkReq _ _ _ _ _ _ => (.linkBridgeRequest m, (evLinkRequest m s).isSome)
  | .linkRep _ _ => (.linkBridgeReply m, (evLinkReply m s).isSome)
  | .suspect _ _ => (.suspectVote m, (evVote m s).isSome)
  | .squash _ _ => (.squashNotice m, (evSquash m s).isSome)
  | .stealReq _ => (.stealRequest m, (evStealReq m s).isSome)
  | .stealAns _ => (.stealAnswer m, (evStealAns m s).isSome)

/-- A message's arrival once its least time is over; at once when no agent has a turn to take. -/
noncomputable def arrivalOffer (s : State) (g : Msg) : Offer :=
  let o := msgOffer s g
  (o.1, o.2 && (!s.anyBusy || match s.latency g with
    | some n => decide (g.sent + n ≤ s.clock)
    | none => false))

/-! ### Tiles -/

/-- The events of a slot. -/
noncomputable def slotOffers (s : State) (t c : Nat) : List Offer :=
  let own : List Offer :=
    [(.divideResult t c, (evDivide t c s).isSome), (.fdivFsqrtResult t c, (evFdiv t c s).isSome),
     (.slotAssign t c, (evAssign t c s).isSome), (.departure t c, (evDeparture t c s).isSome),
     (.backoffExpiry t c, (evBackoff t c s).isSome), (.arrivalCheck t c, (evArrivalCheck t c s).isSome),
     (.mxstatResult t c, (evMxstat t c s).isSome), (.vectorCommandComplete t c, (evVector t c s).isSome)]
  let stream (r : Nat) : List Offer :=
    [(.streamElementFetch t c r, (evFetch t c r s).isSome), (.streamOutputPerform t c r, (evOutput t c r s).isSome)]
  own ++ [4, 5, 6, 7].flatMap stream

/-- A request that waits in an owner's buffer (04_context.md R94). -/
noncomputable def bufferOffer (s : State) (b : Buffered) : Offer := requestOffer s b.id b.req.op

/-- The transfer whose next write needs bytes from host memory waits for them. -/
def Xfer.fromHost (x : Xfer) : Bool := ptrSpace x.src == 2

/-- The events of a tile beside its slots'. -/
noncomputable def unitOffers (s : State) (t : Nat) : List Offer :=
  let T := s.tile t
  let own : List Offer :=
    [(.wfiWake t, (wakeWfi t s).isSome), (.cacheFill t, (evFill t s).isSome), (.heldAccessPerform t, (evHeld t s).isSome),
     (.waitProbeAnswer t, (evProbeHeld t s).isSome), (.engineDecrement t, (evDecrement t s).isSome),
     (.gangWireArrival t, (evWire t s).isSome), (.gangFormed t, (evGangForm t s).isSome), (.mxeSelect t, (evMxSelect t s).isSome),
     (.gangOpStart t, (evGangStart t s).isSome), (.mxeKstepBoundary t, (evMxStep t s).isSome),
     (.mxeBlockWritten t, (evMxBlock t s).isSome), (.mxeOpEnd t, (evMxEnd t s).isSome), (.channelStart t, (evChanStart t s).isSome),
     (.furrowWordTransfer t, (evFurrow t s).isSome), (.dequeResume t, (evDeque t s).isSome), (.stealRound t, (evSteal t s).isSome),
     (.stealRetryExpiry t, (evStealRetry t s).isSome), (.sample t, (evSample t s).isSome),
     (.evacuationRange t true, (evEvacuate t true s).isSome)]
  let mxWin (i : Nat) : Offer := (.mxeWinSatisfied t i, (evMxWin t i s).isSome)
  let chanWin (i : Nat) : Offer := (.channelWinSatisfied t i, (evChanWin t i s).isSome)
  let chanWrite (q : Nat × Xfer) : Offer := (.channelWrite t q.1 [], !q.2.fromHost && (evChanWrite t q.1 [] s).isSome)
  let watchdog (e : JEntry) : Offer := (.drainWatchdog t e.idx, (evWatchdog t e.idx s).isSome)
  let suspect (n : Nat) : Offer := (.suspectReport t n, (evReportSuspect t n s).isSome)
  own ++ T.proxyBuf.map (bufferOffer s) ++ (List.range T.mxQueue.length).map mxWin ++ (List.range T.copyRun.length).map chanWin ++
    ((List.range T.copyRun.length).zip T.copyRun).map chanWrite ++ T.journal.map watchdog ++ (links t).map suspect

noncomputable def tileOffers (s : State) (t : Nat) : List Offer :=
  unitOffers s t ++ (List.range 16).flatMap (slotOffers s t)

/-! ### The mill, the windows, the bridges -/

noncomputable def fieldOffers (s : State) (f : Nat) : List Offer :=
  (List.range (s.field f).walks.length).map fun i => (.walkComplete f i, (evWalk f i s).isSome)

/-- The command in a mailbox; a LOAD whose container lies in host memory waits for it. -/
noncomputable def boxOffers (s : State) (x : Nat) : List Offer :=
  let m := s.box x
  if m.busy = 0 then []
  else
    let r := m.request
    match r.code with
    | 0x01 => [(.form x, true)]
    | 0x02 => [(.dissolve x, true)]
    | 0x03 => [(.load x [], ptrSpace (r.dw 1) != 2 && (evLoad x [] s).isSome)]
    | 0x04 => [(.qcreate x, true)]
    | 0x05 => [(.qreset x, true)]
    | 0x06 => [(.qrevoke x, true)]
    | 0x07 => [(.readmit x, true)]
    | 0x08 => match fld (r.dw 0) 9 8 with
      | 1 => [(.observeBreakpoint x, true)]
      | 2 => [(.observeWatchpoint x, true)]
      | _ => [(.observeSamplePeriod x, true)]
    | 0x09 => [(.endpoint x, true)]
    | 0x0A => [(.route x, true)]
    | 0x0B => [(.attest x, true)]
    | 0x0C => [(.keyinstall x, true)]
    | 0x0D => [(.svccap x, true)]
    | 0x0E => [(.keyremove x, true)]
    | 0x0F => [(.unpoison x, !s.unpoisonWaits x)]
    | 0x10 => [(.admitRange x, true)]
    | 0x11 => [(.tilequery x, true)]
    | _ => []

/-- A doorbell of a kind whose store is over. -/
def State.bellOver (s : State) (i kind : Nat) : Bool :=
  match s.bells[i]? with
  | some b => b.kind == kind && (b.ticket.bind s.ticketDone).isSome
  | none => false

noncomputable def bellOffers (s : State) (i : Nat) : List Offer :=
  [(.doorbellStore i, (evBell i s).isSome), (.doorbellInterrupt i, s.bellOver i 1), (.eventMsix i, s.bellOver i 3)]

/-- The events of a partition's window; a KWAIT on host memory waits for what the host brings. -/
noncomputable def windowOffers (s : State) (p : Nat) (P : Part) : List Offer :=
  let own : List Offer :=
    [(.windowFault p, (evFault p s).isSome), (.windowRetire p, (evRetire p s).isSome), (.ksignalWrite p, (evKsignal p s).isSome),
     (.windowDecode p, (evDecode p s).isSome), (.windowIssue p, (evIssue p s).isSome)]
  let entry (q : Nat × WEntry) : List Offer :=
    [(.windowKindComplete p q.1, (evKind p q.1 s).isSome), (.kbindWrite p q.1, (evKbind p q.1 s).isSome),
     (.kfenceComplete p q.1, (evKfence p q.1 s).isSome),
     (.kwaitRead p q.1 0, ptrSpace (krRegBase q.2.words 0) != 2 && (evKwait p q.1 0 s).isSome)]
  own ++ ((List.range P.win.entries.length).zip P.win.entries).flatMap entry

noncomputable def linkOffers (s : State) : List Offer :=
  let L := s.link
  let placed (i : Nat) : Offer := (.engineDecrement (1024 + i), (evPlaced i s).isSome)
  let fire (w : Work) : Offer := (.linkRecordFire w.q, (evFire w.q s).isSome)
  let progress (w : Work) : Offer := (.classSProgressTimeout w.q w.serial, (evProgress w.q w.serial s).isSome)
  let gap (q : Nat × RxMsg) : Offer := (.classSGapTimeout q.1, (evGap q.1 s).isSome)
  let resend (q : Nat × Conn) : Offer := (.classMResendTimeout q.1, (evResend q.1 s).isSome)
  let refresh (q : Nat × Conn) : Offer := (.connectionSetupRefresh q.1, (evRefresh q.1 s).isSome)
  (List.range L.placing.length).map placed ++ L.works.map fire ++ L.works.map progress ++ L.rxMsgs.map gap ++
    L.conns.map resend ++ L.conns.map refresh

/-- What the mill does about tiles, and the host port's completions. -/
noncomputable def millOffers (s : State) : List Offer :=
  let expiry (n : Nat) : Offer := (.suspectWindowExpiry n, decide (n < 1024) && (evExpiry n s).isSome)
  let adoption (k : Nat) : Offer := (.standInAdoption k, (evStandAdopt k s).isSome)
  let host : List Offer := if s.hostWrites.isEmpty then [] else [(.hostWriteCompletion 0, true)]
  (s.suspects.map fun q => expiry q.1) ++ (s.lost.map fun q => adoption q.1) ++ host

/-- Every event that may happen now, in the order in which the step looks at them. -/
noncomputable def offers (s : State) : List Offer :=
  bootOffers s ++ tickOffers s ++ s.net.map (arrivalOffer s) ++ (s.tiles.flatMap fun q => tileOffers s q.1) ++
  (s.fields.flatMap fun q => fieldOffers s q.1) ++ ([0, 1, 2].flatMap (boxOffers s)) ++
  ((List.range s.bells.length).flatMap (bellOffers s)) ++ (s.parts.flatMap fun q => windowOffers s q.1 q.2) ++
  linkOffers s ++ millOffers s

/-- The first event that can happen. -/
noncomputable def State.nextEvent (s : State) : Option Instr := ((offers s).find? (·.2)).map (·.1)

/-- Every field of the wafer has been stopped by heat (22_host.md R395). -/
def State.allStopped (s : State) : Bool := (List.range 64).all fun f => (s.field f).stopped

/-- The events that do not need the clocks of a field: those of the mill, of its connectors and of the power supply, which go on
while every field is stopped (22_host.md R395). -/
def offWafer : Instr → Bool
  | .moduleReset _ _ | .selfTestEnd _ _ | .lowerOperatingPoint _ | .junctionOvertemp | .tileSupplyLoss _ | .uncorrectableError _ _ _
  | .coreAliveLoss _ | .gridWireDisagree _ _ | .fieldGridLoss _ | .cxlSnoop _ | .hostMemWrite _ _ _ | .hostMemRead _ _ _
  | .hostWriteCompletion _ | .wakeWrite _ _ _ | .registerWrite _ _ _ | .form _ | .dissolve _ | .load _ _ | .qcreate _ | .qreset _
  | .qrevoke _ | .readmit _ | .observeSamplePeriod _ | .observeBreakpoint _ | .observeWatchpoint _ | .endpoint _ | .route _
  | .attest _ | .keyinstall _ | .svccap _ | .keyremove _ | .unpoison _ | .admitRange _ | .tilequery _ | .suspectWindowExpiry _ => true
  | _ => false

/-! ### The step's choice -/

/-- What a step does: an instruction or event and, for an instruction, whose turn it ends; a state reached without one; or
nothing, when no clock runs. -/
inductive Action where
  | run (i : Instr) (turn : Option Agent) (s : State)
  | quiet (s : State)
  | stopped

/-- An agent's turn (R82). -/
noncomputable def State.takeTurn (s : State) (a : Agent) : Action :=
  match s.beginTurn a with
  | .word w s => .run (instrOf w) (some a) s
  | .none s => .quiet (s.endTurn a)

/-- What the machine does next (log 1, DESIGN CHOICE): what the agenda names; else the first event that can happen; else a turn of the
agent in focus, or nothing while no agent has one to take. -/
noncomputable def State.action (s : State) : Action :=
  match s.agenda with
  | .event i :: l => if s.allStopped && !offWafer i then .quiet { s with agenda := l } else .run i none { s with agenda := l }
  | .turn a :: l => State.takeTurn { s with agenda := l } a
  | [] =>
    if s.allStopped then .stopped
    else
      match s.nextEvent with
      | some i => .run i none { s with agenda := s.afterEdge i }
      | none => if s.anyBusy then s.takeTurn s.focus else .quiet s

/-- The state after the instruction of a turn, or after an event. -/
def State.finish (s : State) (turn : Option Agent) : State :=
  match turn with
  | some a => s.endTurn a
  | none => s

end Sys2Proof.Machine
end

