-- ==== Sys2Proof/Machine/Step.lean ====
section
/-! DEFINITION. One step of the module: the event or turn that comes next. -/
namespace Sys2Proof.Machine

/-- One step (log 1, DESIGN CHOICE). -/
noncomputable def step (s : State) : Host.Outcome State Fault Refusal :=
  match s.action with
  | .run i turn s =>
    match exec i s with
    | .next s => .next (s.finish turn)
    | .fault f => .fault f
    | .refused r => .refused r
  | .quiet s => .next s
  | .stopped => .fault .moduleStopped

/-- The word w placed where slot 0 of tile 0 fetches next, with the turn that runs it next on the agenda (log 30, DESIGN CHOICE). -/
def State.withFetchWord (s : State) (nbits w : Nat) : State := s.placeWord (nbits / 8) w

end Sys2Proof.Machine
end

