-- ==== Sys2Proof/Safety.lean ====
section
/-! DEFINITION. What counts as a safe run, and the terms in which the claims are stated. -/
namespace Sys2Proof.Machine

/-- A step that neither stops nor refuses. -/
def Continues (s : State) : Prop := ∃ t, step s = .next t

/-- The invariant that every step keeps: memory in its canonical form (00_scope.md R5; log 4, DESIGN CHOICE). -/
def State.Inv (s : State) : Prop := s.mem.wf = true

/-- The issuing slot of s may execute i, every register it names is full, no access it must follow is outstanding, no
breakpoint stops it and none of its operands is a port (03_encoding.md R60, R74; 04_context.md R94; 06_float.md R138;
21_observe.md R378). -/
abbrev CanIssue (i : Instr) (s : State) : Prop :=
  whoMay (usesOf i) s = true ∧ regsPresent (usesOf i) s = true ∧ rmLegal (usesOf i) s = true ∧
  (∀ r ∈ (usesOf i).xr ++ (usesOf i).xw, s.cur.xEmpty r = false) ∧
  (∀ r ∈ (usesOf i).fr ++ (usesOf i).fw, s.cur.fEmpty r = false) ∧
  ((usesOf i).mem = true → s.cur.memBusy = false) ∧ s.breakHit = none ∧ namesPort (usesOf i) s.cur = false

/-- s and t differ in nothing but the issuing context and, on a mill core, the upper halves and tags of its registers. -/
def OnlyCur (s t : State) : Prop :=
  match s.focus with
  | .tile _ => t = s.setCtx s.focus s.curSlot t.cur
  | .mill k => t = { s with mills := tput s.mills k { s.mill k with ctx := t.cur, hi := (t.mill k).hi, tag := (t.mill k).tag } }

/-- d is context c after an instruction has retired: ready at the next PC, its retirement counts taken (04_context.md
R96), nothing pending of the instruction, and everything but the registers and fcsr as before. -/
def Retired (c d : Ctx) (pc : Word) : Prop :=
  d = { c with
    th := { c.th.retired with pc := pc, x := d.th.x, f := d.th.f, fcsr := d.th.fcsr }
    st := .ready, wait := .event, stage := .none, probes := [], replayFrom := none, missed := false, carried := none
    walkFault := none, bpSkip := false, proxyNext := false, retired := true }

/-- No byte of memory differs. -/
def SameMem (s t : State) : Prop := ∀ a, t.mem.get a = s.mem.get a

/-- Register r of a mill core holds no capability beyond its low 64 bits: its tag and upper half (16_queue.md R312). -/
def MillCore.upper (K : MillCore) (r : XReg) : Word × Bool := (K.hi[r.toNat], K.tag[r.toNat])

/-- t is s after an instruction that wrote v to x_rd and did nothing else: x0 discards it, a mill core's register loses
its tag and upper half, and the frame is everything else. -/
structure WroteX (s t : State) (rd : XReg) (v pc : Word) : Prop where
  only : OnlyCur s t
  retired : Retired s.cur t.cur pc
  x : ∀ r, t.cur.x r = if r = rd ∧ r ≠ 0 then v else s.cur.x r
  f : ∀ r, t.cur.f r = s.cur.f r
  fcsr : t.cur.th.fcsr = s.cur.th.fcsr
  upper : ∀ k, s.focus = .mill k → ∀ r, (t.mill k).upper r = if r = rd then (0, false) else (s.mill k).upper r
  mem : SameMem s t

/-- t is s after an instruction that wrote v to x_rd, raised flags and did nothing else. -/
structure WroteXFlags (s t : State) (rd : XReg) (v : Word) (fl : Flags) : Prop where
  only : OnlyCur s t
  retired : Retired s.cur t.cur (s.cur.th.pc + 4)
  x : ∀ r, t.cur.x r = if r = rd ∧ r ≠ 0 then v else s.cur.x r
  f : ∀ r, t.cur.f r = s.cur.f r
  fcsr : t.cur.th.fcsr = s.cur.th.fcsr ||| fl.zeroExtend 8
  upper : ∀ k, s.focus = .mill k → ∀ r, (t.mill k).upper r = if r = rd then (0, false) else (s.mill k).upper r
  mem : SameMem s t

/-- t is s after an instruction that wrote v to f_fd, raised flags and did nothing else. -/
structure WroteF (s t : State) (fd : FReg) (v : Word) (fl : Flags) : Prop where
  only : OnlyCur s t
  retired : Retired s.cur t.cur (s.cur.th.pc + 4)
  x : ∀ r, t.cur.x r = s.cur.x r
  f : ∀ r, t.cur.f r = if r = fd then v else s.cur.f r
  fcsr : t.cur.th.fcsr = s.cur.th.fcsr ||| fl.zeroExtend 8
  mem : SameMem s t

/-- t is s after an instruction that only moved the PC. -/
structure WentTo (s t : State) (pc : Word) : Prop where
  only : OnlyCur s t
  retired : Retired s.cur t.cur pc
  x : ∀ r, t.cur.x r = s.cur.x r
  f : ∀ r, t.cur.f r = s.cur.f r
  fcsr : t.cur.th.fcsr = s.cur.th.fcsr
  mem : SameMem s t

/-- No register of any context and no privileged register differs. -/
structure SameRegs (s t : State) : Prop where
  x : ∀ a c r, (t.ctx a c).x r = (s.ctx a c).x r
  f : ∀ a c r, (t.ctx a c).f r = (s.ctx a c).f r
  fcsr : ∀ a c, (t.ctx a c).th.fcsr = (s.ctx a c).th.fcsr
  priv : ∀ a, t.priv a = s.priv a

/-- No register and no byte of memory differs: what happened is beside them. -/
structure Aside (s t : State) : Prop where
  regs : SameRegs s t
  mem : SameMem s t

/-- t is s after an instruction that retired with v in x_rd (nothing for x0), whatever else of the machine it changed: no other
register, no flag, no privileged register, no context of another agent and no byte of memory has changed. -/
structure Put (s t : State) (rd : XReg) (v : Word) : Prop where
  x : ∀ r, t.cur.x r = if r = rd ∧ r ≠ 0 then v else s.cur.x r
  f : ∀ r, t.cur.f r = s.cur.f r
  fcsr : t.cur.th.fcsr = s.cur.th.fcsr
  pc : t.cur.th.pc = s.cur.th.pc + 4
  ready : t.cur.st = .ready
  priv : ∀ a, t.priv a = s.priv a
  others : ∀ a c, a ≠ s.focus → t.ctx a c = s.ctx a c
  mem : SameMem s t

end Sys2Proof.Machine
end

