-- ==== Sys2Proof/Certificates/Slice0/Obligations.lean ====
section
/-! DEFINITION. The statements for the provers, each with the rule of spec/ it formalises, and the tables of results that
they use. -/

open Sys2Proof Sys2Proof.Machine

/-! ### Tables of results (05_scalar.md) -/

namespace Sys2Proof.Machine

/-- v has n leading zeros and, below 64, a 1 after them. -/
def LeadingZeros (v : Word) (n : Nat) : Prop :=
  n ≤ 64 ∧ (∀ i, 64 ≤ i + n → i < 64 → v.getLsbD i = false) ∧ (n < 64 → v.getLsbD (63 - n) = true)

/-- v has n trailing zeros and, below 64, a 1 after them. -/
def TrailingZeros (v : Word) (n : Nat) : Prop :=
  n ≤ 64 ∧ (∀ i, i < n → v.getLsbD i = false) ∧ (n < 64 → v.getLsbD n = true)

/-- The low 32 bits, signed or not, and a signed result of 32 bits in a register. -/
def low (v : Word) : Nat := v.toNat % 2 ^ 32

def lowInt (v : Word) : Int := (BitVec.ofNat 32 v.toNat).toInt

def isSext32 (v : Word) (z : Int) : Prop := v = (BitVec.ofInt 32 z).signExtend 64

/-- What R102 and R103 make of the registers of context c: instruction i gives rd the value v. -/
def aluGives (c : Ctx) (i : Instr) (rd : XReg) (v : Word) : Prop :=
  match i with
  | .add d r1 r2 => d = rd ∧ v.toNat = ((c.x r1).toNat + (c.x r2).toNat) % 2 ^ 64
  | .sub d r1 r2 => d = rd ∧ v = BitVec.ofInt 64 ((c.x r1).toInt - (c.x r2).toInt)
  | .and d r1 r2 => d = rd ∧ ∀ k, v.getLsbD k = ((c.x r1).getLsbD k && (c.x r2).getLsbD k)
  | .or d r1 r2 => d = rd ∧ ∀ k, v.getLsbD k = ((c.x r1).getLsbD k || (c.x r2).getLsbD k)
  | .xor d r1 r2 => d = rd ∧ ∀ k, v.getLsbD k = ((c.x r1).getLsbD k != (c.x r2).getLsbD k)
  | .slt d r1 r2 => d = rd ∧ v = if (c.x r1).toInt < (c.x r2).toInt then 1 else 0
  | .sltu d r1 r2 => d = rd ∧ v = if (c.x r1).toNat < (c.x r2).toNat then 1 else 0
  | .sll d r1 r2 => d = rd ∧ v.toNat = (c.x r1).toNat * 2 ^ ((c.x r2).toNat % 64) % 2 ^ 64
  | .srl d r1 r2 => d = rd ∧ v.toNat = (c.x r1).toNat / 2 ^ ((c.x r2).toNat % 64)
  | .sra d r1 r2 => d = rd ∧ v.toInt = (c.x r1).toInt / 2 ^ ((c.x r2).toNat % 64)
  | .addi d r1 m => d = rd ∧ v = BitVec.ofInt 64 ((c.x r1).toInt + m.toInt)
  | .andi d r1 m => d = rd ∧ ∀ k, v.getLsbD k = ((c.x r1).getLsbD k && (m.signExtend 64).getLsbD k)
  | .ori d r1 m => d = rd ∧ ∀ k, v.getLsbD k = ((c.x r1).getLsbD k || (m.signExtend 64).getLsbD k)
  | .xori d r1 m => d = rd ∧ ∀ k, v.getLsbD k = ((c.x r1).getLsbD k != (m.signExtend 64).getLsbD k)
  | .slti d r1 m => d = rd ∧ v = if (c.x r1).toInt < m.toInt then 1 else 0
  | .sltiu d r1 m => d = rd ∧ v = if (c.x r1).toNat < (m.signExtend 64).toNat then 1 else 0
  | .slli d r1 n => d = rd ∧ v.toNat = (c.x r1).toNat * 2 ^ n.toNat % 2 ^ 64
  | .srli d r1 n => d = rd ∧ v.toNat = (c.x r1).toNat / 2 ^ n.toNat
  | .srai d r1 n => d = rd ∧ v.toInt = (c.x r1).toInt / 2 ^ n.toNat
  | .addw d r1 r2 => d = rd ∧ isSext32 v ((c.x r1).toInt + (c.x r2).toInt)
  | .subw d r1 r2 => d = rd ∧ isSext32 v ((c.x r1).toInt - (c.x r2).toInt)
  | .addiw d r1 m => d = rd ∧ isSext32 v ((c.x r1).toInt + m.toInt)
  | .sllw d r1 r2 => d = rd ∧ isSext32 v (low (c.x r1) * 2 ^ ((c.x r2).toNat % 32))
  | .srlw d r1 r2 => d = rd ∧ isSext32 v (low (c.x r1) / 2 ^ ((c.x r2).toNat % 32) : Nat)
  | .sraw d r1 r2 => d = rd ∧ isSext32 v (lowInt (c.x r1) / 2 ^ ((c.x r2).toNat % 32))
  | .slliw d r1 n => d = rd ∧ isSext32 v (low (c.x r1) * 2 ^ n.toNat)
  | .srliw d r1 n => d = rd ∧ isSext32 v (low (c.x r1) / 2 ^ n.toNat : Nat)
  | .sraiw d r1 n => d = rd ∧ isSext32 v (lowInt (c.x r1) / 2 ^ n.toNat)
  | .sh1add d r1 r2 => d = rd ∧ v.toNat = ((c.x r2).toNat + 2 * (c.x r1).toNat) % 2 ^ 64
  | .sh2add d r1 r2 => d = rd ∧ v.toNat = ((c.x r2).toNat + 4 * (c.x r1).toNat) % 2 ^ 64
  | .sh3add d r1 r2 => d = rd ∧ v.toNat = ((c.x r2).toNat + 8 * (c.x r1).toNat) % 2 ^ 64
  | .min d r1 r2 => d = rd ∧ v.toInt = min (c.x r1).toInt (c.x r2).toInt
  | .max d r1 r2 => d = rd ∧ v.toInt = max (c.x r1).toInt (c.x r2).toInt
  | .minu d r1 r2 => d = rd ∧ v.toNat = min (c.x r1).toNat (c.x r2).toNat
  | .maxu d r1 r2 => d = rd ∧ v.toNat = max (c.x r1).toNat (c.x r2).toNat
  | .clz d r1 => d = rd ∧ LeadingZeros (c.x r1) v.toNat
  | .ctz d r1 => d = rd ∧ TrailingZeros (c.x r1) v.toNat
  | .cpop d r1 => d = rd ∧ v.toNat = ((List.range 64).filter fun k => (c.x r1).getLsbD k).length
  | .rev8 d r1 => d = rd ∧ ∀ k < 8, v.extractLsb' (8 * k) 8 = (c.x r1).extractLsb' (56 - 8 * k) 8
  | .lui d m => d = rd ∧ isSext32 v (m.toNat * 4096 : Nat)
  | .auipc d m => d = rd ∧ v = c.th.pc + (BitVec.ofNat 32 (m.toNat * 4096)).signExtend 64
  | .mul d r1 r2 => d = rd ∧ v.toNat = (c.x r1).toNat * (c.x r2).toNat % 2 ^ 64
  | .mulh d r1 r2 => d = rd ∧ v.toInt = (c.x r1).toInt * (c.x r2).toInt / 2 ^ 64
  | .mulhsu d r1 r2 => d = rd ∧ v.toInt = (c.x r1).toInt * ((c.x r2).toNat : Int) / 2 ^ 64
  | .mulhu d r1 r2 => d = rd ∧ v.toNat = (c.x r1).toNat * (c.x r2).toNat / 2 ^ 64
  | .mulw d r1 r2 => d = rd ∧ isSext32 v ((low (c.x r1) * low (c.x r2) : Nat))
  | .padd d r1 r2 => d = rd ∧ v.extractLsb' 52 12 = (c.x r1).extractLsb' 52 12 ∧
      v.toNat % 2 ^ 52 = ((c.x r1).toNat + (c.x r2).toNat) % 2 ^ 52
  | _ => False

/-- The instructions of R102, R103 and R112. -/
def isAlu (i : Instr) : Bool :=
  match i with
  | .add _ _ _ | .sub _ _ _ | .and _ _ _ | .or _ _ _ | .xor _ _ _ | .slt _ _ _ | .sltu _ _ _ | .sll _ _ _
  | .srl _ _ _ | .sra _ _ _ | .addi _ _ _ | .andi _ _ _ | .ori _ _ _ | .xori _ _ _ | .slti _ _ _ | .sltiu _ _ _
  | .slli _ _ _ | .srli _ _ _ | .srai _ _ _ | .addw _ _ _ | .subw _ _ _ | .addiw _ _ _ | .sllw _ _ _ | .srlw _ _ _
  | .sraw _ _ _ | .slliw _ _ _ | .srliw _ _ _ | .sraiw _ _ _ | .sh1add _ _ _ | .sh2add _ _ _ | .sh3add _ _ _
  | .min _ _ _ | .max _ _ _ | .minu _ _ _ | .maxu _ _ _ | .clz _ _ | .ctz _ _ | .cpop _ _ | .rev8 _ _ | .lui _ _
  | .auipc _ _ | .mul _ _ _ | .mulh _ _ _ | .mulhsu _ _ _ | .mulhu _ _ _ | .mulw _ _ _ | .padd _ _ _ => true
  | _ => false

/-- The quotient and remainder of R104, signed or not, of 64 or 32 bits: what DIV, DIVU, REM, REMU and their W forms
give rd, and after how many cycles. -/
def divGives (c : Ctx) (i : Instr) (rd : XReg) (after : Nat) (v : Word) : Prop :=
  let quo (a b ones : Int) : Int := if b = 0 then ones else a.tdiv b
  let rem (a b : Int) : Int := if b = 0 then a else a.tmod b
  match i with
  | .div d r1 r2 => d = rd ∧ after = 40 ∧ v = BitVec.ofInt 64 (quo (c.x r1).toInt (c.x r2).toInt (-1))
  | .divu d r1 r2 => d = rd ∧ after = 40 ∧ v = BitVec.ofInt 64 (quo (c.x r1).toNat (c.x r2).toNat (-1))
  | .rem d r1 r2 => d = rd ∧ after = 40 ∧ v = BitVec.ofInt 64 (rem (c.x r1).toInt (c.x r2).toInt)
  | .remu d r1 r2 => d = rd ∧ after = 40 ∧ v = BitVec.ofInt 64 (rem (c.x r1).toNat (c.x r2).toNat)
  | .divw d r1 r2 => d = rd ∧ after = 24 ∧ isSext32 v (quo (lowInt (c.x r1)) (lowInt (c.x r2)) (-1))
  | .divuw d r1 r2 => d = rd ∧ after = 24 ∧ isSext32 v (quo (low (c.x r1)) (low (c.x r2)) (-1))
  | .remw d r1 r2 => d = rd ∧ after = 24 ∧ isSext32 v (rem (lowInt (c.x r1)) (lowInt (c.x r2)))
  | .remuw d r1 r2 => d = rd ∧ after = 24 ∧ isSext32 v (rem (low (c.x r1)) (low (c.x r2)))
  | _ => False

/-- Whether a branch's condition holds (R105), and its offset. -/
def branchGives (c : Ctx) (i : Instr) (taken : Bool) (off : BitVec 12) : Prop :=
  match i with
  | .beq r1 r2 o => o = off ∧ (taken = true ↔ (c.x r1).toNat = (c.x r2).toNat)
  | .bne r1 r2 o => o = off ∧ (taken = true ↔ (c.x r1).toNat ≠ (c.x r2).toNat)
  | .blt r1 r2 o => o = off ∧ (taken = true ↔ (c.x r1).toInt < (c.x r2).toInt)
  | .bge r1 r2 o => o = off ∧ (taken = true ↔ (c.x r2).toInt ≤ (c.x r1).toInt)
  | .bltu r1 r2 o => o = off ∧ (taken = true ↔ (c.x r1).toNat < (c.x r2).toNat)
  | .bgeu r1 r2 o => o = off ∧ (taken = true ↔ (c.x r2).toNat ≤ (c.x r1).toNat)
  | _ => False

/-- PC plus a displacement in halfwords. -/
def pcPlus (pc : Word) (off : Int) : Word := BitVec.ofInt 64 (pc.toInt + 2 * off)

/-! ### Integer instructions -/

end Sys2Proof.Machine

/-- R102, R103, R112: an integer instruction that may issue writes the result of the table to rd in its turn, moves the PC
to the next instruction, and touches nothing else. x0 reads zero in every state and discards what is written to it; any other
register reads what was written to it last. -/
def Obligations.IntegerResultAndFrame : Prop :=
  (∀ (i : Instr) (s : State), isAlu i = true → CanIssue i s →
    ∃ (rd : XReg) (v : Word) (t : State), aluGives s.cur i rd v ∧ exec i s = .next t ∧ WroteX s t rd v (s.cur.th.pc + 4)) ∧
  (∀ c : Ctx, c.x 0 = 0) ∧ (∀ (c : Ctx) (v : Word), c.setX 0 v = c) ∧
  (∀ (c : Ctx) (r q : XReg) (v : Word), r ≠ 0 → (c.setX r v).x r = v ∧ (q ≠ r → (c.setX r v).x q = c.x q))

/-- R104, R59: a divide that may issue retires at once, marks rd empty and leaves the result of the table to be written 40 or 24
cycles later; no other register, flag or byte of memory changes. With rd = x0 nothing is claimed. When that cycle has come the result
of a tile's slot is written to its register, which is full again; no other register and no byte of memory changes. -/
def Obligations.DivideClaimsThenWrites : Prop :=
  (∀ (i : Instr) (s : State) (rd : XReg) (n : Nat) (v : Word), divGives s.cur i rd n v → CanIssue i s →
    ∃ (t : State) (p : Producer), exec i s = .next t ∧ t.cur.pend = s.cur.pend ++ [p] ∧ p.kind = .divide (s.now + n) v ∧
      (rd ≠ 0 → t.cur.xEmpty rd = true ∧ p.old = s.cur.x rd) ∧ (rd = 0 → p.dest = .none) ∧
      t.cur.th.pc = s.cur.th.pc + 4 ∧ (∀ r, t.cur.x r = s.cur.x r) ∧ (∀ r, t.cur.f r = s.cur.f r) ∧
      t.cur.th.fcsr = s.cur.th.fcsr ∧ SameMem s t) ∧
  (∀ (s : State) (t c id due : Nat) (r : XReg) (cn : Counts) (v old pc : Word) (acc : Nat) (l : List Producer), c < 16 → r ≠ 0 →
    (s.ctx (.tile t) c).pend = ⟨id, .x r, cn, old, pc, .divide due v, acc⟩ :: l → due ≤ (s.tile t).cycles →
    (∀ p ∈ l, p.dest ≠ .x r) →
    ∃ s' : State, exec (.divideResult t c) s = .next s' ∧ (s'.ctx (.tile t) c).x r = v ∧
      (s'.ctx (.tile t) c).xEmpty r = false ∧ (s'.ctx (.tile t) c).pend = l ∧
      (∀ q, q ≠ r → (s'.ctx (.tile t) c).x q = (s.ctx (.tile t) c).x q) ∧ SameMem s s')

/-- R105: a branch that may issue goes to its target when its condition holds and to the next instruction when it does not; JAL and
JALR write PC + 4 to rd and go to the target, JALR's with bit 0 cleared. A taken target with bit 1 set traps with cause 0 and the
target as its value, and no register is written. -/
def Obligations.BranchesAndJumps : Prop :=
  (∀ (i : Instr) (s : State) (b : Bool) (off : BitVec 12), branchGives s.cur i b off → CanIssue i s →
    (b = false → ∃ t : State, exec i s = .next t ∧ WentTo s t (s.cur.th.pc + 4)) ∧
    (b = true → (pcPlus s.cur.th.pc off.toInt).getLsbD 1 = false →
      ∃ t : State, exec i s = .next t ∧ WentTo s t (pcPlus s.cur.th.pc off.toInt)) ∧
    (b = true → (pcPlus s.cur.th.pc off.toInt).getLsbD 1 = true →
      exec i s = .next (s.trap 0 (pcPlus s.cur.th.pc off.toInt)))) ∧
  (∀ (s : State) (rd rs1 : XReg),
    (∀ (off : BitVec 20), CanIssue (.jal rd off) s →
      ((pcPlus s.cur.th.pc off.toInt).getLsbD 1 = false →
        ∃ t : State, exec (.jal rd off) s = .next t ∧ WroteX s t rd (s.cur.th.pc + 4) (pcPlus s.cur.th.pc off.toInt)) ∧
      ((pcPlus s.cur.th.pc off.toInt).getLsbD 1 = true →
        exec (.jal rd off) s = .next (s.trap 0 (pcPlus s.cur.th.pc off.toInt)))) ∧
    (∀ (imm : BitVec 12) (a : Word), CanIssue (.jalr rd rs1 imm) s →
      a = BitVec.ofInt 64 (((s.cur.x rs1).toInt + imm.toInt) / 2 * 2) →
      (a.getLsbD 1 = false → ∃ t : State, exec (.jalr rd rs1 imm) s = .next t ∧ WroteX s t rd (s.cur.th.pc + 4) a) ∧
      (a.getLsbD 1 = true → exec (.jalr rd rs1 imm) s = .next (s.trap 0 a))))

/-! ### Issue, traps and returns -/

namespace Sys2Proof.Machine

/-- A vector command's operation number (the position of its row in R213's table), registers and element type. -/
def vectorParts (i : Instr) : Option (Nat × FReg × FReg × FReg × BitVec 2) :=
  match i with
  | .vfadd fd fs1 fs2 et => some (0, fd, fs1, fs2, et)
  | .vfsub fd fs1 fs2 et => some (1, fd, fs1, fs2, et)
  | .vfmul fd fs1 fs2 et => some (2, fd, fs1, fs2, et)
  | .vfma fd fs1 fs2 et => some (3, fd, fs1, fs2, et)
  | .vfmin fd fs1 fs2 et => some (4, fd, fs1, fs2, et)
  | .vfmax fd fs1 fs2 et => some (5, fd, fs1, fs2, et)
  | .vfdiv fd fs1 fs2 et => some (6, fd, fs1, fs2, et)
  | .vfsqrt fd fs1 et => some (7, fd, fs1, 0#3, et)
  | .vcvt fd fs1 _ et => some (8, fd, fs1, 0#3, et)
  | .vfill fd fs1 et => some (9, fd, fs1, 0#3, et)
  | .vmov fd fs1 et => some (10, fd, fs1, 0#3, et)
  | .vaxpy fd fs1 fs2 et => some (11, fd, fs1, fs2, et)
  | .vscal fd fs1 et => some (12, fd, fs1, 0#3, et)
  | .vdot fd fs1 fs2 et => some (13, fd, fs1, fs2, et)
  | .vsum fd fs1 et => some (14, fd, fs1, 0#3, et)
  | .vmaxr fd fs1 et => some (15, fd, fs1, 0#3, et)
  | .viadd fd fs1 fs2 et => some (16, fd, fs1, fs2, et)
  | .vgather fd fs1 fs2 et => some (17, fd, fs1, fs2, et)
  | _ => none

/-- The conditions under which R74 item 11 and the chapters make an instruction of its own illegal: in S mode under TSR, TW
or TVM, an unassigned GTOPO selector, a CSR it may not name, MIGRATE where no context leaves, YIELD of a tied context, UIRET
outside a handler, HLOCK's selector 0, PREEMPT over a valid spill header, a stream register below f4, a vector command's
shape. -/
def ownIllegal (i : Instr) (s : State) : Bool :=
  let ms := (s.priv s.focus).mstatus
  match i with
  | .sret => s.mode == .s && ms.getLsbD 22
  | .wfi => s.mode == .s && ms.getLsbD 21
  | .sfenceVma _ _ => s.mode == .s && ms.getLsbD 20
  | .gtopo _ u => decide (20 ≤ u.toNat)
  | .csrrw _ n _ | .csrrwi _ n _ => !s.csrLegal n.toNat true
  | .csrrs _ n r | .csrrc _ n r => !s.csrLegal n.toNat (r != 0)
  | .csrrsi _ n u | .csrrci _ n u => !s.csrLegal n.toNat (u != 0)
  | .migrate _ => s.full || s.cur.th.furrow || s.tied
  | .yield => !s.full && s.tied
  | .uiret => !s.cur.handler
  | .hlock _ _ u => u == 0
  | .preempt => (s.curT.slot s.curSlot).stage == .none && (s.rdWord (spillKey s.curTile 0)).getLsbD 0
  | .scfg fd _ | .sen fd _ | .spos _ fd => decide (fd.toNat < 4)
  | i =>
    match vectorParts i with
    | some (op, fd, a, b, et) => vIllegal s op fd a b et
    | none => false

/-- An instruction with a word (R64 to R73). -/
def encoded (i : Instr) : Bool := (encode i).isSome

/-- The registers that i reads and writes in this state: GANG reads rs2 only when it names a size (R201). -/
def usesNow (i : Instr) (s : State) : Uses :=
  match i with
  | .gang r1 r2 => if fld (s.x1 r1) 2 0 = 0 then { usesOf i with xr := [r1] } else { usesOf i with xr := [r1, r2] }
  | i => usesOf i

/-- The slot and mode may execute i, its registers exist, its rounding mode is legal and its ports have the right direction
and width (R74 items 5, 7 to 10, 06_float.md R139). -/
def legalHere (i : Instr) (s : State) : Bool :=
  whoMay (usesOf i) s && regsPresent (usesOf i) s && rmLegal (usesOf i) s && portsLegal (usesNow i s) s

end Sys2Proof.Machine

/-- R74, R68, R97, R114, R116, R117: an encoded instruction that the slot, its mode, its operands or a condition of its own make
illegal raises the illegal-instruction trap, cause 2 with the instruction word as its value, before it has any effect; and a word that
decodes to no instruction does. -/
def Obligations.IllegalInstructionsTrap : Prop :=
  ((∀ (i : Instr) (s : State), encoded i = true → legalHere i s = false →
    exec i s = .next (s.trap 2 (i.word.zeroExtend 64))) ∧
  (∀ (w : Word32) (s : State), exec (.illegalInstruction w) s = .next (s.trap 2 (w.zeroExtend 64)))) ∧
  (∀ (i : Instr) (s : State), encoded i = true → ownIllegal i s = true → exec i s = .next (s.trap 2 (i.word.zeroExtend 64)))

/-- R60: a legal instruction that reads an empty register under policy 1, while no other empty register it reads has policy 0,
traps with cause 24 and a register it names before it has any effect; when the empty registers it reads have policy 0, or only a
register it would write is empty, its turn is forfeited and nothing but the slot's state changes. -/
def Obligations.EmptyRegisterBlocksOrTraps : Prop :=
  ∀ (i : Instr) (s : State), encoded i = true → legalHere i s = true → ownIllegal i s = false →
    namesPort (usesNow i s) s.cur = false →
    ((∃ r ∈ (usesNow i s).xr, s.cur.xEmpty r = true ∧ s.cur.xPolicy r = true) →
      (∀ r ∈ (usesNow i s).xr, s.cur.xEmpty r = true → s.cur.xPolicy r = true) →
      ∃ r ∈ (usesNow i s).xr, s.cur.xEmpty r = true ∧ exec i s = .next (s.trap 24 (BitVec.ofNat 64 r.toNat))) ∧
    ((∃ r ∈ (usesNow i s).xr, s.cur.xEmpty r = true) → (∀ r ∈ (usesNow i s).xr, s.cur.xPolicy r = false) →
      ∃ r ∈ (usesNow i s).xr, s.cur.xEmpty r = true ∧
        exec i s = .next (s.modCur fun c => { c with st := .parkedReg, wait := .reg (.x r) })) ∧
    ((∀ r ∈ (usesNow i s).xr, s.cur.xEmpty r = false) →
      (∃ r ∈ (usesNow i s).fr, s.cur.fEmpty r = true ∧ s.cur.bound r = false ∧ s.cur.fPolicy r = true) →
      (∀ r ∈ (usesNow i s).fr, s.cur.fEmpty r = true → s.cur.fPolicy r = true) →
      ∃ r ∈ (usesNow i s).fr, s.cur.fEmpty r = true ∧ exec i s = .next (s.trap 24 (BitVec.ofNat 64 (32 + r.toNat)))) ∧
    ((∀ r ∈ (usesNow i s).xr, s.cur.xEmpty r = false) → (∀ r ∈ (usesNow i s).fr, s.cur.fEmpty r = false) →
      (∃ r ∈ (usesNow i s).xw, r ≠ 0 ∧ s.cur.xEmpty r = true) →
      ∃ r ∈ (usesNow i s).xw, s.cur.xEmpty r = true ∧
        exec i s = .next (s.modCur fun c => { c with st := .parkedReg, wait := .reg (.x r) }))

/-- R121, R329, R331: a precise trap of slot 0 or of a mill core enters the handler: in M mode, or when medeleg does not delegate the
cause, in M mode, with mepc the PC of the instruction, mcause the cause, mtval the value, MPIE holding MIE, MIE 0, MPP the previous
mode and the PC mtvec's base; delegated from S or U mode in S mode with the supervisor's registers. No other bit of mstatus, no other
privileged register, no general register and no byte of memory changes. A light context's trap parks it in the trapped state with its
record: the cause, the value, the PC and the field's TICK; registers, memory and slot 0's privileged state are untouched (R125). -/
def Obligations.TrapEntryAndParking : Prop :=
  (∀ (s : State) (cause : Nat) (tval : Word), s.curSlot = 0 → cause < 64 →
    let p := s.priv s.focus
    let t := s.trap cause tval
    let q := t.priv s.focus
    (∀ r, t.cur.x r = s.cur.x r) ∧ (∀ r, t.cur.f r = s.cur.f r) ∧ t.cur.th.fcsr = s.cur.th.fcsr ∧ t.cur.st = .ready ∧
    SameMem s t ∧
    (((p.mode = .m ∨ p.medeleg.getLsbD cause = false) →
        q = { p with mode := .m, mepc := s.cur.th.pc, mcause := BitVec.ofNat 64 cause, mtval := tval, mstatus := q.mstatus } ∧
        q.mstatus.getLsbD 7 = p.mstatus.getLsbD 3 ∧ q.mstatus.getLsbD 3 = false ∧ fld q.mstatus 12 11 = p.mode.code ∧
        (∀ k, k ≠ 3 → k ≠ 7 → k ≠ 11 → k ≠ 12 → q.mstatus.getLsbD k = p.mstatus.getLsbD k) ∧
        t.cur.th.pc = p.mtvec &&& ~~~3#64)) ∧
    ((p.mode ≠ .m ∧ p.medeleg.getLsbD cause = true) →
        q = { p with mode := .s, sepc := s.cur.th.pc, scause := BitVec.ofNat 64 cause, stval := tval, mstatus := q.mstatus } ∧
        q.mstatus.getLsbD 5 = p.mstatus.getLsbD 1 ∧ q.mstatus.getLsbD 1 = false ∧
        q.mstatus.getLsbD 8 = decide (p.mode = .s) ∧
        (∀ k, k ≠ 1 → k ≠ 5 → k ≠ 8 → q.mstatus.getLsbD k = p.mstatus.getLsbD k) ∧
        t.cur.th.pc = p.stvec &&& ~~~3#64)) ∧
  (∀ (s : State) (cause : Nat) (tval : Word), s.curSlot ≠ 0 →
    let t := s.trap cause tval
    t.cur.st = .trapped ∧ t.cur.trap = ⟨false, cause, tval, s.cur.th.pc, BitVec.ofNat 64 s.tick⟩ ∧
    t.cur.th = s.cur.th ∧ OnlyCur s t ∧ SameMem s t ∧ (∀ a, t.priv a = s.priv a))

/-- R121, R122: ECALL traps with the cause of the current mode and value 0, EBREAK with cause 3 and the PC. MRET returns to the mode
in MPP at mepc: MIE takes MPIE, MPIE is 1, MPP is 0, and MPRV is cleared unless the mode is M; SRET returns to the mode in SPP at sepc:
SIE takes SPIE, SPIE is 1, SPP and MPRV are 0. No other bit of mstatus, no other privileged register, no general register and no memory
changes. -/
def Obligations.SystemCallsAndReturns : Prop :=
  (∀ s : State,
    (CanIssue .ecall s → exec .ecall s = .next (s.trap (8 + s.mode.code) 0)) ∧
    (CanIssue .ebreak s → exec .ebreak s = .next (s.trap 3 s.cur.th.pc))) ∧
  (∀ s : State,
    let p := s.priv s.focus
    (CanIssue .mret s → ∃ t : State, exec .mret s = .next t ∧
      let q := t.priv s.focus
      Retired s.cur t.cur p.mepc ∧ SameMem s t ∧ (∀ r, t.cur.x r = s.cur.x r) ∧ (∀ r, t.cur.f r = s.cur.f r) ∧
      q = { p with mode := Mode.ofCode (fld p.mstatus 12 11), mstatus := q.mstatus } ∧
      q.mstatus.getLsbD 3 = p.mstatus.getLsbD 7 ∧ q.mstatus.getLsbD 7 = true ∧ fld q.mstatus 12 11 = 0 ∧
      q.mstatus.getLsbD 17 = (p.mstatus.getLsbD 17 && decide (fld p.mstatus 12 11 = 3)) ∧
      (∀ k, k ≠ 3 → k ≠ 7 → k ≠ 11 → k ≠ 12 → k ≠ 17 → q.mstatus.getLsbD k = p.mstatus.getLsbD k)) ∧
    (CanIssue .sret s → ownIllegal .sret s = false → ∃ t : State, exec .sret s = .next t ∧
      let q := t.priv s.focus
      Retired s.cur t.cur p.sepc ∧ SameMem s t ∧ (∀ r, t.cur.x r = s.cur.x r) ∧ (∀ r, t.cur.f r = s.cur.f r) ∧
      q = { p with mode := if p.mstatus.getLsbD 8 then .s else .u, mstatus := q.mstatus } ∧
      q.mstatus.getLsbD 1 = p.mstatus.getLsbD 5 ∧ q.mstatus.getLsbD 5 = true ∧ q.mstatus.getLsbD 8 = false ∧
      q.mstatus.getLsbD 17 = false ∧
      (∀ k, k ≠ 1 → k ≠ 5 → k ≠ 8 → k ≠ 17 → q.mstatus.getLsbD k = p.mstatus.getLsbD k)))

/-- R121, R328: slot 0 of a tile, ready between instructions, takes an interrupt that goes to M mode: mepc holds its PC,
mcause the code with bit 63, mtval 0, and the PC is mtvec's base, plus 4 × code in vectored mode. A machine check (code 21) needs
no enable; another needs its mie bit and, in M mode, MIE; of several the highest code is taken. -/
def Obligations.InterruptEntersHandler : Prop :=
  ∀ (s : State) (t code : Nat), (s.ctx (.tile t) 0).st = .ready → (s.ctx (.tile t) 0).stage = .none →
    code ∈ [21, 20, 19, 18, 17, 16, 3, 1] →
    let p := s.priv (.tile t)
    let can (k : Nat) : Bool := (s.mip (.tile t)).getLsbD k && (k == 21 || (p.mie.getLsbD k && !p.mideleg.getLsbD k &&
      (p.mode != .m || p.mstatus.getLsbD 3)))
    can code = true → (∀ k ∈ [21, 20, 19, 18, 17, 16, 3, 1], code < k → can k = false) → p.mideleg.getLsbD 21 = false →
    ∃ s' : State, exec (.interruptTake t) s = .next s' ∧
      let q := s'.priv (.tile t)
      q = { p with mode := .m, mepc := (s.ctx (.tile t) 0).th.pc, mcause := BitVec.ofNat 64 (2 ^ 63 + code), mtval := 0
                   mstatus := q.mstatus } ∧
      q.mstatus.getLsbD 7 = p.mstatus.getLsbD 3 ∧ q.mstatus.getLsbD 3 = false ∧ fld q.mstatus 12 11 = p.mode.code ∧
      (s'.ctx (.tile t) 0).th.pc =
        (p.mtvec &&& ~~~3#64) + (if p.mtvec &&& 3#64 = 1#64 then BitVec.ofNat 64 (4 * code) else 0) ∧
      (∀ r, (s'.ctx (.tile t) 0).x r = (s.ctx (.tile t) 0).x r) ∧ SameMem s s'

/-! ### Control and status registers -/

namespace Sys2Proof.Machine

/-- What a CSR reads, by R118 to R120; ftime and tstamp apart, whose value the spec leaves open. -/
def csrReads (s : State) (n : Nat) : Option Word :=
  let c := s.cur
  let p := s.priv s.focus
  let view : Word := 0x80000003000DE122#64
  if 0xC80 ≤ n ∧ n ≤ 0xCBF then some (tgetD s.curT.acc (n - 0xC80) ⟨0, 0⟩).word
  else
  match n with
  | 0x001 => some ((c.th.fcsr.extractLsb' 0 5).zeroExtend 64)
  | 0x002 => some ((c.th.fcsr.extractLsb' 5 3).zeroExtend 64)
  | 0x003 => some (c.th.fcsr.zeroExtend 64)
  | 0x800 => some c.th.fepol
  | 0x840 => some c.uiepc
  | 0xC00 => some (BitVec.ofNat 64 s.curT.cycles)
  | 0xC01 => some (BitVec.ofNat 64 s.tick)
  | 0xCC0 => some (c.festate s.full)
  | 0xCC1 => some c.th.status
  | 0xCC2 => some c.th.gtid
  | 0xCC3 => some (s.hartrank s.curSlot)
  | 0xCC4 => some (BitVec.ofNat 64 (pcoord s.curTile))
  | 0xCC7 => some (BitVec.ofNat 64 s.curT.dtick)
  | 0xCD0 => some (c.uixid.zeroExtend 64)
  | 0x100 => some ((p.mstatus ||| 0x8000000A00006000#64) &&& view)
  | 0x104 => some (p.mie &&& p.mideleg)
  | 0x144 => some (s.mip s.focus &&& p.mideleg)
  | 0x105 => some p.stvec
  | 0x305 => some p.mtvec
  | 0x140 => some p.sscratch
  | 0x340 => some p.mscratch
  | 0x141 => some p.sepc
  | 0x341 => some p.mepc
  | 0x142 => some p.scause
  | 0x342 => some p.mcause
  | 0x143 => some p.stval
  | 0x343 => some p.mtval
  | 0x180 => some p.satp
  | 0x300 => some (p.mstatus ||| 0x8000000A00006000#64)
  | 0x301 => some 0x8000000000941128#64
  | 0x302 => some p.medeleg
  | 0x303 => some p.mideleg
  | 0x304 => some p.mie
  | 0x344 => some (s.mip s.focus)
  | 0x5C0 => some s.curT.arrcfg
  | 0xF14 => some (s.hartrank 0)
  | _ => none

/-- The privileged registers after a write of w, by the access codes of R120 and R328. -/
def csrWrites (p : Priv) (n : Nat) (w : Word) : Option Priv :=
  let vec : Word := if w.getLsbD 1 then w &&& ~~~3#64 else w
  let status (mask : Word) : Priv :=
    let v := (p.mstatus &&& ~~~mask) ||| (w &&& mask)
    { p with mstatus := if v.getLsbD 12 && !v.getLsbD 11 then v &&& ~~~0x1800#64 else v }
  let pending (mask : Word) : Priv := { p with mip := (p.mip &&& ~~~(mask &&& 0x1C000A#64)) ||| (w &&& mask &&& 0x1C000A#64) }
  match n with
  | 0x100 => some (status 0xC0122#64)
  | 0x104 => some { p with mie := (p.mie &&& ~~~p.mideleg) ||| (w &&& p.mideleg) }
  | 0x144 => some (pending p.mideleg)
  | 0x105 => some { p with stvec := vec }
  | 0x305 => some { p with mtvec := vec }
  | 0x140 => some { p with sscratch := w }
  | 0x340 => some { p with mscratch := w }
  | 0x141 => some { p with sepc := w &&& ~~~3#64 }
  | 0x341 => some { p with mepc := w &&& ~~~3#64 }
  | 0x142 => some { p with scause := w }
  | 0x342 => some { p with mcause := w }
  | 0x143 => some { p with stval := w }
  | 0x343 => some { p with mtval := w }
  | 0x180 => some (if fld w 63 60 = 0 ∨ fld w 63 60 = 9 then { p with satp := w &&& 0xFFFFFFFF0FFFFFFF#64 } else p)
  | 0x300 => some (status 0x7E19AA#64)
  | 0x301 => some p
  | 0x302 => some { p with medeleg := w }
  | 0x303 => some { p with mideleg := w &&& 0x1F0002#64 }
  | 0x304 => some { p with mie := w &&& 0x3F000A#64 }
  | 0x344 => some (pending (-1))
  | _ => none

/-- The operand of a CSR instruction, its number, whether it writes, and the new value from the old one and the operand
(R117). -/
def csrForm (c : Ctx) (i : Instr) (rd : XReg) (n : Nat) (write : Bool) (new : Word → Word) : Prop :=
  match i with
  | .csrrw d k r => d = rd ∧ n = k.toNat ∧ write = true ∧ new = fun _ => c.x r
  | .csrrs d k r => d = rd ∧ n = k.toNat ∧ write = (r != 0) ∧ new = fun old => old ||| c.x r
  | .csrrc d k r => d = rd ∧ n = k.toNat ∧ write = (r != 0) ∧ new = fun old => old &&& ~~~(c.x r)
  | .csrrwi d k u => d = rd ∧ n = k.toNat ∧ write = true ∧ new = fun _ => u.zeroExtend 64
  | .csrrsi d k u => d = rd ∧ n = k.toNat ∧ write = (u != 0) ∧ new = fun old => old ||| u.zeroExtend 64
  | .csrrci d k u => d = rd ∧ n = k.toNat ∧ write = (u != 0) ∧ new = fun old => old &&& ~~~(u.zeroExtend 64)
  | _ => False

end Sys2Proof.Machine

/-- R117, R120, R328, R43, R62, R92, R137: a CSR instruction that may issue and reads a CSR puts its value in rd; one that writes
a privileged register of slot 0 leaves it as R120 says the new value is stored; fflags, frm and fcsr select their bits of fcsr,
fepol keeps the bits of registers that exist, uiepc clears its two low bits, arrcfg clamps; the operations MIP_WRITE, SATP_WRITE,
ARRCFG_WRITE and FCSR_ACCESS of the opcode table do the same to a slot they name. Nothing else changes. The model's own choices
here are those of log 34. -/
def Obligations.CsrAccess : Prop :=
  (∀ (i : Instr) (s : State) (rd : XReg) (n : Nat) (v : Word) (new : Word → Word), csrForm s.cur i rd n false new →
    csrReads s n = some v → s.csrLegal n false = true → (n < 4 → s.cur.fcsrBusy = false) → CanIssue i s →
    ∃ t : State, exec i s = .next t ∧ WroteX s t rd v (s.cur.th.pc + 4)) ∧
  (∀ (i : Instr) (s : State) (rd : XReg) (n : Nat) (v : Word) (new : Word → Word) (q : Priv),
    csrForm s.cur i rd n true new → csrReads s n = some v → csrWrites (s.priv s.focus) n (new v) = some q →
    s.csrLegal n true = true → CanIssue i s →
    ∃ t : State, exec i s = .next t ∧ t.priv s.focus = q ∧ (∀ r, t.cur.x r = if r = rd ∧ r ≠ 0 then v else s.cur.x r) ∧
      (∀ r, t.cur.f r = s.cur.f r) ∧ t.cur.th.pc = s.cur.th.pc + 4 ∧ t.cur.th.fcsr = s.cur.th.fcsr ∧ SameMem s t) ∧
  ((∀ (i : Instr) (s : State) (rd : XReg) (n : Nat) (v : Word) (new : Word → Word),
    csrForm s.cur i rd n true new → csrReads s n = some v → n ∈ [1, 2, 3, 0x800, 0x840] → CanIssue i s →
    s.csrLegal n true = true → (n < 4 → s.cur.fcsrBusy = false) →
    ∃ t : State, exec i s = .next t ∧ (∀ r, t.cur.x r = if r = rd ∧ r ≠ 0 then v else s.cur.x r) ∧
      (∀ r, t.cur.f r = s.cur.f r) ∧ t.cur.th.pc = s.cur.th.pc + 4 ∧ SameMem s t ∧
      (let w := new v
       t.cur.th.fcsr = (match n with
         | 1 => s.cur.th.fcsr.extractLsb' 5 3 ++ w.extractLsb' 0 5
         | 2 => w.extractLsb' 0 3 ++ s.cur.th.fcsr.extractLsb' 0 5
         | 3 => w.extractLsb' 0 8
         | _ => s.cur.th.fcsr) ∧
       t.cur.th.fepol = (if n = 0x800 then w &&& (if s.full then 0xFFFFFFFFFE#64 else 0xFF0000FFFE#64) else s.cur.th.fepol) ∧
       t.cur.uiepc = (if n = 0x840 then w &&& ~~~3#64 else s.cur.uiepc))) ∧
  (∀ (s : State) (t : Nat) (w : Word), (s.priv (.tile t)).mode = .m →
    ∃ s' : State, exec (.mipWrite t w) s = .next s' ∧ csrWrites (s.priv (.tile t)) 0x344 w = some (s'.priv (.tile t)) ∧ SameMem s s') ∧
  (∀ (s : State) (t : Nat) (w : Word),
    ((s.priv (.tile t)).mode = .m ∨ ((s.priv (.tile t)).mode = .s ∧ (s.priv (.tile t)).mstatus.getLsbD 20 = false)) →
    ∃ s' : State, exec (.satpWrite t w) s = .next s' ∧ csrWrites (s.priv (.tile t)) 0x180 w = some (s'.priv (.tile t)) ∧
      SameMem s s') ∧
  (∀ (s : State) (t : Nat) (w : Word), (s.priv (.tile t)).mode ≠ .u →
    ∃ s' : State, exec (.arrcfgWrite t w) s = .next s' ∧ (s'.tile t).pth0 = max 2 (fld w 10 8) ∧
      (s'.tile t).adepth = min 32 (max 2 (fld w 5 0)) ∧ (s'.tile t).slots = (s.tile t).slots ∧ SameMem s s') ∧
  (∀ (s : State) (t c : Nat) (w : Word), c < 16 → (s.ctx (.tile t) c).fcsrBusy = false →
    ∃ s' : State, exec (.fcsrAccess t c w) s = .next s' ∧ (s'.ctx (.tile t) c).th.fcsr = w.extractLsb' 0 8 ∧
      (∀ r, (s'.ctx (.tile t) c).x r = (s.ctx (.tile t) c).x r) ∧ SameMem s s'))

/-! ### Decoding, one step, reset -/

/-- R64 to R74: words written out from the spec's encodings decode to the instructions they stand for, one for each kind of
encoding, and words that R74 makes illegal are rejected. The first five stand in the spec with their mnemonics. -/
def Obligations.DecodeReadsTheSpecWords : Prop :=
  decode 0x02C5B50B#32 = .ok (.ldW 10 11 12 1) ∧ decode 0x08D5B28B#32 = .ok (.sdW 5 11 13 0) ∧
  decode 0x1420052B#32 = .ok (.gtopo 10 2) ∧ decode 0x01450533#32 = .ok (.add 10 10 20) ∧
  decode 0xCC302573#32 = .ok (.csrrs 10 0xCC3 0) ∧ decode 0x0600002B#32 = .ok .yield ∧
  decode 0x0000205B#32 = .ok .vwait ∧ decode 0x1800002B#32 = .ok .uiret ∧ decode 0x0400102B#32 = .ok .preempt ∧
  decode 0x00A4802B#32 = .ok (.spawn 9 10) ∧
  decode 0x00000000#32 = .reject .majorOpcode ∧ decode 0x0000707F#32 = .reject .majorOpcode ∧
  decode 0x4000102B#32 ≠ .ok .preempt

/-- R64 to R73: the word of every well-formed instruction decodes to that instruction, with every operand at every value its
encoding admits; an instruction is well formed when it has a word, its rm code is no reserved one and its GTOPO selector is
assigned. -/
def Obligations.DecodeInvertsEncode : Prop :=
  ∀ i : Instr, i.wf = true → ∃ w : Word32, encode i = some w ∧ decode w = .ok i

/-- R64 to R74: every word that decodes is the word of what it decodes to, so that no two words stand for one instruction and
no field of a legal word is ignored, but for the rm fields of FRECIP and FRSQRT, which are kept as they are. -/
def Obligations.EncodeInvertsDecode : Prop :=
  ∀ (w : Word32) (i : Instr), decode w = .ok i → encode i = some w

/-- A turn of a tile's slot on the agenda, its slot ready, untranslated, with nothing delivered or taken between instructions
(05_scalar.md R100, R124; log 1, log 18): the word at its PC, in a line that the home cache holds, is decoded and its instruction
executed in that slot, and the turn ends. The state in which it executes differs by the prefetched line alone. An event on the
agenda is executed in the state as it stands, but that one of a tile, a field or a bridge does nothing while every field is stopped
(22_host.md R395). The model's own choices here are those of log 1 and 18. -/
def Obligations.StepRunsTheDecodedInstruction : Prop :=
  (∀ (s : State) (t : Nat) (l : List Next) (i : Instr),
    s.agenda = .turn (.tile t) :: l →
    let s0 : State := { s with agenda := l, focus := .tile t }
    let pc := s0.cur.th.pc
    s0.between = s0 → s0.mayIssue = true → s0.cur.pref = none → s0.xlatMode true = none → ptrSpace pc = 0 →
    ptrAddr pc < 2 ^ 33 → ptrAddr pc % 4 = 0 → s0.poison t (ptrAddr pc) = 0 → s0.awaiting t (ptrAddr pc) = false →
    (s0.tile t).held = [] → (s0.tile t).shellAlive = true → lineOf (ptrAddr pc) ∈ (s.tile t).lines → decodeBytes (s.rdMem (dramKey t (ptrAddr pc)) 4) = .ok i →
    let line := (lineOf (ptrAddr pc), s.rdMem (dramKey t (lineOf (ptrAddr pc) * 64)) 64)
    step s = match exec i (s0.modCur fun c => { c with pref := some line }) with
      | .next u => .next (u.endTurn (.tile t))
      | .fault f => .fault f
      | .refused r => .refused r) ∧
  (∀ (s : State) (i : Instr) (l : List Next), s.agenda = .event i :: l →
    ((s.allStopped = false ∨ offWafer i = true) → step s = exec i { s with agenda := l }) ∧
    (s.allStopped = true → offWafer i = false → step s = .next { s with agenda := l })) ∧
  (∀ (s : State) (a : Agent) (l : List Next) (w : Word32) (s1 : State) (i : Instr), s.agenda = .turn a :: l →
    State.beginTurn { s with agenda := l } a = .word w s1 → decode w = .ok i →
    step s = match exec i s1 with
      | .next u => .next (u.endTurn a)
      | .fault f => .fault f
      | .refused r => .refused r) ∧
  (∀ (s : State) (a : Agent) (l : List Next) (w : Word32) (s1 : State) (e : DecodeError), s.agenda = .turn a :: l →
    State.beginTurn { s with agenda := l } a = .word w s1 → decode w = .reject e →
    step s = .next (State.endTurn (s1.trap 2 (w.zeroExtend 64)) a))

/-- R120, R82, R84, R354, R345, R392, the reset state: slot 0 of every tile is in M mode with MPP 11 and every other privileged
field of mstatus 0; every light slot is free; satp, medeleg, mideleg, mie and mip are 0; TICK and FTIME are 0 and not started; no
partition is formed and every tile is in its self-test. The grade of State.reset and the zeros that memory reads as are the
model's own choices (log 3, log 4). The model's own choices here are those of log 3, 4 and 5. -/
def Obligations.ResetState : Prop :=
  ∀ t : Nat,
    let s := State.reset
    let p := s.priv (.tile t)
    p.mode = .m ∧ p.mstatus = 0x1800#64 ∧ p.satp = 0 ∧ (s.tile t).life = .testing ∧ (s.tile t).rank = none ∧
    (∀ c, (s.ctx (.tile t) c).st = .free) ∧ (s.tile t).cycles = 0 ∧ (s.tile t).journal = [] ∧ (s.tile t).dtick = 0 ∧
    (∀ f, (s.field f).tick = 0 ∧ (s.field f).edge = 0 ∧ (s.field f).started = false) ∧ s.ns = 0 ∧ s.parts = [] ∧ s.net = [] ∧
    s.queues = [] ∧ s.rankTile = [] ∧ s.grade = 900 ∧ (∀ a, s.mem.get a = 0)

/-- Log 4, R5: the memory of the module at reset is in canonical form. The model's own choices here are those of log 4. -/
def Obligations.ResetMemoryCanonical : Prop :=
  State.reset.Inv

/-- Log 4, R5: every step keeps memory in canonical form: addresses strictly rising, no zero byte listed. The model's own choices
here are those of log 4. -/
def Obligations.StepKeepsMemoryCanonical : Prop :=
  ∀ s t : State, s.Inv → step s = .next t → t.Inv

/-! ### Floating point -/

namespace Sys2Proof.Machine

/-- A floating operand of a scalar instruction in a format: the canonical NaN when it is not boxed (R126). -/
def fsrc (c : Ctx) (code : Nat) (r : FReg) : Nat :=
  let F := (Fmt.ofCode code).getD fp64
  if (c.f r).toNat / 2 ^ F.width = 2 ^ (64 - F.width) - 1 then (c.f r).toNat % 2 ^ F.width else F.canonicalNan

/-- A value of a format in a register: all ones above it (R126). -/
def boxed (code v : Nat) : Word :=
  let F := (Fmt.ofCode code).getD fp64
  BitVec.ofNat 64 ((2 ^ (64 - F.width) - 1) * 2 ^ F.width + v % 2 ^ F.width)

/-- The rounding mode of an rm field in a context (R42). -/
def modeOf (c : Ctx) (rm : BitVec 3) : Rnd := (Rnd.ofField rm c.frm).getD .rne

/-- An exact value with its flags, rounded once to a format (R42, R52). -/
def roundTo (F : Fmt) (m : Rnd) (x : FVal × Flags) : Nat × Flags :=
  ((F.ofValue m false x.1).1, x.2 ||| (F.ofValue m false x.1).2)

/-- What R128 to R135 give a floating destination: register, format code, and the value with its flags. -/
def floatGives (c : Ctx) (i : Instr) : Option (FReg × Nat × (Nat × Flags)) :=
  let s (r : FReg) := fp32.value (fsrc c 2 r)
  let d (r : FReg) := fp64.value (fsrc c 1 r)
  let sgn (F : Fmt) (a : Nat) (neg : Bool) : Nat × Flags := (a % 2 ^ (F.width - 1) + (if neg then 2 ^ (F.width - 1) else 0), 0#5)
  let neg (F : Fmt) (a : Nat) : Bool := a.testBit (F.width - 1)
  match i with
  | .faddS fd a b m => some (fd, 2, roundTo fp32 (modeOf c m) ((s a).add (modeOf c m) (s b)))
  | .fsubS fd a b m => some (fd, 2, roundTo fp32 (modeOf c m) ((s a).add (modeOf c m) (s b).neg))
  | .fmulS fd a b m => some (fd, 2, roundTo fp32 (modeOf c m) ((s a).mul (s b)))
  | .fmaddS fd a b e m => some (fd, 2, fp32.fma (modeOf c m) false false (fsrc c 2 a) (fsrc c 2 b) (fsrc c 2 e))
  | .fmsubS fd a b e m => some (fd, 2, fp32.fma (modeOf c m) false true (fsrc c 2 a) (fsrc c 2 b) (fsrc c 2 e))
  | .fnmsubS fd a b e m => some (fd, 2, fp32.fma (modeOf c m) true false (fsrc c 2 a) (fsrc c 2 b) (fsrc c 2 e))
  | .fnmaddS fd a b e m => some (fd, 2, fp32.fma (modeOf c m) true true (fsrc c 2 a) (fsrc c 2 b) (fsrc c 2 e))
  | .faddD fd a b m => some (fd, 1, roundTo fp64 (modeOf c m) ((d a).add (modeOf c m) (d b)))
  | .fsubD fd a b m => some (fd, 1, roundTo fp64 (modeOf c m) ((d a).add (modeOf c m) (d b).neg))
  | .fmulD fd a b m => some (fd, 1, roundTo fp64 (modeOf c m) ((d a).mul (d b)))
  | .fmaddD fd a b e m => some (fd, 1, fp64.fma (modeOf c m) false false (fsrc c 1 a) (fsrc c 1 b) (fsrc c 1 e))
  | .fmsubD fd a b e m => some (fd, 1, fp64.fma (modeOf c m) false true (fsrc c 1 a) (fsrc c 1 b) (fsrc c 1 e))
  | .fnmsubD fd a b e m => some (fd, 1, fp64.fma (modeOf c m) true false (fsrc c 1 a) (fsrc c 1 b) (fsrc c 1 e))
  | .fnmaddD fd a b e m => some (fd, 1, fp64.fma (modeOf c m) true true (fsrc c 1 a) (fsrc c 1 b) (fsrc c 1 e))
  | .fsgnjS fd a b => some (fd, 2, sgn fp32 (fsrc c 2 a) (neg fp32 (fsrc c 2 b)))
  | .fsgnjnS fd a b => some (fd, 2, sgn fp32 (fsrc c 2 a) (!neg fp32 (fsrc c 2 b)))
  | .fsgnjxS fd a b => some (fd, 2, sgn fp32 (fsrc c 2 a) (neg fp32 (fsrc c 2 a) != neg fp32 (fsrc c 2 b)))
  | .fsgnjD fd a b => some (fd, 1, sgn fp64 (fsrc c 1 a) (neg fp64 (fsrc c 1 b)))
  | .fsgnjnD fd a b => some (fd, 1, sgn fp64 (fsrc c 1 a) (!neg fp64 (fsrc c 1 b)))
  | .fsgnjxD fd a b => some (fd, 1, sgn fp64 (fsrc c 1 a) (neg fp64 (fsrc c 1 a) != neg fp64 (fsrc c 1 b)))
  | .fminS fd a b => some (fd, 2, fp32.minMax false (fsrc c 2 a) (fsrc c 2 b))
  | .fmaxS fd a b => some (fd, 2, fp32.minMax true (fsrc c 2 a) (fsrc c 2 b))
  | .fminD fd a b => some (fd, 1, fp64.minMax false (fsrc c 1 a) (fsrc c 1 b))
  | .fmaxD fd a b => some (fd, 1, fp64.minMax true (fsrc c 1 a) (fsrc c 1 b))
  | .fcvtSD fd a m => some (fd, 2, fp32.ofValue (modeOf c m) false (d a))
  | .fcvtDS fd a m => some (fd, 1, fp64.ofValue (modeOf c m) false (s a))
  | .fcvtSH fd a m => some (fd, 2, fp32.ofValue (modeOf c m) false (fp16.value (fsrc c 3 a)))
  | .fcvtSBf fd a m => some (fd, 2, fp32.ofValue (modeOf c m) false (bf16.value (fsrc c 4 a)))
  | .fcvtSE4 fd a m => some (fd, 2, fp32.ofValue (modeOf c m) false (e4m3.value (fsrc c 5 a)))
  | .fcvtSE5 fd a m => some (fd, 2, fp32.ofValue (modeOf c m) false (e5m2.value (fsrc c 6 a)))
  | .fcvtDH fd a m => some (fd, 1, fp64.ofValue (modeOf c m) false (fp16.value (fsrc c 3 a)))
  | .fcvtDBf fd a m => some (fd, 1, fp64.ofValue (modeOf c m) false (bf16.value (fsrc c 4 a)))
  | .fcvtDE4 fd a m => some (fd, 1, fp64.ofValue (modeOf c m) false (e4m3.value (fsrc c 5 a)))
  | .fcvtDE5 fd a m => some (fd, 1, fp64.ofValue (modeOf c m) false (e5m2.value (fsrc c 6 a)))
  | .fcvtHS fd a m sat => some (fd, 3, fp16.ofValue (modeOf c m) sat (s a))
  | .fcvtBfS fd a m sat => some (fd, 4, bf16.ofValue (modeOf c m) sat (s a))
  | .fcvtE4S fd a m sat => some (fd, 5, e4m3.ofValue (modeOf c m) sat (s a))
  | .fcvtE5S fd a m sat => some (fd, 6, e5m2.ofValue (modeOf c m) sat (s a))
  | .fcvtHD fd a m sat => some (fd, 3, fp16.ofValue (modeOf c m) sat (d a))
  | .fcvtBfD fd a m sat => some (fd, 4, bf16.ofValue (modeOf c m) sat (d a))
  | .fcvtE4D fd a m sat => some (fd, 5, e4m3.ofValue (modeOf c m) sat (d a))
  | .fcvtE5D fd a m sat => some (fd, 6, e5m2.ofValue (modeOf c m) sat (d a))
  | .fcvtSW fd r m => some (fd, 2, fp32.ofValue (modeOf c m) false (FVal.ofInt ((c.x r).extractLsb' 0 32).toInt))
  | .fcvtSWu fd r m => some (fd, 2, fp32.ofValue (modeOf c m) false (FVal.ofInt ((c.x r).extractLsb' 0 32).toNat))
  | .fcvtSL fd r m => some (fd, 2, fp32.ofValue (modeOf c m) false (FVal.ofInt (c.x r).toInt))
  | .fcvtSLu fd r m => some (fd, 2, fp32.ofValue (modeOf c m) false (FVal.ofInt (c.x r).toNat))
  | .fcvtDW fd r m => some (fd, 1, fp64.ofValue (modeOf c m) false (FVal.ofInt ((c.x r).extractLsb' 0 32).toInt))
  | .fcvtDWu fd r m => some (fd, 1, fp64.ofValue (modeOf c m) false (FVal.ofInt ((c.x r).extractLsb' 0 32).toNat))
  | .fcvtDL fd r m => some (fd, 1, fp64.ofValue (modeOf c m) false (FVal.ofInt (c.x r).toInt))
  | .fcvtDLu fd r m => some (fd, 1, fp64.ofValue (modeOf c m) false (FVal.ofInt (c.x r).toNat))
  | .fmvWX fd r => some (fd, 2, ((c.x r).toNat % 2 ^ 32, 0#5))
  | .fmvDX fd r => some (fd, 1, ((c.x r).toNat, 0#5))
  | .frecipS fd a _ => some (fd, 2, fp32.recip (fsrc c 2 a))
  | .frecipD fd a _ => some (fd, 1, fp64.recip (fsrc c 1 a))
  | .frecipH fd a _ => some (fd, 3, fp16.recip (fsrc c 3 a))
  | .frecipBf fd a _ => some (fd, 4, bf16.recip (fsrc c 4 a))
  | .frsqrtS fd a _ => some (fd, 2, fp32.rsqrt (fsrc c 2 a))
  | .frsqrtD fd a _ => some (fd, 1, fp64.rsqrt (fsrc c 1 a))
  | .frsqrtH fd a _ => some (fd, 3, fp16.rsqrt (fsrc c 3 a))
  | .frsqrtBf fd a _ => some (fd, 4, bf16.rsqrt (fsrc c 4 a))
  | _ => none

/-- What R130, R131 and R133 give an integer destination: the value and the flags raised. -/
def floatGivesX (c : Ctx) (i : Instr) : Option (XReg × Word × Flags) :=
  let toI (v : FVal) (m : BitVec 3) (sat sg : Bool) (w : Nat) : Nat × Flags := v.toInt (modeOf c m) sat sg w
  let s (r : FReg) := fp32.value (fsrc c 2 r)
  let d (r : FReg) := fp64.value (fsrc c 1 r)
  let w32 (p : Nat × Flags) : Word × Flags := ((BitVec.ofNat 32 p.1).signExtend 64, p.2)
  let w64 (p : Nat × Flags) : Word × Flags := (BitVec.ofNat 64 p.1, p.2)
  let bit1 (p : Bool × Flags) : Word × Flags := (if p.1 then 1 else 0, p.2)
  match i with
  | .feqS rd a b => some (rd, bit1 (fp32.feq (fsrc c 2 a) (fsrc c 2 b)))
  | .fltS rd a b => some (rd, bit1 (fp32.flt (fsrc c 2 a) (fsrc c 2 b)))
  | .fleS rd a b => some (rd, bit1 (fp32.fle (fsrc c 2 a) (fsrc c 2 b)))
  | .feqD rd a b => some (rd, bit1 (fp64.feq (fsrc c 1 a) (fsrc c 1 b)))
  | .fltD rd a b => some (rd, bit1 (fp64.flt (fsrc c 1 a) (fsrc c 1 b)))
  | .fleD rd a b => some (rd, bit1 (fp64.fle (fsrc c 1 a) (fsrc c 1 b)))
  | .fclassS rd a => some (rd, BitVec.ofNat 64 (2 ^ fp32.classBit (fsrc c 2 a)), 0#5)
  | .fclassD rd a => some (rd, BitVec.ofNat 64 (2 ^ fp64.classBit (fsrc c 1 a)), 0#5)
  | .fcvtWS rd a m sat => some (rd, w32 (toI (s a) m sat true 32))
  | .fcvtWuS rd a m sat => some (rd, w32 (toI (s a) m sat false 32))
  | .fcvtLS rd a m sat => some (rd, w64 (toI (s a) m sat true 64))
  | .fcvtLuS rd a m sat => some (rd, w64 (toI (s a) m sat false 64))
  | .fcvtWD rd a m sat => some (rd, w32 (toI (d a) m sat true 32))
  | .fcvtWuD rd a m sat => some (rd, w32 (toI (d a) m sat false 32))
  | .fcvtLD rd a m sat => some (rd, w64 (toI (d a) m sat true 64))
  | .fcvtLuD rd a m sat => some (rd, w64 (toI (d a) m sat false 64))
  | .fmvXW rd a => some (rd, ((c.f a).extractLsb' 0 32).signExtend 64, 0#5)
  | .fmvXD rd a => some (rd, c.f a, 0#5)
  | _ => none

/-- The late floating results of R129: the register, its format code, the cycles, and the value with its flags. -/
def floatLate (c : Ctx) (i : Instr) : Option (FReg × Nat × Nat × (Nat × Flags)) :=
  match i with
  | .fdivS fd a b m =>
    some (fd, 2, 40, roundTo fp32 (modeOf c m) ((fp32.value (fsrc c 2 a)).div (fp32.value (fsrc c 2 b))))
  | .fdivD fd a b m =>
    some (fd, 1, 72, roundTo fp64 (modeOf c m) ((fp64.value (fsrc c 1 a)).div (fp64.value (fsrc c 1 b))))
  | .fsqrtS fd a m => some (fd, 2, 40, roundTo fp32 (modeOf c m) (fp32.value (fsrc c 2 a)).sqrt)
  | .fsqrtD fd a m => some (fd, 1, 72, roundTo fp64 (modeOf c m) (fp64.value (fsrc c 1 a)).sqrt)
  | _ => none

end Sys2Proof.Machine

/-- R126, R128, R130 to R135: a floating instruction that may issue writes the boxed result of the table to fd, or its integer result
to rd, in its turn, ORs its flags into fcsr, moves the PC and touches nothing else. -/
def Obligations.FloatResultsAndFrame : Prop :=
  (∀ (i : Instr) (s : State) (fd : FReg) (code v : Nat) (fl : Flags), floatGives s.cur i = some (fd, code, v, fl) →
    CanIssue i s → ∃ t : State, exec i s = .next t ∧ WroteF s t fd (boxed code v) fl) ∧
  (∀ (i : Instr) (s : State) (rd : XReg) (v : Word) (fl : Flags), floatGivesX s.cur i = some (rd, v, fl) →
    CanIssue i s → ∃ t : State, exec i s = .next t ∧ WroteXFlags s t rd v fl)

/-- R129: FDIV and FSQRT mark fd empty at issue and retire; 40 or 72 cycles later the result is boxed into fd, which is full again,
and its flags are ORed into fcsr; no other register and no byte of memory changes. -/
def Obligations.FloatDivideClaimsThenWrites : Prop :=
  (∀ (i : Instr) (s : State) (fd : FReg) (code n v : Nat) (fl : Flags), floatLate s.cur i = some (fd, code, n, v, fl) →
    CanIssue i s →
    ∃ (t : State) (p : Producer), exec i s = .next t ∧ t.cur.pend = s.cur.pend ++ [p] ∧ p.dest = .f fd ∧
      p.kind = .float (s.now + n) code (BitVec.ofNat 64 v) fl ∧ t.cur.fEmpty fd = true ∧
      t.cur.th.pc = s.cur.th.pc + 4 ∧ (∀ r, t.cur.x r = s.cur.x r) ∧ (∀ r, t.cur.f r = s.cur.f r) ∧
      t.cur.th.fcsr = s.cur.th.fcsr ∧ SameMem s t) ∧
  (∀ (s : State) (t c id due code : Nat) (r : FReg) (cn : Counts) (v old pc : Word) (fl : Flags) (acc : Nat) (l : List Producer), c < 16 →
    (s.ctx (.tile t) c).pend = ⟨id, .f r, cn, old, pc, .float due code v fl, acc⟩ :: l → due ≤ (s.tile t).cycles →
    (∀ p ∈ l, p.dest ≠ .f r) →
    ∃ s' : State, exec (.fdivFsqrtResult t c) s = .next s' ∧ (s'.ctx (.tile t) c).f r = boxed code v.toNat ∧
      (s'.ctx (.tile t) c).fEmpty r = false ∧ (s'.ctx (.tile t) c).pend = l ∧
      (s'.ctx (.tile t) c).th.fcsr = (s.ctx (.tile t) c).th.fcsr ||| fl.zeroExtend 8 ∧
      (∀ q, q ≠ r → (s'.ctx (.tile t) c).f q = (s.ctx (.tile t) c).f q) ∧
      (∀ q, (s'.ctx (.tile t) c).x q = (s.ctx (.tile t) c).x q) ∧ SameMem s s')

/-- R32, R33, R42, R44, R45, R128: in each of the six formats a value that the format can represent rounds to its own code in every
rounding mode, saturating or not, and raises no flag; a NaN operand of an addition, subtraction or multiplication gives the format's
canonical NaN, with the invalid flag exactly when an operand is signalling. -/
def Obligations.RoundingAndNans : Prop :=
  (∀ F ∈ [fp64, fp32, fp16, bf16, e4m3, e5m2], ∀ (m : Rnd) (sat : Bool) (c : Nat), c < 2 ^ F.width →
    ∀ (neg : Bool) (num den : Nat), F.value c = .fin neg num den → F.ofValue m sat (F.value c) = (c, 0#5)) ∧
  (∀ F ∈ [fp64, fp32], ∀ (m : Rnd) (a b : Nat), ((F.value a).isNan = true ∨ (F.value b).isNan = true) →
    let sig := (F.value a).isSnan || (F.value b).isSnan
    F.add m a b = (F.canonicalNan, if sig then 16#5 else 0#5) ∧ F.sub m a b = (F.canonicalNan, if sig then 16#5 else 0#5) ∧
    F.mul m a b = (F.canonicalNan, if sig then 16#5 else 0#5))

/-! ### Loads, stores and atomics -/

namespace Sys2Proof.Machine

/-- A load's destination, extension, pointer, presented witness and wait field (R106, R107, R136, R157). -/
def loadForm (c : Ctx) (i : Instr) : Option (Dest × Ext × Word × Word × BitVec 2) :=
  let at_ (r : XReg) (m : BitVec 12) : Word := effPtr (c.x r) (m.signExtend 64)
  match i with
  | .lb d r m => some (.x d, .s8, at_ r m, 0, 0)
  | .lh d r m => some (.x d, .s16, at_ r m, 0, 0)
  | .lw d r m => some (.x d, .s32, at_ r m, 0, 0)
  | .ld d r m => some (.x d, .d64, at_ r m, 0, 0)
  | .lbu d r m => some (.x d, .u8, at_ r m, 0, 0)
  | .lhu d r m => some (.x d, .u16, at_ r m, 0, 0)
  | .lwu d r m => some (.x d, .u32, at_ r m, 0, 0)
  | .flw d r m => some (.f d, .box32, at_ r m, 0, 0)
  | .fld d r m => some (.f d, .d64, at_ r m, 0, 0)
  | .lbW d r w wt => some (.x d, .s8, at_ r 0, c.x w, wt)
  | .lhW d r w wt => some (.x d, .s16, at_ r 0, c.x w, wt)
  | .lwW d r w wt => some (.x d, .s32, at_ r 0, c.x w, wt)
  | .ldW d r w wt => some (.x d, .d64, at_ r 0, c.x w, wt)
  | .lbuW d r w wt => some (.x d, .u8, at_ r 0, c.x w, wt)
  | .lhuW d r w wt => some (.x d, .u16, at_ r 0, c.x w, wt)
  | .lwuW d r w wt => some (.x d, .u32, at_ r 0, c.x w, wt)
  | _ => none

/-- A store's register for its witness, bytes, size, pointer and wait field (R107, R136, R158). -/
def storeForm (c : Ctx) (i : Instr) : Option (XReg × List Byte × Word × BitVec 2) :=
  let at_ (r : XReg) (m : BitVec 12) : Word := effPtr (c.x r) (m.signExtend 64)
  match i with
  | .sb r v m => some (0, leBytes 1 (c.x v).toNat, at_ r m, 0)
  | .sh r v m => some (0, leBytes 2 (c.x v).toNat, at_ r m, 0)
  | .sw r v m => some (0, leBytes 4 (c.x v).toNat, at_ r m, 0)
  | .sd r v m => some (0, leBytes 8 (c.x v).toNat, at_ r m, 0)
  | .fsw r v m => some (0, leBytes 4 (c.f v).toNat, at_ r m, 0)
  | .fsd r v m => some (0, leBytes 8 (c.f v).toNat, at_ r m, 0)
  | .sbW d r v wt => some (d, leBytes 1 (c.x v).toNat, at_ r 0, wt)
  | .shW d r v wt => some (d, leBytes 2 (c.x v).toNat, at_ r 0, wt)
  | .swW d r v wt => some (d, leBytes 4 (c.x v).toNat, at_ r 0, wt)
  | .sdW d r v wt => some (d, leBytes 8 (c.x v).toNat, at_ r 0, wt)
  | _ => none

/-- A posted atomic's register, operation on the doubleword, pointer and wait field (R163). AFADD.P adds as FADD.D under RNE. -/
def atomicForm (c : Ctx) (i : Instr) : Option (XReg × (Word → Word) × Word × BitVec 2) :=
  match i with
  | .aaddP d r v wt => some (d, fun m => m + c.x v, effPtr (c.x r) 0, wt)
  | .aandP d r v wt => some (d, fun m => m &&& c.x v, effPtr (c.x r) 0, wt)
  | .aorP d r v wt => some (d, fun m => m ||| c.x v, effPtr (c.x r) 0, wt)
  | .axorP d r v wt => some (d, fun m => m ^^^ c.x v, effPtr (c.x r) 0, wt)
  | .aminP d r v wt => some (d, fun m => if m.toInt < (c.x v).toInt then m else c.x v, effPtr (c.x r) 0, wt)
  | .amaxP d r v wt => some (d, fun m => if m.toInt < (c.x v).toInt then c.x v else m, effPtr (c.x r) 0, wt)
  | .aminuP d r v wt => some (d, fun m => if m.toNat < (c.x v).toNat then m else c.x v, effPtr (c.x r) 0, wt)
  | .amaxuP d r v wt => some (d, fun m => if m.toNat < (c.x v).toNat then c.x v else m, effPtr (c.x r) 0, wt)
  | .afaddP d r v wt => some (d, fun m => BitVec.ofNat 64 (fp64.add .rne m.toNat (c.x v).toNat).1, effPtr (c.x r) 0, wt)
  | _ => none

/-- A returning atomic's register, the new value from the old one, pointer and wait field (R164). -/
def returningForm (c : Ctx) (i : Instr) : Option (XReg × (Word → Word) × Word × BitVec 2) :=
  match i with
  | .aadd d r v wt => some (d, fun m => m + c.x v, effPtr (c.x r) 0, wt)
  | .aswap d r v wt => some (d, fun _ => c.x v, effPtr (c.x r) 0, wt)
  | .acas d r v wt => some (d, fun m => if m = c.x d then c.x v else m, effPtr (c.x r) 0, wt)
  | .ldrem d r wt => some (d, fun m => m, effPtr (c.x r) 0, wt)
  | _ => none

/-- A wait field selects nothing that is still under way (R152). -/
abbrev NoWait (wt : BitVec 2) (s : State) : Prop :=
  wt = 0 ∨ (s.cur.countsClear wt = true ∧ s.cur.th.ownList = [] ∧ s.cur.th.ownOver = 0)

/-- A pointer to n aligned bytes of the scratchpad that the issuing slot may touch now: inside the 8 MiB, above the reserved 64 KiB
in U mode, its context's pushed stream elements performed, the pointer not one that the context has migrated for (R26, R28, R106, R211,
R324). -/
abbrev SpadOk (p : Word) (n : Nat) (s : State) : Prop :=
  ptrSpace p = 1 ∧ ptrAddr p < 2 ^ 23 ∧ (s.mode = .u → 0x10000 ≤ ptrAddr p) ∧ ptrAddr p % n = 0 ∧ s.cur.drained = true ∧
  s.cur.carried = none

/-- Offset off of the current tile's own rank may be read and written now: not marked in the poison map, not awaiting evacuation,
nothing held before it, the tile's shell alive, and the context waits for no store it inherited (R111, R155, R323, R350, R412, R413). -/
abbrev OwnOk (off t : Nat) (s : State) : Prop :=
  s.poison t off = 0 ∧ s.awaiting t off = false ∧ s.cur.inherited = false ∧ (s.tile t).held = [] ∧ (s.tile t).shellAlive = true

/-- The destination of a load holds v, nothing else of the registers has changed. -/
def Delivered (s u : State) (d : Dest) (v : Word) : Prop :=
  u.cur.th.pc = s.cur.th.pc + 4 ∧ u.cur.th.fcsr = s.cur.th.fcsr ∧ SameMem s u ∧
  match d with
  | .x rd => (∀ r, u.cur.x r = if r = rd ∧ r ≠ 0 then v else s.cur.x r) ∧ ∀ r, u.cur.f r = s.cur.f r
  | .f fd => (∀ r, u.cur.f r = if r = fd then v else s.cur.f r) ∧ ∀ r, u.cur.x r = s.cur.x r
  | _ => False

end Sys2Proof.Machine

/-- R28, R29, R107, R108, R110, R136, R157: a load from the current tile's scratchpad, or from the current rank's DRAM with its line in
the home cache, delivers in its turn the little-endian bytes there, extended as its kind says, and touches nothing but its context
(no other tile, for DRAM). -/
def Obligations.LoadsInTheirTurn : Prop :=
  (∀ (i : Instr) (s : State) (t : Nat) (d : Dest) (e : Ext) (p w : Word) (wt : BitVec 2), s.focus = .tile t →
    loadForm s.cur i = some (d, e, p, w, wt) → CanIssue i s → SpadOk p e.size s →
    ptrAddr p / 64 ∉ (s.tile t).badLines → NoWait wt s → witWf s.grade w = true → s.checkCur w = .satisfied →
    ∃ u : State, exec i s = .next u ∧ OnlyCur s u ∧
      Delivered s u d (e.apply (leNat (s.mem.read (spadKey t (ptrAddr p)) e.size)))) ∧
  (∀ (i : Instr) (s : State) (t rank off : Nat) (rep xp : Bool) (d : Dest) (e : Ext) (p w : Word) (wt : BitVec 2),
    s.focus = .tile t → loadForm s.cur i = some (d, e, p, w, wt) → CanIssue i s → ptrAddr p % e.size = 0 →
    s.xlatOnce akLoad p = .ok (.dram rank off rep xp) → (rep = true ∨ rank = s.rankOf t) → OwnOk off t s →
    lineOf off ∈ (s.tile t).lines → NoWait wt s → witWf s.grade w = true → s.checkCur w = .satisfied →
    ∃ u : State, exec i s = .next u ∧ (∀ q, q ≠ t → u.tile q = s.tile q) ∧
      Delivered s u d (e.apply (leNat (s.mem.read (dramKey t off) e.size))))

/-- R91, R94, R96, R108, R146: a load of another rank by a light context that may leave makes the context depart for that rank,
its PC, registers and memory as they were; by slot 0, or by a pinned context, it is proxied: the destination is marked empty, one
request for the bytes goes to the tile that the map gives for the rank, and the PC moves on. A load of host memory (space 2) or of
a peer (space 3), no store of class 3 of the context outstanding, marks its destination empty and moves on; the value that the
host answers fills the register (HOST_READ_REPLY). The model's own choices here are those of log 36. -/
def Obligations.LoadsFromElsewhere : Prop :=
  (∀ (i : Instr) (s : State) (t rank off : Nat) (xp : Bool) (d : Dest) (e : Ext) (p w : Word) (wt : BitVec 2),
    s.focus = .tile t → loadForm s.cur i = some (d, e, p, w, wt) → CanIssue i s → ptrAddr p % e.size = 0 →
    s.xlatOnce akLoad p = .ok (.dram rank off false xp) → rank ≠ s.rankOf t → NoWait wt s → witWf s.grade w = true →
    witKind w ≠ 3 →
    ((s.full = false ∧ s.cur.th.pinned = false ∧ s.cur.th.furrow = false ∧ s.cur.proxyNext = false ∧ s.tied = false ∧
        (∀ r, d = .f r → s.cur.bound r = false) ∧ (xp = true → s.partOf rank = s.curPart)) →
      ∃ u : State, exec i s = .next u ∧ u.cur.st = .departing ∧ u.cur.target = rank ∧ u.cur.th.pc = s.cur.th.pc ∧
        (∀ r, u.cur.x r = s.cur.x r) ∧ (∀ r, u.cur.f r = s.cur.f r) ∧ SameMem s u) ∧
    (∀ home, (s.full = true ∨ s.cur.th.pinned = true) → s.cur.th.ownOver = 0 → s.mapOf t rank = some home →
      ∃ (u : State) (m : Msg) (r : ProxyReq), exec i s = .next u ∧ u.net = s.net ++ [m] ∧ m.dst = .tile home ∧ m.rank = some rank ∧ m.body = .proxyReq r ∧
        r.op = .load e.size ∧ r.rank = rank ∧ r.off = off ∧ u.cur.th.pc = s.cur.th.pc + 4 ∧
        (∀ q, d = .x q → q ≠ 0 → u.cur.xEmpty q = true) ∧ (∀ q, d = .f q → u.cur.fEmpty q = true) ∧
        (∀ q, u.cur.x q = s.cur.x q) ∧ (∀ q, u.cur.f q = s.cur.f q) ∧ SameMem s u)) ∧
  ((∀ (i : Instr) (s : State) (t : Nat) (l : Loc) (d : Dest) (e : Ext) (p w : Word) (wt : BitVec 2), s.focus = .tile t →
    loadForm s.cur i = some (d, e, p, w, wt) → CanIssue i s → ptrAddr p % e.size = 0 → s.xlatOnce akLoad p = .ok l →
    s.cur.c3 = 0 → s.cur.th.ownOver = 0 → NoWait wt s → witWf s.grade w = true → s.checkCur w = .satisfied →
    let place : Dest := if d = .x 0 then .none else d
    (∀ a, l = .host a →
      ∃ (u : State) (q : Producer), exec i s = .next u ∧ u.cur.pend = s.cur.pend ++ [q] ∧ q.kind = .host a e.size e ∧ q.dest = place ∧
        u.cur.th.pc = s.cur.th.pc + 4 ∧ (∀ r, u.cur.x r = s.cur.x r) ∧ (∀ r, u.cur.f r = s.cur.f r) ∧ SameMem s u) ∧
    (l = .peer p →
      ∃ (u : State) (m : Msg) (q : Producer), exec i s = .next u ∧ u.net = s.net ++ [m] ∧ m.dst = .bridge (peerEp p % 4) ∧
        (∃ who : Who, m.body = .peerReq who s.curPart p (.load e.size)) ∧ u.cur.pend = s.cur.pend ++ [q] ∧ q.dest = place ∧
        u.cur.th.pc = s.cur.th.pc + 4 ∧ (∀ r, u.cur.x r = s.cur.x r) ∧ (∀ r, u.cur.f r = s.cur.f r) ∧ SameMem s u)) ∧
  (∀ (s : State) (t c id a acc : Nat) (rd : XReg) (e : Ext) (cn : Counts) (old pc w : Word) (l : List Producer), c < 16 → rd ≠ 0 →
    (s.ctx (.tile t) c).pend = ⟨id, .x rd, cn, old, pc, .host a e.size e, acc⟩ :: l → (∀ q ∈ l, q.dest ≠ .x rd) →
    ∃ s' : State, exec (.hostReadReply t c w) s = .next s' ∧ (s'.ctx (.tile t) c).x rd = e.apply w.toNat ∧
      (s'.ctx (.tile t) c).xEmpty rd = false ∧ (s'.ctx (.tile t) c).pend = l ∧
      (∀ r, r ≠ rd → (s'.ctx (.tile t) c).x r = (s.ctx (.tile t) c).x r) ∧ SameMem s s'))

/-- R106, R28, R327: an access whose address is not a multiple of its size traps with cause 4 (loads and returning atomics) or 6
(stores), the pointer as its value; a scratchpad address of 2^23 or more, or one of the reserved 64 KiB in U mode, or a space of 4 or
more, is an access fault, 5 or 7, unless the context has migrated for it. Nothing is read or written. -/
def Obligations.MisalignedAndForeignPointersTrap : Prop :=
  ∀ (i : Instr) (s : State) (t : Nat), s.focus = .tile t → CanIssue i s →
    (∀ d e p w wt, loadForm s.cur i = some (d, e, p, w, wt) →
      (ptrAddr p % e.size ≠ 0 → exec i s = .next (s.trap 4 p)) ∧
      (ptrAddr p % e.size = 0 → s.cur.carried = none → (4 ≤ ptrSpace p ∨ (ptrSpace p = 1 ∧ (2 ^ 23 ≤ ptrAddr p ∨ (s.mode = .u ∧ ptrAddr p < 0x10000)))) →
        exec i s = .next (s.trap 5 p))) ∧
    (∀ d b p, storeForm s.cur i = some (d, b, p, 0) →
      (ptrAddr p % b.length ≠ 0 → exec i s = .next (s.trap 6 p)) ∧
      (ptrAddr p % b.length = 0 → s.cur.carried = none →
        (4 ≤ ptrSpace p ∨ (ptrSpace p = 1 ∧ (2 ^ 23 ≤ ptrAddr p ∨ (s.mode = .u ∧ ptrAddr p < 0x10000)))) →
        exec i s = .next (s.trap 7 p))) ∧
    (∀ d f p wt, returningForm s.cur i = some (d, f, p, wt) → ptrAddr p % 8 ≠ 0 → exec i s = .next (s.trap 4 p)) ∧
    (∀ d f p, atomicForm s.cur i = some (d, f, p, 0) → ptrAddr p % 8 ≠ 0 → exec i s = .next (s.trap 6 p)) ∧
    (∀ d r, i = .tdec d r 0 → ptrAddr (effPtr (s.cur.x r) 0) % 16 ≠ 0 → exec i s = .next (s.trap 6 (effPtr (s.cur.x r) 0)))

/-- R107, R109, R136, R143, R148, R158, R163: a store or posted atomic to the current tile's scratchpad, or to the current rank with
room in the journal and nothing to hold it back, performs in its turn: exactly the bytes of its size at its address change, to the
value's low bytes or to the operation's result. In the scratchpad rd holds the null witness and nothing but the context and memory
changes; in DRAM rd holds the pair witness of the next sequence number from the rank to itself, the home has settled that number, and
the journal is as it was. -/
def Obligations.StoresInTheirTurn : Prop :=
  (∀ (i : Instr) (s : State) (t : Nat), s.focus = .tile t → CanIssue i s →
    (∀ d b p wt, storeForm s.cur i = some (d, b, p, wt) → SpadOk p b.length s → NoWait wt s →
      ∃ u : State, exec i s = .next u ∧ u.mem.read (spadKey t (ptrAddr p)) b.length = b ∧
        (∀ a, (a < spadKey t (ptrAddr p) ∨ spadKey t (ptrAddr p) + b.length ≤ a) → u.mem.get a = s.mem.get a) ∧
        (∀ r, u.cur.x r = if r = d ∧ r ≠ 0 then 0 else s.cur.x r) ∧ (∀ r, u.cur.f r = s.cur.f r) ∧
        u.cur.th.pc = s.cur.th.pc + 4 ∧ u.cur.th.fcsr = s.cur.th.fcsr ∧
        u = { s with mem := u.mem }.setCtx s.focus s.curSlot u.cur) ∧
    (∀ d f p wt, atomicForm s.cur i = some (d, f, p, wt) → SpadOk p 8 s → NoWait wt s →
      ∃ u : State, exec i s = .next u ∧ u.mem.word (spadKey t (ptrAddr p)) = f (s.mem.word (spadKey t (ptrAddr p))) ∧
        (∀ a, (a < spadKey t (ptrAddr p) ∨ spadKey t (ptrAddr p) + 8 ≤ a) → u.mem.get a = s.mem.get a) ∧
        (∀ r, u.cur.x r = if r = d ∧ r ≠ 0 then 0 else s.cur.x r) ∧ (∀ r, u.cur.f r = s.cur.f r) ∧
        u.cur.th.pc = s.cur.th.pc + 4 ∧ u.cur.th.fcsr = s.cur.th.fcsr)) ∧
  (∀ (i : Instr) (s : State) (t k off : Nat) (rep xp : Bool) (p : Word), s.focus = .tile t → CanIssue i s →
    (s.tile t).rank = some k → k < 4095 → s.xlatOnce akStore p = .ok (.dram k off rep xp) → OwnOk off t s →
    (s.tile t).journal.length < 1024 → s.kernelOf = none → (s.tile t).obs.watches = [] →
    let w := pairWit k k ((tgetD (s.tile t).box.issue k 0 + 1) % 2 ^ 38)
    (∀ d b wt, storeForm s.cur i = some (d, b, p, wt) → ptrAddr p % b.length = 0 → NoWait wt s →
      ∃ u : State, exec i s = .next u ∧ u.mem.read (dramKey t off) b.length = b ∧
        (∀ a, (a < dramKey t off ∨ dramKey t off + b.length ≤ a) → u.mem.get a = s.mem.get a) ∧
        (∀ r, u.cur.x r = if r = d ∧ r ≠ 0 then w else s.cur.x r) ∧ u.cur.th.pc = s.cur.th.pc + 4 ∧
        (u.tile t).journal = (s.tile t).journal ∧ tget (u.tile t).box.settled k = some (witSeq w)) ∧
    (∀ d f wt, atomicForm s.cur i = some (d, f, p, wt) → ptrAddr p % 8 = 0 → NoWait wt s →
      ∃ u : State, exec i s = .next u ∧ u.mem.word (dramKey t off) = f (s.mem.word (dramKey t off)) ∧
        (∀ a, (a < dramKey t off ∨ dramKey t off + 8 ≤ a) → u.mem.get a = s.mem.get a) ∧
        (∀ r, u.cur.x r = if r = d ∧ r ≠ 0 then w else s.cur.x r) ∧ u.cur.th.pc = s.cur.th.pc + 4))

/-- R109, R143, R146, R148, R150, R152, R158: a store or posted atomic to another rank changes no byte of memory: it takes the
pair's next sequence number, a journal entry and its class count, and goes as one message to the tile that the map gives for the
rank; rd holds its pair witness and the PC moves on. One to host memory (space 2) or to a peer (space 3) takes a journal entry and
raises class 3; rd holds the tick witness of the next TICK; the host port's completion (HOST_WRITE_COMPLETION) lowers the count
again. The model's own choices here are those of log 9, 36 and 79. -/
def Obligations.StoresToElsewhere : Prop :=
  (∀ (i : Instr) (s : State) (t k rank off home : Nat) (xp : Bool) (p : Word) (d : XReg) (op : PostOp) (n : Nat) (wt : BitVec 2),
    s.focus = .tile t → CanIssue i s → (s.tile t).rank = some k → k < 4095 → rank < 4095 → rank ≠ k →
    s.xlatOnce akStore p = .ok (.dram rank off false xp) → s.mapOf t rank = some home → (s.tile t).journal.length < 1024 →
    s.kernelOf = none → NoWait wt s → ptrAddr p % n = 0 →
    ((∃ b : List Byte, storeForm s.cur i = some (d, b, p, wt) ∧ op = .store b ∧ n = b.length) ∨
      (∃ r : XReg, i = .tdec d r wt ∧ p = effPtr (s.cur.x r) 0 ∧ op = .tdec ∧ n = 16) ∨
      (∃ (a : AtomOp) (r v : XReg), (i = .aaddP d r v wt ∧ a = AtomOp.add ∨ i = .aandP d r v wt ∧ a = AtomOp.and ∨ i = .aorP d r v wt ∧ a = AtomOp.or ∨
        i = .axorP d r v wt ∧ a = AtomOp.xor ∨ i = .aminP d r v wt ∧ a = AtomOp.min ∨ i = .amaxP d r v wt ∧ a = AtomOp.max ∨
        i = .aminuP d r v wt ∧ a = AtomOp.minu ∨ i = .amaxuP d r v wt ∧ a = AtomOp.maxu ∨ i = .afaddP d r v wt ∧ a = AtomOp.fadd) ∧
        p = effPtr (s.cur.x r) 0 ∧ op = .atomic a (s.cur.x v) ∧ n = 8)) →
    let seq := (tgetD (s.tile t).box.issue rank 0 + 1) % 2 ^ 38
    ∃ (u : State) (m : Msg) (q : Posted) (e : JEntry), exec i s = .next u ∧ u.net = s.net ++ [m] ∧ m.dst = .tile home ∧ m.rank = some rank ∧ m.body = .posted q ∧
      q.op = op ∧ q.rank = rank ∧ q.off = off ∧ q.src = k ∧ q.seq = seq ∧
      (u.tile t).journal = (s.tile t).journal ++ [e] ∧ e.idx = q.jidx ∧ e.dst = .rank rank ∧ e.seq = seq ∧
      tget (u.tile t).box.issue rank = some seq ∧
      u.cur.c1 = s.cur.c1 + (if fieldOf home = fieldOf t then 1 else 0) ∧
      u.cur.c2 = s.cur.c2 + (if fieldOf home = fieldOf t then 0 else 1) ∧ u.cur.c3 = s.cur.c3 ∧
      (∀ r, u.cur.x r = if r = d ∧ r ≠ 0 then pairWit k rank seq else s.cur.x r) ∧
      pairWit k rank seq ∈ u.cur.th.own.toList ∧ u.cur.th.pc = s.cur.th.pc + 4 ∧ SameMem s u) ∧
  ((∀ (i : Instr) (s : State) (t : Nat) (l : Loc) (p : Word) (d : XReg) (b : List Byte), s.focus = .tile t → CanIssue i s →
    storeForm s.cur i = some (d, b, p, 0) → ptrAddr p % b.length = 0 → s.xlatOnce akStore p = .ok l →
    (s.tile t).journal.length < 1024 → s.kernelOf = none → (l = .peer p ∨ ∃ a : Nat, l = .host a) →
    ∃ u : State, exec i s = .next u ∧ u.cur.c3 = s.cur.c3 + 1 ∧ (u.tile t).journal.length = (s.tile t).journal.length + 1 ∧
      (∀ r, u.cur.x r = if r = d ∧ r ≠ 0 then tickWit (s.tick + 1) else s.cur.x r) ∧ u.cur.th.pc = s.cur.th.pc + 4 ∧
      SameMem s u ∧
      (∀ a, l = .host a → ∃ idx : Nat, u.hostWrites = s.hostWrites ++ [(t, idx, a, b)]) ∧
      (l = .peer p → ∃ (m : Msg) (idx : Nat), u.net = s.net ++ [m] ∧ m.dst = .bridge (peerEp p % 4) ∧
        m.body = .peerPost t idx (s.partOf (s.rankOf t)) p (.store b))) ∧
  (∀ (s : State) (t idx a c : Nat) (b : List Byte) (e : JEntry) (l : List JEntry) (r : List (Nat × Nat × Nat × List Byte)), t < 4095 → c < 16 →
    s.hostWrites = (t, idx, a, b) :: r → (s.tile t).journal = e :: l → e.idx = idx → e.slot = some c → e.cls = 3 → e.eng = none →
    ∃ s' : State, exec (.hostWriteCompletion 0) s = .next s' ∧ s'.hostWrites = r ∧ (s'.tile t).journal = l ∧
      (s'.ctx (.tile t) c).c3 = (s.ctx (.tile t) c).c3 - 1 ∧ SameMem s s'))

namespace Sys2Proof.Machine

/-- What a home is asked for LDREM or a returning atomic, and the kind of access it is (R115, R164). -/
def returningOp (c : Ctx) (i : Instr) : AKind × ProxOp :=
  match i with
  | .aadd _ _ v _ => (akRet, .ret .add (c.x v) 0)
  | .aswap _ _ v _ => (akRet, .ret .swap (c.x v) 0)
  | .acas d _ v _ => (akRet, .ret .cas (c.x v) (c.x d))
  | _ => (akLoad, .load 8)

/-- An instruction that leaves bounce, run and the pin state of its context as they were (R113, R185, R192, R234, R253). -/
structure QuietCounts (s u : State) : Prop where
  run : u.cur.th.run = s.cur.th.run
  bounce : u.cur.th.bounce = s.cur.th.bounce
  pcount : u.cur.th.pcount = s.cur.th.pcount
  pinned : u.cur.th.pinned = s.cur.th.pinned

/-- u is s after an instruction that claims x_d for a late value (nothing for x0) and goes on: every register, flag and byte of
memory but those of [k, k + n) is as it was. -/
structure ClaimedX (s u : State) (d : XReg) (k n : Nat) : Prop where
  claim : ∃ q : Producer, u.cur.pend = s.cur.pend ++ [q] ∧ q.dest = if d = 0 then .none else .x d
  x : ∀ r, u.cur.x r = s.cur.x r
  f : ∀ r, u.cur.f r = s.cur.f r
  fcsr : u.cur.th.fcsr = s.cur.th.fcsr
  pc : u.cur.th.pc = s.cur.th.pc + 4
  mem : ∀ a, (a < k ∨ k + n ≤ a) → u.mem.get a = s.mem.get a

end Sys2Proof.Machine

/-- R94, R110, R115, R164, R165: LDREM and a returning atomic, at the current tile's scratchpad or in the current rank's DRAM, mark rd
empty and move on; the doubleword takes the operation's result at once, no other byte changes, and the old value is on its way to rd.
At another rank LDREM, and a returning atomic of slot 0 or of a pinned context, mark rd empty, move on and send one request to the
tile that the map gives for the rank; a returning atomic of a light context that may leave makes it depart. A returning atomic of
host memory traps with cause 5. TDEC in the scratchpad lowers the counter's count and writes the null witness to rd. -/
def Obligations.ReturningAtomicAtScratchpad : Prop :=
  ∀ (i : Instr) (s : State) (t : Nat) (d : XReg) (p : Word) (wt : BitVec 2), s.focus = .tile t → CanIssue i s →
    (∀ f, returningForm s.cur i = some (d, f, p, wt) → NoWait wt s →
      let kind := (returningOp s.cur i).1
      (SpadOk p 8 s → ptrAddr p / 64 ∉ (s.tile t).badLines →
        let key := spadKey t (ptrAddr p)
        ∃ (u : State) (m : Msg) (who : Who) (own : Word), exec i s = .next u ∧ ClaimedX s u d key 8 ∧
          u.mem.word key = f (s.mem.word key) ∧ u.net = s.net ++ [m] ∧ m.body = .proxyRep who own (.value (s.mem.word key))) ∧
      (∀ rank off rep xp, ptrAddr p % 8 = 0 → s.xlatOnce kind p = .ok (.dram rank off rep xp) → s.kernelOf = none →
        ((rep = true ∨ rank = s.rankOf t) → OwnOk off t s → (kind = akLoad → lineOf off ∈ (s.tile t).lines) →
          (s.tile t).obs.watches = [] →
          let key := dramKey t off
          ∃ (u : State) (m : Msg) (who : Who) (own : Word), exec i s = .next u ∧ ClaimedX s u d key 8 ∧
            u.mem.word key = f (s.mem.word key) ∧ u.net = s.net ++ [m] ∧ m.body = .proxyRep who own (.value (s.mem.word key))) ∧
        (∀ home, rep = false → rank ≠ s.rankOf t → (s.full = true ∨ s.cur.th.pinned = true ∨ kind = akLoad) →
          s.cur.th.ownOver = 0 → s.mapOf t rank = some home →
          ∃ (u : State) (m : Msg) (r : ProxyReq), exec i s = .next u ∧ ClaimedX s u d 0 0 ∧ u.net = s.net ++ [m] ∧ m.dst = .tile home ∧
            m.rank = some rank ∧ m.body = .proxyReq r ∧ r.op = (returningOp s.cur i).2 ∧ r.rank = rank ∧ r.off = off) ∧
        (rep = false → rank ≠ s.rankOf t → kind = akRet → s.full = false → s.cur.th.pinned = false → s.cur.th.furrow = false →
          s.cur.proxyNext = false → s.tied = false → xp = false →
          ∃ u : State, exec i s = .next u ∧ u.cur.st = .departing ∧ u.cur.target = rank ∧ u.cur.th.pc = s.cur.th.pc ∧
            (∀ r, u.cur.x r = s.cur.x r) ∧ SameMem s u)) ∧
      (∀ a, ptrAddr p % 8 = 0 → kind = akRet → s.xlatMode false = none → s.xlatOnce kind p = .ok (.host a) →
        exec i s = .next (s.trap 5 p))) ∧
    (∀ r, i = .tdec d r wt → NoWait wt s → p = effPtr (s.cur.x r) 0 → SpadOk p 16 s →
      let k := spadKey t (ptrAddr p)
      let dw := s.mem.word k
      ((dw.extractLsb' 32 32 ≠ 1#32 ∨ dw.getLsbD 31 = false) →
        ∃ u : State, exec i s = .next u ∧ (u.mem.word k).extractLsb' 32 32 = dw.extractLsb' 32 32 - 1#32 ∧
          (∀ a, (a < k ∨ k + 8 ≤ a) → u.mem.get a = s.mem.get a) ∧ (∀ q, u.cur.x q = if q = d ∧ q ≠ 0 then 0 else s.cur.x q) ∧
          u.cur.th.pc = s.cur.th.pc + 4) ∧
      (dw.extractLsb' 32 32 = 1#32 → dw.getLsbD 31 = true → (s.tile t).runList.length < 128 →
        ∃ u : State, exec i s = .next u ∧ (u.mem.word k).extractLsb' 32 32 = 0#32 ∧ (u.mem.word k).getLsbD 31 = false ∧
          (∀ a, (a < k ∨ k + 8 ≤ a) → u.mem.get a = s.mem.get a) ∧ (∀ q, u.cur.x q = if q = d ∧ q ≠ 0 then 0 else s.cur.x q) ∧
          (u.tile t).runList = (s.tile t).runList ++ [descOf (s.mem.word (k + 8))] ∧ u.cur.th.pc = s.cur.th.pc + 4))

/-- R113, R114: MIGRATE of a light context that may leave departs for the rank its pointer names, or retires where it stands when that
is its own; HOME writes to rd the word that says where its pointer leads, 0 for one that faults, and never traps; HOME's pointer is rs1 itself. -/
def Obligations.MigrateAndHome : Prop :=
  (∀ (s : State) (t rank off : Nat) (r : XReg) (rep xp : Bool), s.focus = .tile t → CanIssue (.migrate r) s →
    ownIllegal (.migrate r) s = false → s.xlatOnce akLoad (effPtr (s.cur.x r) 0) = .ok (.dram rank off rep xp) →
    ((rep = false ∧ rank ≠ s.rankOf t) → ∃ u : State, exec (.migrate r) s = .next u ∧ u.cur.st = .departing ∧ u.cur.target = rank ∧
      u.cur.explicit = true ∧ u.cur.th.pc = s.cur.th.pc ∧ (∀ q, u.cur.x q = s.cur.x q) ∧ SameMem s u) ∧
    ((rep = true ∨ rank = s.rankOf t) → ∃ u : State, exec (.migrate r) s = .next u ∧ u.cur.st = .ready ∧
      u.cur.th.pc = s.cur.th.pc + 4 ∧ (∀ q, u.cur.x q = s.cur.x q) ∧ SameMem s u)) ∧
  (∀ (s : State) (t : Nat) (d r : XReg), s.focus = .tile t → CanIssue (.home d r) s →
    let p := s.cur.x r
    let c := s.rankOf t
    ((ptrSpace p = 1 ∧ ptrAddr p < 2 ^ 23 ∧ (s.mode = .u → 0x10000 ≤ ptrAddr p)) → ∃ u : State, exec (.home d r) s = .next u ∧
      WroteX s u d (BitVec.ofNat 64 (2 ^ 60 + c * 2 ^ 16 + 1)) (s.cur.th.pc + 4)) ∧
    (∀ rank off rep xp, s.xlat akLoad p = .ok (.dram rank off rep xp) → ∃ u : State, exec (.home d r) s = .next u ∧
      Put s u d (BitVec.ofNat 64 (s.classOf t (if rep then c else rank) * 2 ^ 62 + ptrSpace p * 2 ^ 60 + (if rep then c else rank) * 2 ^ 16 +
        off / 256 % 16 * 2 ^ 12 + 1))) ∧
    (∀ l, s.xlat akLoad p = .ok l → (l = .peer p ∨ ∃ a : Nat, l = .host a) → ∃ u : State, exec (.home d r) s = .next u ∧
      Put s u d (BitVec.ofNat 64 (3 * 2 ^ 62 + ptrSpace p * 2 ^ 60 + 1))) ∧
    ((4 ≤ ptrSpace p ∨ s.xlat akLoad p = .pageFault ∨ s.xlat akLoad p = .accessFault) →
      ∃ u : State, exec (.home d r) s = .next u ∧ WroteX s u d 0 (s.cur.th.pc + 4)))

/-! ### Witnesses, fences and the system instructions -/

namespace Sys2Proof.Machine

/-- The join of two well-formed witnesses at a TICK (R149), by its table. -/
def joinOf (tick : Nat) (a b : Word) : Word :=
  let mixed (x : Word) (t : Nat) : Nat := if fld x 63 62 = 2 then max t (fld x 61 0) else t
  if fld a 63 62 = 3 then a else if fld b 63 62 = 3 then b
  else if fld a 63 62 = 0 then b else if fld b 63 62 = 0 then a
  else if fld a 63 62 = 1 ∧ fld b 63 62 = 1 ∧ fld a 61 38 = fld b 61 38 then
    (if (fld a 37 0 + 2 ^ 38 - fld b 37 0) % 2 ^ 38 < 2 ^ 37 then a else b)
  else if fld a 63 62 = 2 ∧ fld b 63 62 = 2 then (if fld b 61 0 ≤ fld a 61 0 then a else b)
  else BitVec.ofNat 64 (2 ^ 63 + mixed b (mixed a ((tick + 1) % 2 ^ 62)))

/-- What the issuing slot's tile can say of a well-formed witness (R144, R146, R147): 0 outstanding, 1 satisfied, 2 poison; none for
a pair of another destination rank. -/
def witState (s : State) (a : Word) : Option Nat :=
  let T := s.curT
  let gap (c : Nat) : Nat := (fld a 37 0 + 2 ^ 38 - c) % 2 ^ 38
  if fld a 63 62 = 0 then some 1
  else if fld a 63 62 = 2 then some (if fld a 61 0 ≤ T.dtick then 1 else 0)
  else if fld a 63 62 = 3 then some 2
  else if fld a 49 38 ≠ s.curRank ∨ s.focus ≠ .tile s.curTile then none
  else if 1 ≤ gap (tgetD T.box.settled (fld a 61 50) 0) ∧ gap (tgetD T.box.settled (fld a 61 50) 0) ≤ 1024 then some 0
  else
    match tget T.box.marks (fld a 61 50) with
    | some m => some (if gap m.seq < 2 ^ 37 then 2 else 1)
    | none => some 1

end Sys2Proof.Machine

/-- R142, R149, R159, R160, R161, R162, R68: the witness instructions. WJOIN, WCOARSEN and WSELF write their result in their turn; a
malformed operand of an instruction that interprets it traps with cause 25 and the witness. WWAIT goes on when the witness is satisfied, parks while it is outstanding,
traps with cause 26 on poison, and for a pair of another rank sends one probe to that rank and parks. WTEST writes 0, 1 or 2, or for
such a pair marks rd empty and sends one probe. PFENCE and FENCE retire when their classes have settled. -/
def Obligations.WitnessInstructions : Prop :=
  ∀ s : State,
    (∀ rd r1 r2, CanIssue (.wjoin rd r1 r2) s →
      ((witWf s.grade (s.cur.x r1) = true ∧ witWf s.grade (s.cur.x r2) = true) →
        ∃ t : State, exec (.wjoin rd r1 r2) s = .next t ∧
          WroteX s t rd (joinOf s.tick (s.cur.x r1) (s.cur.x r2)) (s.cur.th.pc + 4)) ∧
      (witWf s.grade (s.cur.x r1) = false → exec (.wjoin rd r1 r2) s = .next (s.trap 25 (s.cur.x r1))) ∧
      ((witWf s.grade (s.cur.x r1) = true ∧ witWf s.grade (s.cur.x r2) = false) →
        exec (.wjoin rd r1 r2) s = .next (s.trap 25 (s.cur.x r2)))) ∧
    (∀ rd r1, CanIssue (.wcoarsen rd r1) s → witWf s.grade (s.cur.x r1) = false →
      exec (.wcoarsen rd r1) s = .next (s.trap 25 (s.cur.x r1))) ∧
    (∀ rd r1, CanIssue (.wtest rd r1) s → witWf s.grade (s.cur.x r1) = false →
      exec (.wtest rd r1) s = .next (s.trap 25 (s.cur.x r1))) ∧
    (∀ rd r1, CanIssue (.wcoarsen rd r1) s → witWf s.grade (s.cur.x r1) = true →
      ∃ t : State, exec (.wcoarsen rd r1) s = .next t ∧
        WroteX s t rd (if fld (s.cur.x r1) 63 62 = 1 then BitVec.ofNat 64 (2 ^ 63 + (s.tick + 1) % 2 ^ 62) else s.cur.x r1)
          (s.cur.th.pc + 4)) ∧
    (∀ rd, CanIssue (.wself rd) s → ∃ t : State, exec (.wself rd) s = .next t ∧
      WroteX s t rd ((s.cur.th.own.toList ++ [s.cur.th.ownOver]).foldl (joinOf s.tick) 0) (s.cur.th.pc + 4)) ∧
    (∀ r1 d, CanIssue (.wwait r1) s →
      let a := s.cur.x r1
      (witWf s.grade a = false → exec (.wwait r1) s = .next (s.trap 25 a)) ∧
      (witWf s.grade a = true →
        (witState s a = some 1 → ∃ t : State, exec (.wwait r1) s = .next t ∧ WentTo s t (s.cur.th.pc + 4)) ∧
        (witState s a = some 0 → exec (.wwait r1) s = .next (s.modCur fun c => { c with st := .parkedWit, wait := .wit a })) ∧
        (witState s a = some 2 → exec (.wwait r1) s = .next (s.trap 26 a)) ∧
        (witState s a = none → s.cur.probes = [] → s.mapOfNode s.focus.node (fld a 49 38) = some d →
          ∃ (t : State) (m : Msg) (q : Probe), exec (.wwait r1) s = .next t ∧ Aside s t ∧ t.cur.st = .parkedWit ∧ t.cur.th.pc = s.cur.th.pc ∧
            t.cur.probes = [q] ∧ q.key = .wit a ∧ t.net = s.net ++ [m] ∧ m.dst = .tile d ∧
            m.body = .probe ⟨s.focus, s.curSlot, q.id⟩ (.wit a) true))) ∧
    (∀ rd r1 d tl, s.focus = .tile tl → CanIssue (.wtest rd r1) s → witWf s.grade (s.cur.x r1) = true →
      let a := s.cur.x r1
      (∀ v, witState s a = some v → ∃ t : State, exec (.wtest rd r1) s = .next t ∧
        WroteX s t rd (BitVec.ofNat 64 v) (s.cur.th.pc + 4)) ∧
      (witState s a = none → s.mapOf tl (fld a 49 38) = some d →
        ∃ (t : State) (m : Msg) (id : Nat), exec (.wtest rd r1) s = .next t ∧ Put s t 0 0 ∧ (rd ≠ 0 → t.cur.xEmpty rd = true) ∧
          t.net = s.net ++ [m] ∧ m.dst = .tile d ∧ m.body = .probe ⟨s.focus, s.curSlot, id⟩ (.wit a) false)) ∧
    (∀ wt, CanIssue (.pfence wt) s → NoWait wt s →
      ∃ t : State, exec (.pfence wt) s = .next t ∧ WentTo s t (s.cur.th.pc + 4)) ∧
    (∀ fm p q r d, CanIssue (.fence fm p q r d) s → NoWait 3 s →
      ∃ t : State, exec (.fence fm p q r d) s = .next t ∧ WentTo s t (s.cur.th.pc + 4)) ∧
    (∀ wt, CanIssue (.pfence wt) s → s.cur.countsClear wt = false →
      exec (.pfence wt) s = .next (s.modCur fun c => { c with st := .parkedWit, wait := .counts wt }))

namespace Sys2Proof.Machine

/-- What GTOPO's selectors read (R116); none reads all ones. A mill core stands on no tile (log 109). -/
def topoGives (s : State) (sel : Nat) : Option Nat :=
  let n := s.grade
  let lines (k : Nat) : Nat := (k + 29) / 30
  let here : Option Nat := match s.focus with
    | .tile t => some t
    | .mill _ => none
  let rank : Option Nat := here.bind fun t => (s.tile t).rank
  let inPart (f : Nat → Part → Option Nat) : Option Nat :=
    match s.curPart with
    | some p => match tget s.parts p with
      | some P => f p P
      | none => none
    | none => none
  let place (f : Nat → Nat) : Option Nat :=
    inPart fun _ P => rank.bind fun k => (P.ranks.findIdx? (· == k)).map f
  match sel with
  | 0 => some n
  | 1 => some 30
  | 2 => some (lines n)
  | 3 => some (n - 30 * (lines n - 1))
  | 4 => rank
  | 5 => rank.map (· % 30)
  | 6 => rank.map (· / 30)
  | 7 => inPart fun p _ => some p
  | 8 => inPart fun _ P => some P.ranks.length
  | 9 => place id
  | 10 => place (· % 30)
  | 11 => place (· / 30)
  | 12 => inPart fun _ P => some (lines P.ranks.length)
  | 13 => inPart fun _ P => some (P.ranks.length - 30 * (lines P.ranks.length - 1))
  | 14 => inPart fun _ P => P.ranks.head?
  | 15 => some s.curSlot
  | 16 => some (s.tiles.filter fun x => x.2.life == .spare).length
  | 17 => some (match here with
    | some t => (s.tile t).mapGen
    | none => s.gen)
  | 18 => here.map fieldOf
  | 19 => inPart fun _ P => some ((P.fields.map fun f => 2 ^ f).sum)
  | _ => none

end Sys2Proof.Machine

/-- R116, R97: GTOPO's word is the one of the table, with a selector below 20; another selector is rejected and is an illegal
instruction. GTOPO writes its selector's value to rd, all ones for a marked selector on a tile without a rank, and touches nothing
else. PIN and UNPIN set the pin state of a context that is not furrow-bound and leave that of one that is. The model's own choices here
are those of log 109. -/
def Obligations.TopologyAndPins : Prop :=
  ((∀ (rd : XReg) (u : BitVec 5),
      let w := 0b0001010#7 ++ u ++ 0b00000#5 ++ 0b000#3 ++ rd ++ 0b0101011#7
      (u.toNat < 20 → decode w = .ok (.gtopo rd u)) ∧ (20 ≤ u.toNat → ∃ e : DecodeError, decode w = .reject e)) ∧
    decode 0x1000002B = .ok .pin ∧ decode 0x1200002B = .ok .unpin) ∧
  (∀ s : State,
    (∀ rd u, CanIssue (.gtopo rd u) s → u.toNat < 20 → ∃ t : State, exec (.gtopo rd u) s = .next t ∧
      WroteX s t rd (match topoGives s u.toNat with
        | some v => BitVec.ofNat 64 v
        | none => -1) (s.cur.th.pc + 4)) ∧
    (∀ (rd : XReg) (u : BitVec 5), 20 ≤ u.toNat →
      exec (.gtopo rd u) s = .next (s.trap 2 ((Instr.gtopo rd u).word.zeroExtend 64))) ∧
    (s.cur.th.furrow = true →
      (CanIssue .pin s → ∃ t : State, exec .pin s = .next t ∧ WentTo s t (s.cur.th.pc + 4)) ∧
      (CanIssue .unpin s → ∃ t : State, exec .unpin s = .next t ∧ WentTo s t (s.cur.th.pc + 4))) ∧
    (s.cur.th.furrow = false →
      (CanIssue .pin s → ∃ t : State, exec .pin s = .next t ∧ Put s t 0 0 ∧ t.cur.th.pinned = true ∧ t.cur.th.pcount = 0 ∧
        t.cur.th.bounce = 0) ∧
      (CanIssue .unpin s → ∃ t : State, exec .unpin s = .next t ∧ Put s t 0 0 ∧ t.cur.th.pinned = false ∧ t.cur.th.pcount = 0 ∧
        t.cur.th.bounce = 0)))

/-- R123, R124, R377, R259, R260: WFI goes on while an enabled interrupt is pending and else waits for WFI_WAKE; FENCE.I forgets
the tile's prefetched lines; TRACEMARK sends one record with its operand to the partition's ring, if it has one; a completion interrupt saves the
PC and enters the handler, and UIRET returns from it. The model's own choices here are those of log 18. -/
def Obligations.SystemInstructions : Prop :=
  (∀ s : State,
    (CanIssue .wfi s → ownIllegal .wfi s = false →
      (s.mip s.focus &&& (s.priv s.focus).mie ≠ 0 → ∃ t : State, exec .wfi s = .next t ∧ WentTo s t (s.cur.th.pc + 4)) ∧
      (s.mip s.focus &&& (s.priv s.focus).mie = 0 → ∃ t : State, exec .wfi s = .next t ∧ Aside s t ∧ t.cur.th.pc = s.cur.th.pc ∧
        t.cur.stage = .wfi)) ∧
    (CanIssue .fenceI s →
      ∃ t : State, exec .fenceI s = .next t ∧ Put s t 0 0 ∧ ∀ tl c, s.focus = .tile tl → (t.ctx (.tile tl) c).pref = none) ∧
    (∀ tl r u, s.focus = .tile tl → CanIssue (.tracemark r u) s → s.curPart = none →
      ∃ t : State, exec (.tracemark r u) s = .next t ∧ WentTo s t (s.cur.th.pc + 4)) ∧
    (∀ tl r u p P d, s.focus = .tile tl → CanIssue (.tracemark r u) s → (s.tile tl).traceFlight < 16 → (s.tile tl).samples = [] →
      tl < 1024 → s.rankOf tl < 4096 → p < 16 → s.partOf (s.rankOf tl) = some p → tget s.parts p = some P → P.traceSlots ≠ 0 →
      tget s.rankTile P.traceRank = some d →
      ∃ (t : State) (m : Msg) (w : List Word), exec (.tracemark r u) s = .next t ∧ Put s t 0 0 ∧ t.net = s.net ++ [m] ∧ m.dst = .tile d ∧
        m.body = .traceRec p tl w ∧ w.length = 6 ∧ w.getD 5 0 = s.cur.x r ∧
        w.getD 4 0 = (if s.full then 0 else s.cur.th.gtid) ∧ fld (w.getD 0 0) 63 56 = 1 ∧
        fld (w.getD 1 0) 63 32 = u.toNat) ∧
    (∀ tl, s.focus = .tile tl → CanIssue .uiret s → s.cur.handler = true → ∃ t : State, exec .uiret s = .next t ∧
      t.cur.handler = false ∧ t.cur.th.pc = BitVec.ofNat 64 (fld s.cur.uiepc 51 2 * 4) ∧ t.cur.st = .ready ∧ Aside s t)) ∧
  (∀ (s : State) (tl : Nat), (s.ctx (.tile tl) 0).stage = .wfi → s.mip (.tile tl) &&& (s.priv (.tile tl)).mie ≠ 0 →
    ∃ t : State, exec (.wfiWake tl) s = .next t ∧ Aside s t ∧ (t.ctx (.tile tl) 0).st = .ready ∧
      (t.ctx (.tile tl) 0).th.pc = (s.ctx (.tile tl) 0).th.pc + 4) ∧
  (∀ (s : State) (tl c : Nat) (q : CopyIrq) (l : List CopyIrq), c < 16 → (s.ctx (.tile tl) c).st = .ready →
    (s.ctx (.tile tl) c).stage = .none → (s.ctx (.tile tl) c).handler = false → (s.tile tl).copyIrqs = q :: l →
    q.gtid = (s.ctx (.tile tl) c).th.gtid →
    ∃ t : State, exec (.copyCompletionInterrupt tl c) s = .next t ∧ Aside s t ∧ (t.tile tl).copyIrqs = l ∧
      (t.ctx (.tile tl) c).uiepc = (s.ctx (.tile tl) c).th.pc ∧ (t.ctx (.tile tl) c).uixid = BitVec.ofNat 16 q.xid ∧
      (t.ctx (.tile tl) c).handler = true ∧ (t.ctx (.tile tl) c).th.pc = q.handler)

/-- R124, R325, R337: SFENCE.VMA with nothing of its classes outstanding drops what it names from its tile's TLB and sends one
selection to every tile of its partition and one to every field in which it has a tile, then waits; a selection drops what it names where it arrives and
is acknowledged once what was translated before has drained; the fence retires when no acknowledgement is missing. IRQSEND sends
one message to the rank's tile, where it sets the pending bit. The model's own choices here are those of log 11 and 90. -/
def Obligations.TranslationFencesAndIrqsend : Prop :=
  (∀ (s : State) (tl : Nat) (r1 r2 : XReg), s.focus = .tile tl → CanIssue (.sfenceVma r1 r2) s →
    ownIllegal (.sfenceVma r1 r2) s = false →
    (s.cur.stage = .none → NoWait 3 s →
      let va := if r1 = 0 then none else some (decide (ptrSpace (s.cur.x r1) = 2), ptrAddr (s.cur.x r1))
      let asid := if r2 = 0 then none else some (fld (s.cur.x r2) 15 0)
      ∃ (t : State) (ms : List Msg) (ts fs : List Nat), exec (.sfenceVma r1 r2) s = .next t ∧ Aside s t ∧ t.cur.th.pc = s.cur.th.pc ∧
        t.cur.stage = .sfence ts fs ∧
        (t.tile tl).tlb = (s.tile tl).tlb.filter (fun e => !e.selected va asid) ∧ t.net = s.net ++ ms ∧
        (∀ m ∈ ms, ∃ f : Option Nat, m.body = .sfence tl f va asid) ∧ ms.length = ts.length + fs.length ∧
        (∀ p P, s.curPart = some p → tget s.parts p = some P → ts = s.tilesOf p ∧
          ∀ f, f ∈ fs ↔ (f ∈ P.fields ∨ ∃ d ∈ s.tilesOf p, fieldOf d = f)) ∧
        (s.curPart = none → ts = [tl] ∧ fs = [fieldOf tl])) ∧
    (s.cur.stage = .sfence [] [] → ∃ t : State, exec (.sfenceVma r1 r2) s = .next t ∧ WentTo s t (s.cur.th.pc + 4))) ∧
  (∀ (s : State) (k : Nat) (r1 r2 : XReg), s.focus = .mill k → CanIssue (.sfenceVma r1 r2) s →
    ownIllegal (.sfenceVma r1 r2) s = false → s.cur.stage = .none → NoWait 3 s →
    ∃ t : State, exec (.sfenceVma r1 r2) s = .next t ∧ WentTo s t (s.cur.th.pc + 4)) ∧
  (∀ (s s' : State) (m d b : Nat) (g : Msg) (va : Option (Bool × Nat)) (asid : Option Nat), s.takeMsg m = some (g, s') →
    (g.rank.bind s.homeOf).getD g.dst.tileOf = d →
    (g.body = .sfence b none va asid → s'.fieldPending b (fieldOf d) = false → ∃ t : State, exec (.sfenceSelection m) s = .next t ∧
      Aside s t ∧ (t.tile d).tlb = (s.tile d).tlb.filter fun e => !e.selected va asid) ∧
    (∀ f, g.body = .sfence b (some f) va asid → ∃ t : State, exec (.sfenceSelection m) s = .next t ∧ Aside s t ∧
      (t.field f).tlb = (s.field f).tlb.filter fun e => !e.selected va asid) ∧
    (∀ f, g.body = .sfenceDrain b f [] [] [] [] [] → ∃ (t : State) (a : Msg), exec (.sfenceSelection m) s = .next t ∧ Aside s t ∧
      t.net = s'.net ++ [a] ∧ a.dst = .tile b ∧ a.body = .sfenceAck g.dst.tileOf f)) ∧
  (∀ (s s' : State) (m b d : Nat) (g : Msg) (ts fs : List Nat), s.takeMsg m = some (g, s') → g.dst = .tile b →
    (s.ctx (.tile b) 0).stage = .sfence ts fs →
    (g.body = .sfenceAck d none → ∃ t : State, exec (.sfenceAck m) s = .next t ∧ Aside s t ∧
      (t.ctx (.tile b) 0).stage = .sfence (ts.filter (· != d)) fs) ∧
    (∀ f, g.body = .sfenceAck d (some f) → ∃ t : State, exec (.sfenceAck m) s = .next t ∧ Aside s t ∧
      (t.ctx (.tile b) 0).stage = .sfence ts (fs.filter (· != f)))) ∧
  (∀ (s : State) (tl p d : Nat) (r1 r2 : XReg), s.focus = .tile tl → CanIssue (.irqsend r1 r2) s →
    let a := s.cur.x r1
    let b := s.cur.x r2
    ((fld a 63 12 = 0 ∧ fld b 63 1 = 0 ∧ s.curPart = some p ∧ s.partOf (fld a 11 0) = some p ∧ NoWait 3 s ∧
        s.mapOf tl (fld a 11 0) = some d) →
      ∃ (t : State) (m : Msg), exec (.irqsend r1 r2) s = .next t ∧ Put s t 0 0 ∧ t.net = s.net ++ [m] ∧ m.dst = .tile d ∧
        m.rank = some (fld a 11 0) ∧ m.body = .irq (fld a 11 0) (if b.getLsbD 0 then 1 else 3)) ∧
    ((fld a 63 12 ≠ 0 ∨ fld b 63 1 ≠ 0 ∨ s.curPart = none ∨ s.partOf (fld a 11 0) ≠ s.curPart) →
      exec (.irqsend r1 r2) s = .next (s.trap 7 a))) ∧
  (∀ (s s' : State) (m k code : Nat) (r : Arrived), s.arrive m = some (r, s') → r.msg.body = .irq k code → r.stand = false →
    ∃ t : State, exec (.irqMessageArrival m) s = .next t ∧ SameMem s t ∧
      (t.priv (.tile r.at_)).mip = (s.priv (.tile r.at_)).mip ||| BitVec.ofNat 64 (2 ^ code) ∧
      (∀ a c q, (t.ctx a c).x q = (s.ctx a c).x q) ∧ (∀ a, a ≠ .tile r.at_ → t.priv a = s.priv a))

/-! ### Slot 0's view of contexts -/

namespace Sys2Proof.Machine

/-- Every register is full, no vector command waits and no access of memory is without its reply, so that the context may be packed
(R61, R94, R212; log 97). -/
abbrev MayPack (c : Ctx) : Prop := (∀ p ∈ c.pend, p.dest = .none) ∧ c.vcmds = [] ∧ c.memBusy = false

/-- The free light slots of a tile that no packet of its arrival queue and no descriptor of its run list claims, from the lowest
(R84, R171, R180; log 102). -/
def slotsLeft (T : Tile) : List Nat :=
  ((List.range' 1 15).filter fun c => (T.slot c).st == .free && !(T.slot c).reserved).drop (T.arrivals.length + T.runList.length)

/-- A doubleword of a context's packet that holds one register (R89, R90); the status and full/empty words apart. -/
def packetWord (c : Ctx) (i : Nat) : Option Word :=
  if i = 0 then some c.th.gtid
  else if i = 1 then some c.th.pc
  else if 3 ≤ i ∧ i < 18 then some (c.x (BitVec.ofNat 5 (i - 2)))
  else if 18 ≤ i ∧ i < 26 then some (c.f (BitVec.ofNat 3 (i - 18)))
  else if 27 ≤ i ∧ i < 31 then some (c.th.own.toList.getD (i - 27) 0)
  else if i = 31 then some c.th.ownOver
  else none

end Sys2Proof.Machine

/-- R330 to R334, R338 to R340: CTXREAD gives a word of a slot's packet, of a trapped slot's record or of a refusal entry, and all
ones for an operand it does not take; CTXWRITE changes one word of a trapped context's packet, sends the acknowledgement of a
refusal entry, and else does nothing; both leave slot 0's other registers and memory alone. PREEMPT closes the gate; when every
light slot can be packed it writes their packets to the spill area, frees them, empties the arrival queue and retires, changing
memory in the spill area alone; else slot 0 waits in it. RESUME lets a trapped context go on, sends it to another rank of the
partition, or brings back the contexts of the spill area; with an operand it does not take it does nothing. The model's own
choices here are those of log 28, 63, 64, 97 and 106. -/
def Obligations.ContextServices : Prop :=
  (∀ (s : State) (tl : Nat), s.focus = .tile tl →
    (∀ (rd r : XReg) (u : BitVec 5), CanIssue (.ctxread rd r u) s →
      let v := s.cur.x r
      let c := fld v 3 0
      let x := s.ctx (.tile tl) c
      let e := (s.tile tl).refusals.toList.getD (fld v 10 6) RefEntry.empty
      let gives (w : Word) : Prop := ∃ t : State, exec (.ctxread rd r u) s = .next t ∧ WroteX s t rd w (s.cur.th.pc + 4)
      (∀ w, fld v 63 4 = 0 → c ≠ 0 → x.st ≠ .free → packetWord x u.toNat = some w → gives w) ∧
      (fld v 63 6 = 0 → fld v 5 4 = 1 → c ≠ 0 → x.st = .trapped →
        gives ([BitVec.ofNat 64 (9 * 2 ^ 60 + (if x.trap.achk then 2 ^ 8 else 0) + x.trap.cause), x.trap.tval, x.trap.epc,
          x.trap.tick].getD u.toNat 0)) ∧
      (fld v 63 11 = 0 → fld v 5 4 = 2 → c = 0 →
        gives ([BitVec.ofNat 64 ((if e.valid then 2 ^ 63 else 0) + (if e.ackpend then 2 ^ 62 else 0) + e.cause * 2 ^ 48 +
          e.dst * 2 ^ 36 + e.count), BitVec.ofNat 64 e.first, BitVec.ofNat 64 e.last, e.addr, e.gtid, e.pwit].getD u.toNat 0)) ∧
      ((fld v 63 11 ≠ 0 ∨ fld v 5 4 = 3 ∨ (fld v 5 4 < 2 ∧ (c = 0 ∨ fld v 10 6 ≠ 0)) ∨ (fld v 5 4 = 2 ∧ c ≠ 0) ∨
          (fld v 5 4 = 0 ∧ x.st = .free)) → gives (-1))) ∧
    (∀ (r1 r2 : XReg) (u : BitVec 5), CanIssue (.ctxwrite r1 r2 u) s →
      let v := s.cur.x r1
      let w := s.cur.x r2
      let c := fld v 3 0
      let x := s.ctx (.tile tl) c
      let i := u.toNat
      (fld v 63 4 = 0 → c ≠ 0 → x.st = .trapped → (∀ p ∈ x.pend, p.dest = .none) →
        ∃ t : State, exec (.ctxwrite r1 r2 u) s = .next t ∧ Put s t 0 0 ∧
          (∀ d, d ≠ 0 → d ≠ c → t.ctx (.tile tl) d = s.ctx (.tile tl) d) ∧
          (let y := t.ctx (.tile tl) c
           y.st = .trapped ∧ y.th.gtid = x.th.gtid ∧
           y.th.pc = (if i = 1 then w &&& ~~~3#64 else x.th.pc) ∧
           (∀ q, y.x q = if 3 ≤ i ∧ i < 18 ∧ q.toNat + 2 = i then w else x.x q) ∧
           (∀ q, y.f q = if 18 ≤ i ∧ i < 26 ∧ q.toNat + 18 = i then w else x.f q) ∧
           y.th.ownOver = (if i = 31 then w else x.th.ownOver))) ∧
      ((fld v 63 11 ≠ 0 ∨ fld v 5 4 = 3 ∨ fld v 5 4 = 1 ∨ (fld v 5 4 = 0 ∧ (c = 0 ∨ fld v 10 6 ≠ 0 ∨ x.st ≠ .trapped))) →
        ∃ t : State, exec (.ctxwrite r1 r2 u) s = .next t ∧ Put s t 0 0 ∧ ∀ d, d ≠ 0 → t.ctx (.tile tl) d = s.ctx (.tile tl) d) ∧
      (∀ d, fld v 63 11 = 0 → fld v 5 4 = 2 → c = 0 →
        let e := (s.tile tl).refusals.toList.getD (fld v 10 6) RefEntry.empty
        e.valid = true → e.ackpend = false → e.dst ≠ 4095 → s.mapOf tl e.dst = some d →
        ∃ (t : State) (m : Msg), exec (.ctxwrite r1 r2 u) s = .next t ∧ Put s t 0 0 ∧ t.net = s.net ++ [m] ∧ m.dst = .tile d ∧
          m.body = .refAck (s.rankOf tl) e.dst e.last ∧
          (t.tile tl).refusals.toList.getD (fld v 10 6) RefEntry.empty = { e with ackpend := true }) ∧
      (fld v 63 11 = 0 → fld v 5 4 = 2 → c = 0 →
        let e := (s.tile tl).refusals.toList.getD (fld v 10 6) RefEntry.empty
        e.valid = true → e.ackpend = false → e.dst = 4095 →
        ∃ t : State, exec (.ctxwrite r1 r2 u) s = .next t ∧ Put s t 0 0 ∧ t.net = s.net ∧
          (t.tile tl).refusals.toList.getD (fld v 10 6) RefEntry.empty = RefEntry.empty))) ∧
  (∀ (s : State) (tl : Nat), s.focus = .tile tl →
    (CanIssue .preempt s → ownIllegal .preempt s = false →
      let ready (c : Nat) : Prop :=
        let x := s.ctx (.tile tl) c
        x.st = .free ∨ (x.st ≠ .inFlight ∧ x.killed = false ∧ MayPack x ∧ x.stage ≠ .joinProxied ∧
          ∀ a b, x.stage ≠ .gsyncSent a b)
      ((∀ c, 1 ≤ c → c < 16 → ready c) → (∀ c r, ((s.ctx (.tile tl) c).stream r).out = []) →
        ∃ t : State, exec .preempt s = .next t ∧ (t.tile tl).gate = false ∧ (t.tile tl).arrivals = [] ∧
          (∀ c, 1 ≤ c → c < 16 → (t.ctx (.tile tl) c).st = .free) ∧
          (∀ c, 1 ≤ c → c < 16 → (s.ctx (.tile tl) c).st ≠ .free →
            t.mem.word (spadKey tl (0x1100 + 256 * (c - 1))) = (s.ctx (.tile tl) c).th.gtid ∧
            t.mem.word (spadKey tl (0x1108 + 256 * (c - 1))) = (s.ctx (.tile tl) c).th.pc) ∧
          (t.mem.word (spadKey tl 0x1000)).getLsbD 0 = true ∧
          (∀ a, (a < spadKey tl 0x1000 ∨ spadKey tl 0x4000 ≤ a) → t.mem.get a = s.mem.get a) ∧
          (∀ r, t.cur.x r = s.cur.x r) ∧ t.cur.th.pc = s.cur.th.pc + 4) ∧
      ((∃ c : Nat, 1 ≤ c ∧ c < 16 ∧ ¬ ready c) →
        ∃ t : State, exec .preempt s = .next t ∧ Aside s t ∧ (t.tile tl).gate = false ∧ t.cur.stage = .preempt ∧
          t.cur.th.pc = s.cur.th.pc)) ∧
    (∀ r, CanIssue (.resume r) s →
      let v := s.cur.x r
      let c := fld v 3 0
      let k := fld v 27 16
      let x := s.ctx (.tile tl) c
      (fld v 63 4 = 0 → c ≠ 0 → x.st = .trapped →
        (∀ e ∈ x.th.own.toList, e = 0 ∨ (witKind e = 1 ∧ witWf s.grade e = true)) →
        (x.th.ownOver = 0 ∨ witKind x.th.ownOver = 2) →
        ∃ t : State, exec (.resume r) s = .next t ∧ Put s t 0 0 ∧
          (t.ctx (.tile tl) c).st = (if x.trap.achk then .admitted else .ready) ∧ (t.ctx (.tile tl) c).th.pc = x.th.pc ∧
          (∀ q, (t.ctx (.tile tl) c).x q = x.x q)) ∧
      (fld v 63 28 = 0 → fld v 15 6 = 0 → fld v 5 4 = 1 → c ≠ 0 → x.st = .trapped → s.curPart ≠ none → s.partOf k = s.curPart →
        ∃ t : State, exec (.resume r) s = .next t ∧ Put s t 0 0 ∧ (t.ctx (.tile tl) c).st = .departing ∧
          (t.ctx (.tile tl) c).target = k ∧ (t.ctx (.tile tl) c).forwarded = true) ∧
      (v ≠ 0 → (fld v 63 28 ≠ 0 ∨ fld v 15 6 ≠ 0 ∨ 2 ≤ fld v 5 4 ∨ c = 0 ∨ x.st ≠ .trapped) →
        ∃ t : State, exec (.resume r) s = .next t ∧ Put s t 0 0 ∧ ∀ d, d ≠ 0 → t.ctx (.tile tl) d = s.ctx (.tile tl) d) ∧
      (v = 0 → (∀ d, 1 ≤ d → d < 16 → (s.tile tl).freeSlot d = true) →
        let head := s.mem.word (spadKey tl 0x1000)
        (head.getLsbD 0 = false → exec (.resume r) s = .next (s.trap 2 ((Instr.resume r).word.zeroExtend 64))) ∧
        (head.getLsbD 0 = true → ∃ t : State, exec (.resume r) s = .next t ∧ (t.tile tl).gate = true ∧
          (t.mem.word (spadKey tl 0x1000)).getLsbD 0 = false ∧
          (∀ a, (a < spadKey tl 0x1000 ∨ spadKey tl 0x1008 ≤ a) → t.mem.get a = s.mem.get a) ∧
          (∀ d, 1 ≤ d → d < 16 → head.getLsbD (32 + d) = true →
            (t.ctx (.tile tl) d).th.gtid = s.mem.word (spadKey tl (0x1100 + 256 * (d - 1))) ∧
            (t.ctx (.tile tl) d).st ≠ .free) ∧
          (∀ d, 1 ≤ d → d < 16 → head.getLsbD (32 + d) = false → (t.ctx (.tile tl) d).st = .free) ∧
          (∀ q, t.cur.x q = s.cur.x q) ∧ t.cur.th.pc = s.cur.th.pc + 4))))

/-! ### Frames, task counters and the thread control of slot 0 -/

namespace Sys2Proof.Machine

/-- The WSELF of a context (R159). -/
def selfWit (s : State) (c : Ctx) : Word := (c.th.own.toList ++ [c.th.ownOver]).foldl (joinOf s.tick) 0

/-- No stream of the context is bound and it is not bound to a furrow. -/
abbrev NoPorts (c : Ctx) : Prop := (∀ r, c.bound r = false) ∧ c.th.furrow = false

/-- A frame or record at offset off of the tile's own rank k, where an operation may be posted and performs at once: the pointer's
space, alignment and translation, room in the journal, the shell alive, nothing held or watched (R109, R154, R168). -/
abbrev OwnRecord (s : State) (t k off n : Nat) (p : Word) (kind : AKind) : Prop :=
  t < 1024 ∧ (s.tile t).rank = some k ∧ k < 4095 ∧ ptrSpace p = 0 ∧ (∃ rep xp, s.xlatOnce kind p = .ok (.dram k off rep xp)) ∧
  ptrAddr p % n = 0 ∧ s.poison t off = 0 ∧ s.awaiting t off = false ∧ (s.tile t).journal.length < 1024 ∧ (s.tile t).held = [] ∧
  (s.tile t).shellAlive = true ∧ s.kernelOf = none ∧ (s.tile t).obs.watches = [] ∧ off + n ≤ 2 ^ 33

/-- The registers with which a child of parent p begins (R171). -/
def BeginsAs (p c : Ctx) (entry fp wit : Word) : Prop :=
  c.st = .ready ∧ c.th.pc = entry &&& ~~~3#64 ∧ c.th.fcsr = p.th.fcsr ∧ c.pend = [] ∧
  ∀ r : XReg, c.x r = match r.toNat with
    | 2 => p.x 2
    | 10 => fp
    | 11 => wit
    | 12 => p.x 12
    | 13 => p.x 13
    | 14 => p.x 14
    | 15 => p.x 15
    | _ => 0

end Sys2Proof.Machine

/-- R168 to R174: SPAWN by a light context adds 1 to its frame's count, pushes the continuation at the bottom of the deque and
puts the child in its place; with a full deque it traps with cause 51; by slot 0 the child takes the lowest free light slot that nothing else claims. EXIT
takes 1 from the count and joins its stores' witness into fwit; a light context then leaves its slot, slot 0 goes on. JOIN goes on
when the count is 0 and fwit is satisfied, parks while the count is not 0, and by a light context at another rank departs for it.
YIELD goes on when nothing waits for the slot, and else puts the context into the arrival queue. Each changes the named words of
memory alone. The model's own choices here are those of log 9, 22, 97, 102 and 103. -/
def Obligations.SpawnExitJoinYield : Prop :=
  ∀ (s : State) (t : Nat), s.focus = .tile t →
    (∀ (r1 r2 : XReg) (k off : Nat), CanIssue (.spawn r1 r2) s → NoPorts s.cur → MayPack s.cur → s.cur.stage = .none →
      let entry := s.cur.x r1
      let fp := s.cur.x r2
      let key := dramKey t off
      OwnRecord s t k off 16 fp akStore →
      (s.full = false → (s.tile t).dqCount = 64 → exec (.spawn r1 r2) s = .next ((s.touch fp).trap 51 fp)) ∧
      (s.full = false → (s.tile t).dqCount < 64 →
        let d := spadKey t (32 * (((s.tile t).dqTop + (s.tile t).dqCount) % 64))
        ∃ u : State, exec (.spawn r1 r2) s = .next u ∧ BeginsAs s.cur u.cur entry fp (selfWit s s.cur) ∧
          u.mem.word key = s.mem.word key + 1 ∧ (u.tile t).dqCount = (s.tile t).dqCount + 1 ∧
          (fld (u.mem.word d) 51 0 = fld (s.cur.th.pc + 4) 51 0 ∧ fld (u.mem.word d) 63 56 = s.cur.th.fcsr.toNat ∧
            u.mem.word (d + 8) = fp ∧ u.mem.word (d + 16) = s.cur.th.gtid ∧ u.mem.word (d + 24) = selfWit s s.cur) ∧
          (∀ a, (a < key ∨ key + 8 ≤ a) → (a < d ∨ d + 32 ≤ a) → u.mem.get a = s.mem.get a)) ∧
      (∀ c, s.full = true → (slotsLeft (s.tile t)).head? = some c →
        ∃ u : State, exec (.spawn r1 r2) s = .next u ∧ BeginsAs s.cur (u.ctx (.tile t) c) entry fp (selfWit s s.cur) ∧
          u.mem.word key = s.mem.word key + 1 ∧ u.cur.th.pc = s.cur.th.pc + 4 ∧ (∀ r, u.cur.x r = s.cur.x r) ∧
          (∀ a, (a < key ∨ key + 8 ≤ a) → u.mem.get a = s.mem.get a))) ∧
    (∀ (r1 : XReg) (k off : Nat), CanIssue (.exit r1) s → NoPorts s.cur → MayPack s.cur → r1 ≠ 0 →
      let fp := s.cur.x r1
      let key := dramKey t off
      let fwit := s.mem.word (key + 8)
      OwnRecord s t k off 16 fp akStore →
      ∃ u : State, exec (.exit r1) s = .next u ∧ u.mem.word key = s.mem.word key - 1 ∧
        u.mem.word (key + 8) = (if witWf s.grade fwit then joinOf s.tick fwit (selfWit s s.cur) else fwit) ∧
        (∀ a, (a < key ∨ key + 16 ≤ a) → u.mem.get a = s.mem.get a) ∧
        (s.full = true → u.cur.th.pc = s.cur.th.pc + 4 ∧ ∀ r, u.cur.x r = s.cur.x r) ∧
        (s.full = false → (s.tile t).dqCount = 0 → u.cur.st = .free)) ∧
    (CanIssue (.exit 0) s → NoPorts s.cur → MayPack s.cur →
      ∃ u : State, exec (.exit 0) s = .next u ∧ SameMem s u ∧
        (s.full = true → u.cur.th.pc = s.cur.th.pc + 4) ∧ (s.full = false → (s.tile t).dqCount = 0 → u.cur.st = .free)) ∧
    (∀ (r1 : XReg) (k off : Nat) (rep xp : Bool), CanIssue (.join r1) s → s.cur.stage = .none →
      let p := effPtr (s.cur.x r1) 0
      let key := dramKey t off
      ptrSpace p = 0 → ptrAddr p % 16 = 0 → s.xlatOnce akRetS p = .ok (.dram k off rep xp) →
      ((rep = true ∨ k = s.rankOf t) → OwnOk off t s →
        (s.mem.word key = 0 → witWf s.grade (s.mem.word (key + 8)) = true → witState s (s.mem.word (key + 8)) = some 1 →
          ∃ u : State, exec (.join r1) s = .next u ∧ Put s u 0 0) ∧
        (s.mem.word key ≠ 0 → ∃ u : State, exec (.join r1) s = .next u ∧ Aside s u ∧ u.cur.st = .parkedJoin ∧
          u.cur.th.pc = s.cur.th.pc)) ∧
      (rep = false → k ≠ s.rankOf t → s.full = false → s.cur.th.pinned = false → s.cur.th.furrow = false →
        s.cur.proxyNext = false → s.tied = false → xp = false →
        ∃ u : State, exec (.join r1) s = .next u ∧ Aside s u ∧ u.cur.st = .departing ∧ u.cur.target = k ∧
          u.cur.th.pc = s.cur.th.pc)) ∧
    (CanIssue .yield s → ownIllegal .yield s = false →
      ((s.full = true ∨ ((s.tile t).arrivals = [] ∧ (s.tile t).runList = []) ∨ (s.tile t).adepth ≤ (s.tile t).arrivals.length) →
        ∃ u : State, exec .yield s = .next u ∧ WentTo s u (s.cur.th.pc + 4)) ∧
      (s.full = false → ((s.tile t).arrivals ≠ [] ∨ (s.tile t).runList ≠ []) → (s.tile t).arrivals.length < (s.tile t).adepth →
        NoPorts s.cur → MayPack s.cur →
        ∃ (u : State) (h : Thread), exec .yield s = .next u ∧ u.cur.st = .free ∧ (u.tile t).arrivals = (s.tile t).arrivals ++ [⟨h, true, s.cur.inherited, none⟩] ∧
          h.pc = s.cur.th.pc + 4 ∧ h.gtid = s.cur.th.gtid ∧ h.x = s.cur.th.x ∧ SameMem s u))

/-- R176 to R182: TARM adds n to a task counter's count and arms it, or at 0 queues its descriptor; at another rank it is one request,
or the departure of a light context that may leave; TREAP by slot 0 marks rd empty
and sends one request to the frame's home; TSTART starts the context of its block in the slot named, or the lowest for 0, if it is free
and nothing else claims it, and writes its number, or 0 when it cannot; TKILL frees the slot it names, unless slot 0 has forwarded its
context. The model's own choices here are those of log 54, 92 and 102. -/
def Obligations.TaskCountersAndThreadControl : Prop :=
  ∀ (s : State) (t : Nat), s.focus = .tile t →
    (∀ (r1 r2 : XReg) (k off : Nat), CanIssue (.tarm r1 r2) s → s.cur.inherited = false →
      let p := effPtr (s.cur.x r1) 0
      let key := dramKey t off
      let dw := s.mem.word key
      let sum : BitVec 32 := dw.extractLsb' 32 32 + (s.cur.x r2).extractLsb' 0 32
      OwnRecord s t k off 16 p akRetS →
      (sum ≠ 0 → ∃ u : State, exec (.tarm r1 r2) s = .next u ∧ (u.mem.word key).extractLsb' 32 32 = sum ∧
        (u.mem.word key).getLsbD 31 = true ∧ (u.mem.word key).extractLsb' 0 31 = dw.extractLsb' 0 31 ∧
        (u.tile t).runList = (s.tile t).runList ∧ (∀ a, (a < key ∨ key + 8 ≤ a) → u.mem.get a = s.mem.get a) ∧
        u.cur.th.pc = s.cur.th.pc + 4 ∧ ∀ r, u.cur.x r = s.cur.x r) ∧
      (sum = 0 → (s.tile t).runList.length < 128 → ∃ u : State, exec (.tarm r1 r2) s = .next u ∧
        (u.mem.word key).extractLsb' 32 32 = 0 ∧ (u.mem.word key).getLsbD 31 = false ∧
        (u.tile t).runList = (s.tile t).runList ++
          [⟨BitVec.ofNat 64 (fld (s.mem.word (key + 8)) 51 0), fld (s.mem.word (key + 8)) 63 52⟩] ∧
        (∀ a, (a < key ∨ key + 8 ≤ a) → u.mem.get a = s.mem.get a) ∧
        u.cur.th.pc = s.cur.th.pc + 4 ∧ ∀ r, u.cur.x r = s.cur.x r)) ∧
    (∀ (r1 r2 : XReg) (k off : Nat) (xp : Bool), CanIssue (.tarm r1 r2) s →
      let p := effPtr (s.cur.x r1) 0
      ptrAddr p % 16 = 0 → s.xlatOnce akRetS p = .ok (.dram k off false xp) → k ≠ s.rankOf t →
      (∀ d, s.kernelOf = none → (s.full = true ∨ s.cur.th.pinned = true) → s.cur.th.ownOver = 0 → s.mapOf t k = some d →
        ∃ (u : State) (m : Msg) (q : ProxyReq), exec (.tarm r1 r2) s = .next u ∧ ClaimedX s u 0 0 0 ∧ u.net = s.net ++ [m] ∧ m.dst = .tile d ∧
          m.rank = some k ∧ m.body = .proxyReq q ∧ q.op = .tarm (s.cur.x r2) ∧ q.rank = k ∧ q.off = off) ∧
      (s.kernelOf = none → s.full = false → s.cur.th.pinned = false → s.cur.th.furrow = false → s.cur.proxyNext = false →
        s.tied = false → xp = false →
        ∃ u : State, exec (.tarm r1 r2) s = .next u ∧ u.cur.st = .departing ∧ u.cur.target = k ∧ u.cur.th.pc = s.cur.th.pc ∧
          (∀ r, u.cur.x r = s.cur.x r) ∧ SameMem s u)) ∧
    (∀ (rd r1 : XReg) (k off d : Nat) (rep xp : Bool), CanIssue (.treap rd r1) s → s.cur.th.ownOver = 0 →
      let p := effPtr (s.cur.x r1) 0
      let home := if rep then s.rankOf t else k
      ptrSpace p = 0 → ptrAddr p % 16 = 0 → s.xlatOnce akRetS p = .ok (.dram k off rep xp) → s.mapOf t home = some d →
      ∃ (u : State) (m : Msg) (q : ProxyReq), exec (.treap rd r1) s = .next u ∧ Put s u 0 0 ∧ ClaimedX s u rd 0 0 ∧
        u.net = s.net ++ [m] ∧ m.dst = .tile d ∧ m.rank = some home ∧ m.body = .proxyReq q ∧ q.op = .treap ∧ q.rank = home ∧
        q.off = off) ∧
    (∀ (rd r1 r2 : XReg) (c : Nat), CanIssue (.tstart rd r1 r2) s →
      let p := effPtr (s.cur.x r1) 0
      let n := s.cur.x r2
      let b (i : Nat) : Word := s.mem.word (spadKey t (ptrAddr p) + 8 * i)
      let left := slotsLeft (s.tile t)
      SpadOk p 64 s →
      ((fld (b 6) 63 8 = 0 ∧ ((n = 0 ∧ left.head? = some c) ∨ (n = BitVec.ofNat 64 c ∧ c ∈ left))) →
        ∃ u : State, exec (.tstart rd r1 r2) s = .next u ∧
          (∀ r, u.cur.x r = if r = rd ∧ r ≠ 0 then BitVec.ofNat 64 c else s.cur.x r) ∧ u.cur.th.pc = s.cur.th.pc + 4 ∧
          SameMem s u ∧
          (let y := u.ctx (.tile t) c
           y.st = .ready ∧ y.th.pc = b 0 &&& ~~~3#64 ∧ y.x 10 = b 2 ∧ y.x 11 = b 3 ∧ y.x 12 = b 4 ∧ y.x 13 = b 5 ∧
           y.th.fcsr = (b 6).extractLsb' 0 8 ∧ (b 1 ≠ 0 → y.th.gtid = b 1))) ∧
      ((fld (b 6) 63 8 ≠ 0 ∨ (n = 0 ∧ left = []) ∨ (n ≠ 0 ∧ n.toNat ∉ left)) →
        ∃ u : State, exec (.tstart rd r1 r2) s = .next u ∧ Put s u rd 0)) ∧
    (∀ (r1 : XReg), CanIssue (.tkill r1) s →
      let c := (s.cur.x r1).toNat
      let x := s.ctx (.tile t) c
      (∃ u : State, exec (.tkill r1) s = .next u ∧ u.cur.st = .ready ∧ u.cur.th.pc = s.cur.th.pc + 4 ∧ (∀ r, u.cur.x r = s.cur.x r) ∧
        (1 ≤ c → c ≤ 15 → x.forwarded = false →
          (x.st ≠ .inFlight → (u.ctx (.tile t) c).st = .free ∧ (NoPorts x → Put s u 0 0)) ∧
          (x.st = .inFlight → (u.ctx (.tile t) c).killed = true ∧ Put s u 0 0))) ∧
      ((c = 0 ∨ 15 < c ∨ x.forwarded = true) → ∃ u : State, exec (.tkill r1) s = .next u ∧ WentTo s u (s.cur.th.pc + 4)))

namespace Sys2Proof.Machine

/-- A deque entry's continuation resumed in a slot (R170): its PC, registers x10 and x11, fcsr and GTID, its stores' witness to wait
for; all else as in a new context. -/
def ResumedFrom (c : Ctx) (e0 e1 e2 : Word) (stolen : Word) : Prop :=
  c.st = .ready ∧ c.th.pc = BitVec.ofNat 64 (fld e0 51 0) ∧ c.x 10 = e1 ∧ c.x 11 = stolen ∧ c.th.gtid = e2 ∧
  c.th.fcsr = e0.extractLsb' 56 8 ∧ c.inherited = true ∧ c.pend = []

end Sys2Proof.Machine

/-- R84, R92, R170, R175, R177: SLOT_ASSIGN gives a free light slot to the head of the arrival queue, or else of the run list; an
idle tile resumes the bottom entry of its deque (DEQUE_RESUME), or asks its neighbours in turn for their top entry (STEAL_ROUND,
STEAL_REQUEST, STEAL_ANSWER), and waits 256 cycles after an empty round (STEAL_RETRY_EXPIRY). No byte of memory and no other
context changes. The model's own choices here are those of log 9, 21, 104 and 105. -/
def Obligations.SlotsAndStealing : Prop :=
  (∀ (s : State) (t c : Nat), c < 16 → (s.tile t).runs = true → (s.ctx (.tile t) 0).stage ≠ .preempt → (s.tile t).freeSlot c = true →
    (∀ q l, (s.tile t).arrivals = q :: l → ∃ u : State, exec (.slotAssign t c) s = .next u ∧ SameMem s u ∧ (u.tile t).arrivals = l ∧
      (u.ctx (.tile t) c).th = q.th ∧ (u.ctx (.tile t) c).st = (if q.yielded then .ready else .admitted) ∧
      ∀ d, d ≠ c → u.ctx (.tile t) d = s.ctx (.tile t) d) ∧
    (∀ q l, (s.tile t).arrivals = [] → (s.tile t).runList = q :: l → ∃ u : State, exec (.slotAssign t c) s = .next u ∧ SameMem s u ∧
      (u.tile t).runList = l ∧ (u.ctx (.tile t) c).th.pc = q.pc &&& ~~~3#64 ∧
      (u.ctx (.tile t) c).x 10 = BitVec.ofNat 64 q.tag ∧ (u.ctx (.tile t) c).st = .ready ∧
      ∀ d, d ≠ c → u.ctx (.tile t) d = s.ctx (.tile t) d)) ∧
  (∀ (s : State) (t c n : Nat), (s.tile t).idle = true → (s.tile t).dqCount = n + 1 → (s.tile t).lowestSlot = some c →
    let k := spadKey t (32 * (((s.tile t).dqTop + n) % 64))
    witKind (s.mem.word (k + 24)) ≠ 3 → witWf s.grade (s.mem.word (k + 24)) = true →
    ∃ u : State, exec (.dequeResume t) s = .next u ∧ SameMem s u ∧ (u.tile t).dqCount = n ∧
      ResumedFrom (u.ctx (.tile t) c) (s.mem.word k) (s.mem.word (k + 8)) (s.mem.word (k + 16)) 0 ∧
      ∀ d, d ≠ c → u.ctx (.tile t) d = s.ctx (.tile t) d) ∧
  (∀ (s : State) (t c d : Nat), (s.tile t).steal = .idle → (s.tile t).idle = true → (s.tile t).dqCount = 0 →
    (s.tile t).lowestSlot = some c → s.victim t (s.tile t).stealOff = some d →
    ∃ (u : State) (m : Msg), exec (.stealRound t) s = .next u ∧ Aside s u ∧ (u.ctx (.tile t) c).reserved = true ∧ (u.tile t).steal = .asking c 1 ∧
      u.net = s.net ++ [m] ∧ m.dst = .tile d ∧ m.body = .stealReq t) ∧
  (∀ (s s' : State) (m th : Nat) (r : Arrived), s.arrive m = some (r, s') → r.msg.body = .stealReq th →
    ((s.tile r.at_).dqCount = 0 ∨ (s.tile r.at_).gate = false → ∃ (u : State) (a : Msg), exec (.stealRequest m) s = .next u ∧ Aside s u ∧
      u.net = s'.net ++ [a] ∧ a.dst = r.msg.src ∧ a.body = .stealAns none) ∧
    (∀ n, (s.tile r.at_).dqCount = n + 1 → (s.tile r.at_).gate = true → (n = 0 → (s.tile r.at_).idle = false) →
      let k := spadKey r.at_ (32 * ((s.tile r.at_).dqTop % 64))
      ∃ (u : State) (a : Msg), exec (.stealRequest m) s = .next u ∧ Aside s u ∧ (u.tile r.at_).dqCount = n ∧
        (u.tile r.at_).dqTop = ((s.tile r.at_).dqTop + 1) % 64 ∧ u.net = s'.net ++ [a] ∧ a.dst = r.msg.src ∧
        a.body = .stealAns (some [s.mem.word k, s.mem.word (k + 8), s.mem.word (k + 16), s.mem.word (k + 24)]))) ∧
  (∀ (s s' : State) (m c i : Nat) (r : Arrived), s.arrive m = some (r, s') → c < 16 → (s.tile r.at_).steal = .asking c i →
    (∀ e0 e1 e2 e3, r.msg.body = .stealAns (some [e0, e1, e2, e3]) → witKind e3 ≠ 3 → witWf s.grade e3 = true →
      ∃ u : State, exec (.stealAnswer m) s = .next u ∧ SameMem s u ∧ (u.tile r.at_).steal = .idle ∧
        ResumedFrom (u.ctx (.tile r.at_) c) e0 e1 e2 1 ∧ ∀ d, d ≠ c → u.ctx (.tile r.at_) d = s.ctx (.tile r.at_) d) ∧
    (r.msg.body = .stealAns none → i = 4 → ∃ u : State, exec (.stealAnswer m) s = .next u ∧ Aside s u ∧
      (u.tile r.at_).steal = .waiting ((s.tile r.at_).cycles + 256) ∧ (u.ctx (.tile r.at_) c).reserved = false)) ∧
  (∀ (s : State) (t due : Nat), (s.tile t).steal = .waiting due → due ≤ (s.tile t).cycles → (s.tile t).idle = false →
    ∃ u : State, exec (.stealRetryExpiry t) s = .next u ∧ Aside s u ∧ (u.tile t).steal = .idle)

/-! ### Groups and barriers -/

namespace Sys2Proof.Machine

/-- A group instruction that is one request to its record: its rd, pointer register and operation (R184 to R187). -/
def groupForm (i : Instr) : Option (XReg × XReg × GroupOp) :=
  match i with
  | .gcreate rd r => some (rd, r, .create)
  | .gjoin r => some (0, r, .join)
  | .gleave r => some (0, r, .leave)
  | .gcount rd r => some (rd, r, .count)
  | .gdissolve r => some (0, r, .dissolve)
  | _ => none

/-- A barrier instruction but BWAIT: its rd, pointer register, operation, and whether it waits as pfence 3 (R193 to R199). -/
def barForm (c : Ctx) (i : Instr) : Option (XReg × XReg × BarOp × Bool) :=
  match i with
  | .binit r1 r2 => some (0, r1, .init (c.x r2), false)
  | .barrive rd r1 => some (rd, r1, .arrive, true)
  | .btest rd r1 r2 => some (rd, r1, .test ((c.x r2).getLsbD 0), false)
  | .bexpect r1 r2 => some (0, r1, .expect (c.x r2).toNat, false)
  | .bcomplete r1 r2 => some (0, r1, .complete (c.x r2).toNat, true)
  | .bretire r1 => some (0, r1, .retire, false)
  | _ => none

/-- A slot after its phase may have completed (R199). -/
def Toggled (a b : Slot) : Prop :=
  if a.arrived = a.expected ∧ a.pending = 0 then b = { a with phase := !a.phase, arrived := 0 } else b = a

/-- What R194 to R199 make of slot a in space 1 of rank home, or in space 0, where home is 0xFFF: slot b and the value written; no
case gives a trap. -/
def BarrierGives (space1 : Bool) (home : Nat) (op : BarOp) (a b : Slot) (v : Word) : Prop :=
  let usable := a.tag = 0xA5 ∧ (space1 = true → a.home = home)
  match op with
  | .init w => fld w 63 21 = 0 ∧ fld w 19 0 ≠ 0 ∧ a.tag ≠ 0xA5 ∧ v = 0 ∧
      b = ⟨0xA5, false, w.getLsbD 20, 0, fld w 19 0, 0, home, 0, 0⟩
  | .arrive => usable ∧ a.arrived < a.expected ∧ v = (if a.phase then 1 else 0) ∧ Toggled { a with arrived := a.arrived + 1 } b
  | .test tok => usable ∧ b = a ∧ v = (if a.err then 2 else if a.phase ≠ tok then 1 else 0)
  | .expect n => usable ∧ a.pending + n < 2 ^ 40 ∧ v = 0 ∧ b = { a with pending := a.pending + n }
  | .complete n => usable ∧ n ≤ a.pending ∧ v = 0 ∧
      (if n = 0 then b = a else Toggled { a with pending := a.pending - n } b)
  | .retire => usable ∧ a.arrived = 0 ∧ a.pending = 0 ∧ v = 0 ∧ b = ⟨0, false, false, 0, 0, 0, 0, 0, 0⟩

/-- The causes with which R192 to R199 turn a barrier instruction in space 1 away. -/
def BarrierTraps (home : Nat) (op : BarOp) (a : Slot) (cause : Nat) : Prop :=
  let usable := a.tag = 0xA5 ∧ a.home = home
  match op with
  | .init w => (fld w 63 21 ≠ 0 ∨ fld w 19 0 = 0 ∨ a.tag = 0xA5) ∧ cause = 48
  | .arrive => (¬ usable ∨ a.arrived = a.expected) ∧ cause = 48
  | .test _ => ¬ usable ∧ cause = 48
  | .expect n => (¬ usable ∧ cause = 48) ∨ (usable ∧ 2 ^ 40 ≤ a.pending + n ∧ cause = 49)
  | .complete n => (¬ usable ∧ cause = 48) ∨ (usable ∧ a.pending < n ∧ cause = 49)
  | .retire => (¬ usable ∨ a.arrived ≠ 0 ∨ a.pending ≠ 0) ∧ cause = 48

end Sys2Proof.Machine

/-- R185, R186, R189: a group instruction with a record in space 0 sends one request with the context's WSELF to the tile that the map
gives for the record's rank, marks rd empty and goes on; GSYNC sends its arrival and parks, and when its last wait is over goes on. Registers, memory and the
counts of the context are as before. -/
def Obligations.GroupInstructionsSendOneRequest : Prop :=
  ∀ (s : State) (t k off d : Nat) (xp : Bool), s.focus = .tile t → s.cur.th.ownOver = 0 → s.mapOf t k = some d →
    (∀ i rd r op, groupForm i = some (rd, r, op) → CanIssue i s →
      ptrSpace (effPtr (s.cur.x r) 0) = 0 → ptrAddr (effPtr (s.cur.x r) 0) % 32 = 0 →
      s.xlatOnce akRetS (effPtr (s.cur.x r) 0) = .ok (.dram k off false xp) →
      ∃ (u : State) (m : Msg) (q : ProxyReq), exec i s = .next u ∧ Put s u 0 0 ∧ QuietCounts s u ∧ ClaimedX s u rd 0 0 ∧
        u.net = s.net ++ [m] ∧ m.dst = .tile d ∧ m.rank = some k ∧ m.body = .proxyReq q ∧ q.op = .group op (selfWit s s.cur) ∧ q.rank = k ∧ q.off = off) ∧
    (∀ r, CanIssue (.gsync r) s → s.cur.stage = .none →
      ptrSpace (effPtr (s.cur.x r) 0) = 0 → ptrAddr (effPtr (s.cur.x r) 0) % 32 = 0 →
      s.xlatOnce akRetS (effPtr (s.cur.x r) 0) = .ok (.dram k off false xp) →
      ∃ (u : State) (m : Msg) (q : ProxyReq), exec (.gsync r) s = .next u ∧ Aside s u ∧ u.cur.st = .parkedJoin ∧ u.cur.stage = .gsyncSent k off ∧
        u.cur.th.pc = s.cur.th.pc ∧ u.net = s.net ++ [m] ∧ m.dst = .tile d ∧ m.body = .proxyReq q ∧
        q.op = .group .sync (selfWit s s.cur) ∧ q.rank = k ∧ q.off = off) ∧
    (∀ r w, CanIssue (.gsync r) s → s.cur.stage = .gsyncWit w → witWf s.grade w = true → witState s w = some 1 →
      ∃ u : State, exec (.gsync r) s = .next u ∧ Put s u 0 0 ∧ QuietCounts s u)

/-- R192 to R200: a barrier instruction with its slot in the current tile's scratchpad changes the slot's 16 bytes and rd in its
turn as the table says, or traps with its cause and the pointer; BWAIT goes on once the phase has left its token's, traps with
cause 48 on err, and parks before. With a slot in space 0 each is one request, BWAIT one probe, to the tile that the map gives for
the slot's rank; BWAIT goes on when the probe is answered. The model's own choices here are those of log 43 and 44. -/
def Obligations.BarrierInstructions : Prop :=
  ∀ (s : State) (t : Nat), s.focus = .tile t → s.rankOf t < 4096 →
    (∀ i rd r op wait, barForm s.cur i = some (rd, r, op, wait) → CanIssue i s →
      let p := effPtr (s.cur.x r) 0
      let key := spadKey t (ptrAddr p)
      SpadOk p 16 s → (wait = true → NoWait 3 s) →
      (∀ b v, BarrierGives true (s.rankOf t) op (s.readSlot key) b v →
        ∃ u : State, exec i s = .next u ∧ u.readSlot key = b ∧ (∀ a, (a < key ∨ key + 16 ≤ a) → u.mem.get a = s.mem.get a) ∧
          (∀ q, u.cur.x q = if q = rd ∧ q ≠ 0 then v else s.cur.x q) ∧ (∀ q, u.cur.f q = s.cur.f q) ∧
          u.cur.th.fcsr = s.cur.th.fcsr ∧ u.cur.th.pc = s.cur.th.pc + 4) ∧
      (∀ cause, BarrierTraps (s.rankOf t) op (s.readSlot key) cause →
        ∃ u : State, exec i s = .next u ∧ SameMem s u ∧
          ((s.full = false → u.cur.st = .trapped ∧ u.cur.trap.cause = cause ∧ u.cur.trap.tval = p) ∧
            (s.full = true → (s.priv s.focus).mode = .m → (u.priv s.focus).mcause = BitVec.ofNat 64 cause ∧
              (u.priv s.focus).mtval = p)))) ∧
    (∀ i rd r op wait k off d rep xp, barForm s.cur i = some (rd, r, op, wait) → CanIssue i s → s.cur.th.ownOver = 0 →
      (wait = true → NoWait 3 s) →
      let home := if rep then s.rankOf t else k
      ptrSpace (effPtr (s.cur.x r) 0) = 0 → ptrAddr (effPtr (s.cur.x r) 0) % 16 = 0 →
      s.xlatOnce akRetS (effPtr (s.cur.x r) 0) = .ok (.dram k off rep xp) → s.mapOf t home = some d →
      ∃ (u : State) (m : Msg) (q : ProxyReq), exec i s = .next u ∧ Put s u 0 0 ∧ QuietCounts s u ∧ ClaimedX s u rd 0 0 ∧
        u.net = s.net ++ [m] ∧ m.dst = .tile d ∧ m.body = .proxyReq q ∧ q.op = .barrier op ∧ q.rank = home ∧ q.off = off) ∧
    (∀ r1 r2, CanIssue (.bwait r1 r2) s →
      let p := effPtr (s.cur.x r1) 0
      let a := s.readSlot (spadKey t (ptrAddr p))
      let tok := (s.cur.x r2).getLsbD 0
      SpadOk p 16 s → a.tag = 0xA5 → a.home = s.rankOf t →
      (a.err = true → exec (.bwait r1 r2) s = .next (s.trap 48 p)) ∧
      (a.err = false → a.phase ≠ tok → ∃ u : State, exec (.bwait r1 r2) s = .next u ∧ WentTo s u (s.cur.th.pc + 4)) ∧
      (a.err = false → a.phase = tok →
        exec (.bwait r1 r2) s = .next (s.modCur fun c => { c with st := .parkedJoin, wait := .slot (ptrAddr p) tok }))) ∧
    (∀ r1 r2 k off d rep xp, CanIssue (.bwait r1 r2) s →
      let home := if rep then s.rankOf t else k
      ptrSpace (effPtr (s.cur.x r1) 0) = 0 → ptrAddr (effPtr (s.cur.x r1) 0) % 16 = 0 →
      s.xlatOnce akRetS (effPtr (s.cur.x r1) 0) = .ok (.dram k off rep xp) →
      s.cur.probes = [] → s.cur.th.ownOver = 0 → s.cur.th.ownList = [] → s.mapOf t home = some d →
      ∃ (u : State) (m : Msg) (id : Nat), exec (.bwait r1 r2) s = .next u ∧ Aside s u ∧ u.cur.st = .parkedJoin ∧ u.cur.th.pc = s.cur.th.pc ∧
        u.net = s.net ++ [m] ∧ m.dst = .tile d ∧
        m.body = .probe ⟨s.focus, s.curSlot, id⟩ (.barrier home off ((s.cur.x r2).getLsbD 0) s.curPart) true) ∧
    (∀ r1 r2 k off rep xp id acc, CanIssue (.bwait r1 r2) s →
      let home := if rep then s.rankOf t else k
      ptrSpace (effPtr (s.cur.x r1) 0) = 0 → ptrAddr (effPtr (s.cur.x r1) 0) % 16 = 0 →
      s.xlatOnce akRetS (effPtr (s.cur.x r1) 0) = .ok (.dram k off rep xp) →
      s.cur.probes = [⟨id, .barrier home off ((s.cur.x r2).getLsbD 0) s.curPart, some .satisfied, acc⟩] →
      ∃ u : State, exec (.bwait r1 r2) s = .next u ∧ Put s u 0 0 ∧ QuietCounts s u)

/-- R201, R202: GANG with the tile in no gang and a live slot of this rank parks; when every member named has executed it in
agreement the gang is formed and every member goes on (GANG_FORMED); GANG of size 0 does not read rs2 and leaves the gang, if the
tile is in one, after which no arrival of the gang wire reaches it. An arrival on the gang wire
counts at the completion slot as a BARRIVE does, or sets err when the phase has all its arrivals (GANG_WIRE_ARRIVAL). The model's
own choices here are those of log 50. -/
def Obligations.Gangs : Prop :=
  (∀ (s : State) (t : Nat) (r1 r2 : XReg), s.focus = .tile t → CanIssue (.gang r1 r2) s → s.cur.stage = .none →
    let v := s.cur.x r1
    let p := effPtr (s.cur.x r2) 0
    let m := fld v 2 0
    let i := fld v 5 4
    fld v 63 6 = 0 → v.getLsbD 3 = false →
    (1 ≤ m → m ≤ 4 → i < m → s.gangNamed t m i ≠ none → SpadOk p 16 s → (s.readSlot (spadKey t (ptrAddr p))).tag = 0xA5 →
      (s.readSlot (spadKey t (ptrAddr p))).home = s.rankOf t → (s.tile t).gang = none →
      ∃ u : State, exec (.gang r1 r2) s = .next u ∧ Aside s u ∧ u.cur.st = .parkedJoin ∧ u.cur.th.pc = s.cur.th.pc ∧
        u.cur.stage = .gang m i (ptrAddr p) (Instr.gang r1 r2).word) ∧
    ((4 < m ∨ (m ≠ 0 ∧ m ≤ i)) → exec (.gang r1 r2) s = .next (s.trap 48 p))) ∧
  (∀ (s : State) (t : Nat) (r1 r2 : XReg), s.focus = .tile t → CanIssue (.gang r1 r1) s → regsPresent (usesOf (.gang r1 r2)) s = true →
    (∀ m i slot w, s.cur.stage ≠ .gang m i slot w) → (s.cur.x r1).toNat % 8 = 0 → fld (s.cur.x r1) 63 6 = 0 → (s.cur.x r1).getLsbD 3 = false →
    (∀ x ∈ (s.tile t).mxQueue ++ (s.tile t).mxRun.toList, x.gang = none) →
    ∃ u : State, exec (.gang r1 r2) s = .next u ∧ (u.tile t).gang = none ∧ Put s u 0 0 ∧
      ((s.tile t).gang = none → WentTo s u (s.cur.th.pc + 4)) ∧ ((s.tile t).gang ≠ none → (u.tile t).wire = [])) ∧
  (∀ (s : State) (t o : Nat) (w : Word32) (c : Nat), c < 16 → (s.ctx (.tile t) c).stage = .gang 1 0 o w →
    (∀ d, d < c → ∀ a b e f, (s.ctx (.tile t) d).stage ≠ .gang a b e f) →
    ∃ (u : State) (g : GangOf), exec (.gangFormed t) s = .next u ∧ Aside s u ∧ (u.tile t).gang = some g ∧ g.size = 1 ∧ g.pos = 0 ∧ g.slot = o ∧
      (u.ctx (.tile t) c).st = .ready ∧ (u.ctx (.tile t) c).th.pc = (s.ctx (.tile t) c).th.pc + 4) ∧
  (∀ (s : State) (t o : Nat) (l : List Nat), (s.tile t).wire = o :: l →
    let key := spadKey t o
    let a := s.readSlot key
    o + 16 ≤ 2 ^ 23 →
    ∃ u : State, exec (.gangWireArrival t) s = .next u ∧ SameRegs s u ∧ (u.tile t).wire = l ∧
      (∀ b, (b < key ∨ key + 16 ≤ b) → u.mem.get b = s.mem.get b) ∧
      (a.tag = 0xA5 → a.home = s.rankOf t → a.arrived < a.expected → Toggled { a with arrived := a.arrived + 1 } (u.readSlot key)) ∧
      (a.tag = 0xA5 → a.home = s.rankOf t → a.arrived = a.expected → u.readSlot key = { a with err := true }) ∧
      ((a.tag ≠ 0xA5 ∨ a.home ≠ s.rankOf t) → u.readSlot key = a))

/-! ### What a tile's shell does for others -/

namespace Sys2Proof.Machine

/-- What a posted atomic makes of a doubleword (R163). -/
def atomGives (op : AtomOp) (m v : Word) : Word :=
  match op with
  | .add => m + v
  | .and => m &&& v
  | .or => m ||| v
  | .xor => m ^^^ v
  | .min => if m.toInt < v.toInt then m else v
  | .max => if m.toInt < v.toInt then v else m
  | .minu => if m.toNat < v.toNat then m else v
  | .maxu => if m.toNat < v.toNat then v else m
  | .fadd => BitVec.ofNat 64 (fp64.add .rne m.toNat v.toNat).1

/-- What a returning atomic makes of a doubleword (R164). -/
def retGives (op : RetOp) (m v cmp : Word) : Word :=
  match op with
  | .add => m + v
  | .swap => v
  | .cas => if m = cmp then v else m

/-- The message m has brought request q to its home (r.at_), which looks at it now: no stand-in, room in the owner's buffer, nothing
held before it, its witnesses null, its range admitted and evacuated (R94, R151, R320, R350, R412). -/
abbrev AtOwner (s : State) (m : Nat) (r : Arrived) (q : ProxyReq) : Prop :=
  r.msg.body = .proxyReq q ∧ r.msg.id = m ∧ s.bufferOf m = none ∧ r.stand = false ∧ (s.tile r.at_).proxyBuf.length < 16 ∧
  (s.tile r.at_).held = [] ∧ q.own = 0 ∧ q.wit = 0 ∧ s.partOf q.rank = q.part ∧ s.awaiting r.at_ q.off = false

/-- The home may serve it: its range good, nothing watched, room for a JOIN that must wait (R145, R323, R379). -/
abbrev MayServe (s : State) (m : Nat) (r : Arrived) (q : ProxyReq) : Prop :=
  AtOwner s m r q ∧ s.poison r.at_ q.off = 0 ∧ (s.tile r.at_).obs.watches = [] ∧ (s.tile r.at_).heldProbes.length < 32 ∧
  q.off < 2 ^ 33

/-- The bytes [k, k + n) alone may differ, and no register does. -/
abbrev OnlyBytes (s t : State) (k n : Nat) : Prop :=
  SameRegs s t ∧ ∀ a, (a < k ∨ k + n ≤ a) → t.mem.get a = s.mem.get a

/-- The reply to request q with value v is under way. -/
abbrev Replied (t : State) (r : Arrived) (q : ProxyReq) (v : ReplyVal) : Prop :=
  ∃ a ∈ t.net, a.dst = r.msg.src ∧ a.body = .proxyRep q.who q.own v

end Sys2Proof.Machine

/-- R94, R151, R154, R164, R172, R173, R177, R186, R192: a request at its home reads, or performs its atomic operation on the
doubleword, or answers a JOIN with fwit when the count is 0 and holds it while it is not; a group or barrier request changes its record
as its rule says; each is answered, and no other byte of memory and no register changes. A marked range is answered with cause 53. -/
def Obligations.RequestsAtTheirHome : Prop :=
  (∀ (s s' : State) (m : Nat) (r : Arrived) (q : ProxyReq), s.arrive m = some (r, s') → MayServe s m r q →
    let key := dramKey r.at_ q.off
    (∀ n, q.op = .load n → ∃ t : State, exec (.proxyRequest m) s = .next t ∧ Aside s t ∧
      Replied t r q (.value (BitVec.ofNat 64 (leNat (s.mem.read key n))))) ∧
    (∀ op v cmp, q.op = .ret op v cmp → ∃ t : State, exec (.proxyRequest m) s = .next t ∧ OnlyBytes s t key 8 ∧
      t.mem.word key = retGives op (s.mem.word key) v cmp ∧ Replied t r q (.value (s.mem.word key))) ∧
    (q.op = .join → s.mem.word key = 0 → ∃ t : State, exec (.proxyRequest m) s = .next t ∧ Aside s t ∧
      Replied t r q (.value (s.mem.word (key + 8)))) ∧
    (q.op = .join → s.mem.word key ≠ 0 → ∃ (t : State) (h : HeldProbe), exec (.proxyRequest m) s = .next t ∧ Aside s t ∧
      (t.tile r.at_).heldProbes = (s.tile r.at_).heldProbes ++ [h] ∧ h.join = some q.off ∧ h.who = q.who) ∧
    (q.op = .treap → s.mem.word key ≠ 0 → ∃ t : State, exec (.proxyRequest m) s = .next t ∧ Aside s t ∧
      Replied t r q (.value (s.mem.word key)))) ∧
  (∀ (s s' : State) (m : Nat) (r : Arrived) (q : ProxyReq) (n : Nat), s.arrive m = some (r, s') → AtOwner s m r q →
    q.op = .load n → s.poison r.at_ q.off ≠ 0 → ∃ t : State, exec (.proxyRequest m) s = .next t ∧ Aside s t ∧ Replied t r q (.fault 53 q.ptr)) ∧
  (∀ (s s' : State) (m : Nat) (r : Arrived) (q : ProxyReq) (w : Word), s.arrive m = some (r, s') → MayServe s m r q →
    let key := dramKey r.at_ q.off
    let g := s.readGroup key
    let fold := if witWf s.grade g.swit then joinOf (s.tickOf r.at_) g.swit w else g.swit
    let done (op : GroupOp) (h : GroupRec) (v : ReplyVal) : Prop :=
      q.op = .group op w → ∃ t : State, exec (.groupRequest m) s = .next t ∧ OnlyBytes s t key 32 ∧ t.readGroup key = h ∧ Replied t r q v
    (g.state = 0 → let n := if g.gen = 2 ^ 22 - 1 then 1 else g.gen + 1
      done .create { g with state := 1, gen := n, members := 1, arrived := 0, swit := 0 } (.value (BitVec.ofNat 64 n))) ∧
    ((g.state = 1 ∨ g.state = 2) → done .create g (.value 0)) ∧
    (g.state = 1 → g.members < 2 ^ 20 - 1 → done .join { g with members := g.members + 1 } (.value 0)) ∧
    ((g.state = 1 ∨ g.state = 2) → g.arrived + 1 < g.members →
      done .leave { g with members := g.members - 1, swit := fold } (.value 0)) ∧
    ((g.state = 1 ∨ g.state = 2) → g.arrived + 1 < g.members →
      done .sync { g with arrived := g.arrived + 1, swit := fold } (.phase g.phase false 0)) ∧
    ((g.state = 1 ∨ g.state = 2) → g.arrived + 1 = g.members →
      done .sync { g with arrived := 0, phase := (g.phase + 1) % 2 ^ 32, pwit := fold, swit := 0 } (.phase g.phase true fold)) ∧
    done .count g (.value (s.mem.word key)) ∧
    (g.state = 1 → g.members = 0 → done .dissolve { g with state := 0 } (.value 0)) ∧
    (g.state = 0 → q.op = .group .join w → ∃ t : State, exec (.groupRequest m) s = .next t ∧ Aside s t ∧ Replied t r q (.fault 31 q.ptr))) ∧
  (∀ (s s' : State) (m : Nat) (r : Arrived) (q : ProxyReq) (op : BarOp) (b : Slot) (v : Word), s.arrive m = some (r, s') →
    MayServe s m r q → q.op = .barrier op → BarrierGives false 0xFFF op (s.readSlot (dramKey r.at_ q.off)) b v →
    ∃ t : State, exec (.barrierRequest m) s = .next t ∧ OnlyBytes s t (dramKey r.at_ q.off) 16 ∧
      t.readSlot (dramKey r.at_ q.off) = b ∧ Replied t r q (.value v))

namespace Sys2Proof.Machine

/-- Posted operation p of another tile has come to its home r.at_, next in its pair's sequence, and may perform (R143, R147, R412). -/
abbrev MayPerform (s : State) (r : Arrived) (p : Posted) : Prop :=
  r.msg.body = .posted p ∧ r.stand = false ∧ p.src ≠ 4095 ∧ p.srcTile ≠ r.at_ ∧
  p.seq = (tgetD (s.tile r.at_).box.settled p.src 0 + 1) % 2 ^ 38 ∧ s.partOf p.rank = p.part ∧ s.poison r.at_ p.off = 0 ∧
  s.awaiting r.at_ p.off = false ∧ (s.tile r.at_).held = [] ∧ p.kpos = none ∧ (s.tile r.at_).obs.watches = [] ∧ p.off < 2 ^ 33

/-- The home of p has settled it and told its source. -/
abbrev Settled (s t : State) (r : Arrived) (p : Posted) : Prop :=
  tget (t.tile r.at_).box.settled p.src = some p.seq ∧ (t.tile r.at_).box.marks = (s.tile r.at_).box.marks ∧
  ∃ a ∈ t.net, a.dst = r.msg.src ∧ a.rank = some p.src ∧ a.body = .settled p.jidx p.acc true

end Sys2Proof.Machine

/-- R143, R147, R154, R163, R172, R177: a posted store, atomic, TDEC or frame exit that is next in its pair's sequence performs at its home
in one instant on exactly its bytes, settles its sequence number and sends its notice; out of sequence it waits; into a poisoned range
it writes nothing, settles, marks its source and sends a refusal. -/
def Obligations.PostedOperationsAtTheirHome : Prop :=
  (∀ (s s' : State) (m : Nat) (r : Arrived) (p : Posted), s.arrive m = some (r, s') → MayPerform s r p →
    let key := dramKey r.at_ p.off
    (∀ b, p.op = .store b → ∃ t : State, exec (.postedStoreArrival m) s = .next t ∧ OnlyBytes s t key b.length ∧
      t.mem.read key b.length = b ∧ Settled s t r p) ∧
    (∀ a v, p.op = .atomic a v → ∃ t : State, exec (.postedStoreArrival m) s = .next t ∧ OnlyBytes s t key 8 ∧
      t.mem.word key = atomGives a (s.mem.word key) v ∧ Settled s t r p) ∧
    (p.op = .tdec → (s.tile r.at_).runList.length < 128 →
      let dw := s.mem.word key
      let last := dw.extractLsb' 32 32 = 1#32 ∧ dw.getLsbD 31 = true
      ∃ t : State, exec (.tdecArrival m) s = .next t ∧ OnlyBytes s t key 8 ∧
        (t.mem.word key).extractLsb' 32 32 = dw.extractLsb' 32 32 - 1#32 ∧ Settled s t r p ∧
        (last → (t.tile r.at_).runList = (s.tile r.at_).runList ++
          [⟨BitVec.ofNat 64 (fld (s.mem.word (key + 8)) 51 0), fld (s.mem.word (key + 8)) 63 52⟩]) ∧
        (¬ last → (t.tile r.at_).runList = (s.tile r.at_).runList)) ∧
    (∀ w, p.op = .frameExit w → p.off + 16 ≤ 2 ^ 33 →
      let fwit := s.mem.word (key + 8)
      ∃ t : State, exec (.frameExitArrival m) s = .next t ∧ OnlyBytes s t key 16 ∧ t.mem.word key = s.mem.word key - 1 ∧
        t.mem.word (key + 8) = (if witWf s.grade fwit then joinOf (s.tickOf r.at_) fwit w else fwit) ∧ Settled s t r p)) ∧
  (∀ (s s' : State) (m : Nat) (r : Arrived) (p : Posted) (b : List Byte), s.arrive m = some (r, s') → r.msg.body = .posted p →
    r.stand = false → p.src ≠ 4095 → p.op = .store b →
    p.seq ≠ (tgetD (s.tile r.at_).box.settled p.src 0 + 1) % 2 ^ 38 → exec (.postedStoreArrival m) s = .next s) ∧
  (∀ (s s' : State) (m : Nat) (r : Arrived) (p : Posted) (b : List Byte), s.arrive m = some (r, s') → r.msg.body = .posted p →
    r.stand = false → p.src ≠ 4095 → p.srcTile ≠ r.at_ → p.op = .store b → p.kpos = none → (s.tile r.at_).held = [] →
    p.seq = (tgetD (s.tile r.at_).box.settled p.src 0 + 1) % 2 ^ 38 → s.poison r.at_ p.off = 1 → s.awaiting r.at_ p.off = false →
    ∃ (t : State) (k : Mark) (a : Msg), exec (.postedStoreArrival m) s = .next t ∧ Aside s t ∧ tget (t.tile r.at_).box.settled p.src = some p.seq ∧
      tget (t.tile r.at_).box.marks p.src = some k ∧ k.latest = p.seq ∧ a ∈ t.net ∧ a.dst = r.msg.src ∧
      a.body = .refusal p.jidx 1 p.rank p.seq (BitVec.ofNat 64 (p.rank * 2 ^ 33 + p.off)) p.gtid p.acc) ∧
  (∀ (s : State) (t since : Nat) (p : Posted) (ret : Ret) (b : List Byte), (s.tile t).held = [.posted p ret since] → p.op = .store b →
    (s.tile t).shellAlive = true → s.awaiting t p.off = false → p.src ≠ 4095 → p.srcTile ≠ t → s.partOf p.rank = p.part → s.poison t p.off = 0 → p.kpos = none →
    (s.tile t).obs.watches = [] →
    ∃ u : State, exec (.heldAccessPerform t) s = .next u ∧ (u.tile t).held = [] ∧ OnlyBytes s u (dramKey t p.off) b.length ∧
      u.mem.read (dramKey t p.off) b.length = b ∧ tget (u.tile t).box.settled p.src = some p.seq)

/-- R59, R94, R109, R145, R333, R334: replies and notices at the tile that waits for them. A value fills the register that its producer
claimed; a probe's answer fills WTEST's register or lets the context issue again; a settlement releases the journal entry and lowers its
class; a refusal fills an entry of the refusal table and releases the journal entry; an acknowledgement clears the mark whose latest
refusal it names, and its answer empties the entry. Nothing else of the registers and no byte of memory changes. -/
def Obligations.RepliesAndNotices : Prop :=
  (∀ (s s' : State) (m tl c acc : Nat) (r : Arrived) (w : Who) (cn : Counts) (x old pc : Word) (rd : XReg) (e : Ext) (l : List Producer),
    s.arrive m = some (r, s') → w.agent = .tile tl → w.slot = c → c < 16 → rd ≠ 0 →
    r.msg.body = .proxyRep w 0 (.value x) → (s.ctx (.tile tl) c).pend = ⟨w.id, .x rd, cn, old, pc, .access e, acc⟩ :: l →
    (∀ p ∈ l, p.dest ≠ .x rd) →
    ∃ t : State, exec (.proxyReply m) s = .next t ∧ SameMem s t ∧ (t.ctx (.tile tl) c).pend = l ∧
      (t.ctx (.tile tl) c).xEmpty rd = false ∧
      (∀ q, (t.ctx (.tile tl) c).x q = if q = rd then e.apply x.toNat else (s.ctx (.tile tl) c).x q)) ∧
  (∀ (s s' : State) (m tl c acc cause : Nat) (r : Arrived) (w : Who) (cn : Counts) (tval old pc : Word) (rd : XReg) (e : Ext) (l : List Producer),
    s.arrive m = some (r, s') → w.agent = .tile tl → w.slot = c → 0 < c → c < 16 → rd ≠ 0 →
    r.msg.body = .proxyRep w 0 (.fault cause tval) → (s.ctx (.tile tl) c).pend = ⟨w.id, .x rd, cn, old, pc, .access e, acc⟩ :: l →
    ∃ t : State, exec (.proxyReply m) s = .next t ∧ SameMem s t ∧ (t.ctx (.tile tl) c).st = .trapped ∧
      (t.ctx (.tile tl) c).trap.cause = cause ∧ (t.ctx (.tile tl) c).trap.tval = tval ∧ (t.ctx (.tile tl) c).trap.epc = pc ∧
      (∀ q, (t.ctx (.tile tl) c).x q = if q = rd then old else (s.ctx (.tile tl) c).x q)) ∧
  (∀ (s s' : State) (m tl c acc : Nat) (r : Arrived) (w : Who) (a : ProbeAns) (cn : Counts) (old pc : Word) (rd : XReg) (l : List Producer),
    s.arrive m = some (r, s') → w.agent = .tile tl → w.slot = c → c < 16 → rd ≠ 0 → r.msg.body = .probeAns w a →
    a ∈ [.outstanding, .satisfied, .poison] → (s.ctx (.tile tl) c).pend = ⟨w.id, .x rd, cn, old, pc, .answer, acc⟩ :: l →
    ∃ t : State, exec (.probeAnswer m) s = .next t ∧ SameMem s t ∧
      (t.ctx (.tile tl) c).x rd = (if a = .satisfied then 1 else if a = .poison then 2 else 0)) ∧
  (∀ (s s' : State) (m tl c acc : Nat) (r : Arrived) (w : Who) (a : ProbeAns) (k : ProbeKey), s.arrive m = some (r, s') →
    w.agent = .tile tl → w.slot = c → c < 16 → r.msg.body = .probeAns w a → (s.ctx (.tile tl) c).pend = [] →
    (s.ctx (.tile tl) c).probes = [⟨w.id, k, none, acc⟩] →
    ∃ t : State, exec (.probeAnswer m) s = .next t ∧ Aside s t ∧ (t.ctx (.tile tl) c).probes = [⟨w.id, k, some a, acc⟩] ∧
      ((s.ctx (.tile tl) c).st = .parkedJoin → (t.ctx (.tile tl) c).st = .ready) ∧
      (∀ x, k = .wit x → a = .satisfied → s.rankOf tl ≠ witDst x → witKind x = 1 → (s.ctx (.tile tl) c).st = .parkedWit →
        (s.ctx (.tile tl) c).wait = .wit x → t.slotState tl c = .ready)) ∧
  (∀ (s s' : State) (m jidx acc c : Nat) (r : Arrived) (e : JEntry) (l : List JEntry), s.arrive m = some (r, s') →
    r.msg.body = .settled jidx acc true → r.stand = false → (s.tile r.at_).journal = e :: l → e.idx = jidx → e.slot = some c →
    c < 16 → e.eng = none →
    ∃ t : State, exec (.settlementNotice m) s = .next t ∧ Aside s t ∧ (t.tile r.at_).journal = l ∧
      (e.cls = 1 → (t.ctx (.tile r.at_) c).c1 = (s.ctx (.tile r.at_) c).c1 - 1) ∧
      (e.cls = 2 → (t.ctx (.tile r.at_) c).c2 = (s.ctx (.tile r.at_) c).c2 - 1)) ∧
  (∀ (s s' : State) (m jidx cause dst seq acc : Nat) (addr g : Word) (r : Arrived) (e : JEntry) (l : List JEntry),
    s.arrive m = some (r, s') → r.msg.body = .refusal jidx cause dst seq addr g acc → r.stand = false → cause ≠ 0 →
    (s.tile r.at_).refusals = Vector.replicate 32 RefEntry.empty → (s.tile r.at_).journal = e :: l → e.idx = jidx →
    ∃ t : State, exec (.refusalEntryFill m) s = .next t ∧ Aside s t ∧ (t.tile r.at_).journal = l ∧
      (t.tile r.at_).refusals.toList.head? = some ⟨true, false, cause, dst, 1, seq, seq, addr, g,
        BitVec.ofNat 64 (3 * 2 ^ 62 + s.rankOf r.at_ * 2 ^ 50 + jidx * 2 ^ 40), (pcoord r.at_, s.rankOf r.at_, s.gen)⟩) ∧
  (∀ (s s' : State) (m src dst last : Nat) (r : Arrived) (k : Mark), s.arrive m = some (r, s') →
    r.msg.body = .refAck src dst last → r.stand = false → (s.tile r.at_).box.marks = [(src, k)] →
    ∃ (t : State) (a : Msg), exec (.refusalAckArrival m) s = .next t ∧ Aside s t ∧ a ∈ t.net ∧ a.dst = r.msg.src ∧
      a.body = .refAckAns dst (decide (k.latest = last)) ∧
      (t.tile r.at_).box.marks = (if k.latest = last then [] else [(src, k)])) ∧
  (∀ (s s' : State) (m dst : Nat) (ok : Bool) (r : Arrived), s.arrive m = some (r, s') → r.msg.body = .refAckAns dst ok →
    ∃ t : State, exec (.refusalAckAnswer m) s = .next t ∧ Aside s t ∧
      (t.tile r.at_).refusals = (s.tile r.at_).refusals.map fun e =>
        if e.valid ∧ e.ackpend ∧ e.dst = dst then (if ok then RefEntry.empty else { e with ackpend := false }) else e)

/-- R101, R145, R322: a wait probe is answered when its witness is settled and held while it is not, a test probe is answered at
once, and a held probe is answered when its witness settles. A missing line enters the home cache; a walk reads one entry: an
invalid one ends it in a page fault for its waiters, a table goes on, a leaf ends it with the translation in the TLBs of the field
and of its waiters. The model's own choices here are those of log 2 and 20. -/
def Obligations.ProbesFillsAndWalks : Prop :=
  (∀ (s s' : State) (m : Nat) (r : Arrived) (w : Who) (x : Word), s.arrive m = some (r, s') → r.stand = false →
    let ans := (s.tile r.at_).checkPair x
    (∀ a, ((ans = .satisfied ∧ a = ProbeAns.satisfied) ∨ (ans = .poison ∧ a = ProbeAns.poison)) →
      (r.msg.body = .probe w (.wit x) true → ∃ (t : State) (b : Msg), exec (.waitProbe m) s = .next t ∧ Aside s t ∧ t.net = s'.net ++ [b] ∧
        b.dst = r.msg.src ∧ b.body = .probeAns w a) ∧
      (r.msg.body = .probe w (.wit x) false → ∃ (t : State) (b : Msg), exec (.testProbe m) s = .next t ∧ Aside s t ∧ t.net = s'.net ++ [b] ∧
        b.dst = r.msg.src ∧ b.body = .probeAns w a)) ∧
    (ans = .outstanding → (s.tile r.at_).heldProbes.length < 32 → r.msg.body = .probe w (.wit x) true →
      ∃ (t : State) (h : HeldProbe), exec (.waitProbe m) s = .next t ∧ Aside s t ∧ (t.tile r.at_).heldProbes = (s.tile r.at_).heldProbes ++ [h] ∧
        h.who = w ∧ h.key = .wit x ∧ h.ret = r.ret) ∧
    (ans = .outstanding → r.msg.body = .probe w (.wit x) false → ∃ (t : State) (b : Msg), exec (.testProbe m) s = .next t ∧ Aside s t ∧
      t.net = s'.net ++ [b] ∧ b.dst = r.msg.src ∧ b.body = .probeAns w .outstanding)) ∧
  (∀ (s : State) (t : Nat) (h : HeldProbe) (x : Word), (s.tile t).heldProbes = [h] → h.join = none → h.treap = false →
    h.key = .wit x → (s.tile t).checkPair x = .satisfied → (s.tile t).shellAlive = true →
    ∃ (u : State) (b : Msg), exec (.waitProbeAnswer t) s = .next u ∧ Aside s u ∧ (u.tile t).heldProbes = [] ∧ u.net = s.net ++ [b] ∧
      b.dst = h.ret.node ∧ b.body = .probeAns h.who .satisfied) ∧
  (∀ (s : State) (t l : Nat) (f : List Nat), (s.tile t).fills = l :: f → (s.tile t).lines.length < 2 ^ 16 →
    ∃ u : State, exec (.cacheFill t) s = .next u ∧ Aside s u ∧ (u.tile t).fills = f ∧ l ∈ (u.tile t).lines ∧
      (∀ k ∈ (s.tile t).lines, k ∈ (u.tile t).lines)) ∧
  (∀ (s : State) (f h : Nat) (w : Walk), (s.field f).walks = [w] → w.table / 2 ^ 33 < s.grade → s.homeOf (w.table / 2 ^ 33) = some h →
    let off := w.table % 2 ^ 33 + 8 * walkIndex w.level w.va w.host
    let e := s.mem.word (dramKey h off)
    s.awaiting h off = false → s.poison h off = 0 → (s.tile h).held = [] → (s.tile h).shellAlive = true → w.stale = false →
    (e.getLsbD 0 = false → ∃ t : State, exec (.walkComplete f 0) s = .next t ∧ Aside s t ∧ (t.field f).walks = [] ∧
      ∀ x ∈ w.waiters, x.2 < 16 → (t.ctx (.tile x.1) x.2).walkFault = some (w.va, false)) ∧
    (∀ next, readEntry s.grade w.level w.host e = .next next → ∃ t : State, exec (.walkComplete f 0) s = .next t ∧ Aside s t ∧
      (t.field f).walks = [{ w with level := w.level - 1, table := next }]) ∧
    (readEntry s.grade w.level w.host e = .leaf → ∃ t : State, exec (.walkComplete f 0) s = .next t ∧ Aside s t ∧
      (t.field f).walks = [] ∧
      let size := leafSize w.level
      let q : TlbEntry := ⟨w.va / 2 ^ size * 2 ^ size, size, w.host, w.asid, e⟩
      q ∈ (t.field f).tlb ∧ ∀ x ∈ w.waiters, q ∈ (t.tile x.1).tlb))

/-! ### Contexts on their way, map entries and records -/

/-- R61, R84 to R96, R142, R151, R350: a departing context that may be packed is sent with its registers to the tile that the map
gives for its rank, or pinned by its bounce count; where it arrives it enters the queue if that has room and its gate is open, and
the source is told; acceptance frees the source's slot, a refusal starts the back-off of 64 × 2^n cycles or after the eighth makes
the access proxied; the packet is then sent again. The admitted context becomes ready once the stores of its own that name this
rank have settled, and traps on a malformed table. Owner-moved notices and map entries change one entry of the tile's map. No byte
of memory changes. The model's own choices here are those of log 42. -/
def Obligations.Migration : Prop :=
  (∀ (s : State) (t c d : Nat), c < 16 →
    let x := s.ctx (.tile t) c
    x.st = .departing → (s.ctx (.tile t) 0).stage ≠ .preempt → MayPack x → NoPorts x → s.mapOf t x.target = some d →
    ((x.explicit = true ∨ 16 ≤ x.th.run ∨ x.th.bounce + 1 ≠ x.th.pth) →
      ∃ (u : State) (m : Msg) (h : Thread), exec (.departure t c) s = .next u ∧ SameMem s u ∧ (u.ctx (.tile t) c).st = .inFlight ∧ u.net = s.net ++ [m] ∧
        m.dst = .tile d ∧ m.rank = some x.target ∧ m.body = .migrate h c x.forwarded x.carried ∧ h.x = x.th.x ∧ h.f = x.th.f ∧
        h.pc = x.th.pc ∧ h.gtid = x.th.gtid ∧ h.own = x.th.own ∧ h.ownOver = x.th.ownOver ∧ h.fcsr = x.th.fcsr) ∧
    (x.explicit = false → x.th.run < 16 → x.th.bounce + 1 = x.th.pth →
      ∃ u : State, exec (.departure t c) s = .next u ∧ Aside s u ∧ (u.ctx (.tile t) c).st = .ready ∧
        (u.ctx (.tile t) c).th.pinned = true ∧ (u.ctx (.tile t) c).th.pcount = 256 ∧ (u.ctx (.tile t) c).th.bounce = 0)) ∧
  (∀ (s s' : State) (m c : Nat) (r : Arrived) (h : Thread) (fw : Bool) (ca : Option (Word × Nat)), s.arrive m = some (r, s') → r.msg.body = .migrate h c fw ca →
    r.stand = false →
    (((s.tile r.at_).gate = true ∧ (s.tile r.at_).arrivals.length < (s.tile r.at_).adepth) →
      ∃ (u : State) (a : Msg), exec (.migrationArrival m) s = .next u ∧ Aside s u ∧
        (u.tile r.at_).arrivals = (s.tile r.at_).arrivals ++ [⟨{ h with refuse := 0 }, false, false, ca⟩] ∧ u.net = s'.net ++ [a] ∧
        a.dst = r.msg.src ∧ a.body = .notice c true) ∧
    (((s.tile r.at_).gate = false ∨ (s.tile r.at_).adepth ≤ (s.tile r.at_).arrivals.length) →
      ∃ (u : State) (a : Msg), exec (.migrationArrival m) s = .next u ∧ Aside s u ∧ (u.tile r.at_).arrivals = (s.tile r.at_).arrivals ∧
        u.net = s'.net ++ [a] ∧ a.dst = r.msg.src ∧ a.body = .notice c false)) ∧
  (∀ (s s' : State) (m c : Nat) (r : Arrived), s.arrive m = some (r, s') → c < 16 → (s.ctx (.tile r.at_) c).st = .inFlight →
    (r.msg.body = .notice c true → ∃ u : State, exec (.acceptanceNotice m) s = .next u ∧ SameMem s u ∧
      (u.ctx (.tile r.at_) c).st = .free ∧ ∀ d, d ≠ c → u.ctx (.tile r.at_) d = s.ctx (.tile r.at_) d) ∧
    (r.msg.body = .notice c false → (s.ctx (.tile r.at_) c).killed = false → (s.ctx (.tile r.at_) c).forwarded = false →
      let n := (s.ctx (.tile r.at_) c).th.refuse + 1
      (n < 8 → ∃ u : State, exec (.refusalNotice m) s = .next u ∧ Aside s u ∧ (u.ctx (.tile r.at_) c).st = .refused ∧
        (u.ctx (.tile r.at_) c).th.refuse = n ∧
        (u.ctx (.tile r.at_) c).backoff = some ((s.tile r.at_).cycles + 64 * 2 ^ min n 4)) ∧
      (8 ≤ n → ∃ u : State, exec (.refusalNotice m) s = .next u ∧ Aside s u ∧ (u.ctx (.tile r.at_) c).st = .ready ∧
        (u.ctx (.tile r.at_) c).proxyNext = true ∧ (u.ctx (.tile r.at_) c).th.refuse = 0))) ∧
  (∀ (s : State) (t c d due : Nat), c < 16 → (s.ctx (.tile t) c).st = .refused → (s.ctx (.tile t) c).backoff = some due →
    due ≤ (s.tile t).cycles → (s.ctx (.tile t) 0).stage ≠ .preempt → s.mapOf t (s.ctx (.tile t) c).target = some d →
    ∃ (u : State) (m : Msg), exec (.backoffExpiry t c) s = .next u ∧ Aside s u ∧ (u.ctx (.tile t) c).st = .inFlight ∧ u.net = s.net ++ [m] ∧
      m.dst = .tile d ∧ m.body = .migrate (s.ctx (.tile t) c).th c (s.ctx (.tile t) c).forwarded (s.ctx (.tile t) c).carried) ∧
  (∀ (s : State) (t c : Nat), c < 16 → (s.ctx (.tile t) c).st = .admitted →
    let h := (s.ctx (.tile t) c).th
    ((∀ e ∈ h.own.toList, e = 0 ∨ (witKind e = 1 ∧ witWf s.grade e = true)) → h.ownOver = 0 →
      (∀ e ∈ h.own.toList, witDst e = s.rankOf t → (s.tile t).checkPair e = .satisfied) →
      ∃ u : State, exec (.arrivalCheck t c) s = .next u ∧ Aside s u ∧ (u.ctx (.tile t) c).st = .ready ∧
        (u.ctx (.tile t) c).th.run = 0 ∧ ∀ e ∈ (u.ctx (.tile t) c).th.own.toList, e ≠ 0 → witDst e ≠ s.rankOf t) ∧
    (∀ e, 0 < c → h.own.toList.head? = some e → e ≠ 0 → witKind e ≠ 1 →
      ∃ u : State, exec (.arrivalCheck t c) s = .next u ∧ Aside s u ∧ (u.ctx (.tile t) c).st = .trapped ∧
        (u.ctx (.tile t) c).trap.cause = 25 ∧ (u.ctx (.tile t) c).trap.tval = e ∧ (u.ctx (.tile t) c).trap.achk = true)) ∧
  (∀ (s s' : State) (m k d g : Nat) (r : Arrived), s.arrive m = some (r, s') →
    (r.msg.body = .ownerMoved k d g → ∃ u : State, exec (.ownerMovedNotice m) s = .next u ∧ Aside s u ∧
      u.mapOf r.at_ k = some d ∧ (u.tile r.at_).mapGen = max (s.tile r.at_).mapGen g) ∧
    (r.msg.body = .mapEntry k d g → ∃ u : State, exec (.mapEntryUpdate m) s = .next u ∧ Aside s u ∧
      u.mapOf r.at_ k = some d ∧ (u.tile r.at_).mapGen = max (s.tile r.at_).mapGen g))

/-- R198, R335, R375, R376: an engine's decrement lowers its slot's pending by its bytes at the slot's place in the current
scratchpad; a fault or trace record is written with its sequence number, a null witness and its six words to the next slot of its
partition's ring, a fault record also setting pending bit 20 of the partition's first rank; at a tick edge whose TICK the sample
period divides a tile makes one record for each light context, which SAMPLE sends. The model's own choices here are those of log 37
and 89. -/
def Obligations.RecordsAndDecrements : Prop :=
  (∀ (s : State) (t : Nat) (g : EngRef) (l : List EngRef) (off : Nat), t < 1024 → (s.tile t).decs = g :: l → g.who.mode = none →
    ptrSpace g.slot = 1 → ptrAddr g.slot = off → off + 16 ≤ 2 ^ 23 →
    let key := spadKey t off
    let a := s.readSlot key
    a.tag = 0xA5 → g.bytes ≠ 0 → g.bytes ≤ a.pending →
    ∃ u : State, exec (.engineDecrement t) s = .next u ∧ OnlyBytes s u key 16 ∧ (u.tile t).decs = l ∧
      Toggled { a with pending := a.pending - g.bytes } (u.readSlot key)) ∧
  (∀ (s s' : State) (m p first t0 : Nat) (g : Msg) (r : Arrived) (P : Part) (w : List Word), s.net = [g] → g.id = m →
    s.arrive m = some (r, s') → r.msg.body = .faultRec p w → r.stand = false → tget s.parts p = some P → w.length = 6 →
    P.ranks.head? = some first → s.homeOf first = some t0 → (s.tile r.at_).obs.watches = [] →
    let off := P.faultOff + 64 * (P.faultSeq % P.faultSlots)
    s.poison r.at_ off = 0 →
    ∃ (u : State) (Q : Part), exec (.faultRecordArrival m) s = .next u ∧ tget u.parts p = some Q ∧ Q.faultSeq = P.faultSeq + 1 ∧
      u.mem.read (dramKey r.at_ off) 64 = ([BitVec.ofNat 64 (P.faultSeq + 1), 0] ++ w).flatMap wordBytes ∧
      (∀ a, (a < dramKey r.at_ off ∨ dramKey r.at_ off + 64 ≤ a) → u.mem.get a = s.mem.get a) ∧
      (u.priv (.tile t0)).mip = (s.priv (.tile t0)).mip ||| 0x100000#64) ∧
  (∀ (s s' : State) (m p src : Nat) (g : Msg) (r : Arrived) (P : Part) (w : List Word), s.net = [g] → g.id = m →
    s.arrive m = some (r, s') → r.msg.body = .traceRec p src w → r.stand = false → tget s.parts p = some P → w.length = 6 →
    src ≠ 4095 → (s.tile src).traceWait = [] → (s.tile r.at_).obs.watches = [] →
    let off := P.traceOff + 64 * (P.traceSeq % P.traceSlots)
    s.poison r.at_ off = 0 →
    ∃ (u : State) (Q : Part), exec (.traceRecordArrival m) s = .next u ∧ tget u.parts p = some Q ∧ Q.traceSeq = P.traceSeq + 1 ∧
      (u.tile src).traceFlight = (s.tile src).traceFlight - 1 ∧
      OnlyBytes s u (dramKey r.at_ off) 64 ∧
      u.mem.read (dramKey r.at_ off) 64 = ([BitVec.ofNat 64 (P.traceSeq + 1), 0] ++ w).flatMap wordBytes) ∧
  (∀ (s : State) (t p d : Nat) (P : Part) (w : List Word), (s.tile t).samples = [w] → s.partOf (s.rankOf t) = some p →
    tget s.parts p = some P → P.traceSlots ≠ 0 → (s.tile t).traceFlight < 16 → tget s.rankTile P.traceRank = some d →
    ∃ (u : State) (m : Msg), exec (.sample t) s = .next u ∧ Aside s u ∧ (u.tile t).samples = [] ∧ u.net = s.net ++ [m] ∧
      m.dst = .tile d ∧ m.body = .traceRec p t w) ∧
  (∀ (s : State) (t c p : Nat) (P : Part), 0 < c → c < 16 → (∀ k, 0 < k → k ≠ c → (s.ctx (.tile t) k).st = .free) →
    (s.ctx (.tile t) c).st ≠ .free → s.partOf (s.rankOf t) = some p → tget s.parts p = some P → P.traceSlots ≠ 0 →
    (s.tile t).obs.period ≠ 0 → s.tickOf t % (s.tile t).obs.period = 0 →
    ∃ w : List Word, s.takeSamples t = s.setTile t { s.tile t with samples := (s.tile t).samples ++ [w] } ∧
      w.getD 2 0 = BitVec.ofNat 64 (s.tickOf t) ∧ w.getD 4 0 = (s.ctx (.tile t) c).th.gtid ∧
      w.getD 5 0 = (s.ctx (.tile t) c).th.pc)

/-! ### Streams, vector commands, ports, bridge registers and furrows -/

namespace Sys2Proof.Machine

/-- A slot that goes on at its next instruction with every x register, fcsr, privileged register and other stream as before, and every
byte of memory too, unless fd's stream had pushed elements left to perform; f_fd holds +0 when its stream was unbound (R207, R209). -/
def Rebound (s u : State) (fd : FReg) (zero : Bool) : Prop :=
  (∀ r, u.cur.x r = s.cur.x r) ∧ (∀ r, u.cur.f r = if r = fd ∧ zero = true then 0 else s.cur.f r) ∧
  u.cur.th.fcsr = s.cur.th.fcsr ∧ u.cur.th.pc = s.cur.th.pc + 4 ∧ u.cur.st = .ready ∧ (∀ a, u.priv a = s.priv a) ∧
  (∀ r, r ≠ fd → u.cur.stream r = s.cur.stream r) ∧ ((s.cur.stream fd).out = [] → SameMem s u)

/-- The bit fields of the eight descriptor words d (R205): stream y is what they describe, at position 0. -/
def Describes (d : List Word) (y : Stream) : Prop :=
  let w (i : Nat) : Word := d.getD i 0
  y.dir = (if (w 7).getLsbD 0 then 2 else 1) ∧ y.fmt = ptrFmt (w 0) ∧ y.base = ptrAddr (w 0) ∧
  y.counts = [fld (w 1) 31 0, fld (w 1) 63 32, fld (w 2) 31 0, fld (w 2) 63 32] ∧
  y.strides = [((w 3).extractLsb' 0 32).toInt, ((w 3).extractLsb' 32 32).toInt, ((w 4).extractLsb' 0 32).toInt,
    ((w 4).extractLsb' 32 32).toInt] ∧
  y.total = fld (w 1) 31 0 * fld (w 1) 63 32 * fld (w 2) 31 0 * fld (w 2) 63 32 ∧ y.sat = (w 7).getLsbD 1 ∧
  y.scodes = fld (w 5) 51 0 ∧ y.gscales = fld (w 6) 51 0 ∧ y.pos = 0 ∧ y.done = 0 ∧ y.fetched = [] ∧ y.out = []

end Sys2Proof.Machine

/-- R205, R207, R209, R210: SCFG binds fd to the stream of a descriptor in the scratchpad at position 0, or traps by the first of
its checks that fails; SEN unbinds fd, which then holds +0, or moves its position, once what was pushed has performed; SPOS reads the
binding, direction and position. None changes another register, or a byte of memory but by those pushed elements. The model's own choices here are those of log 41. -/
def Obligations.StreamInstructions : Prop :=
  ∀ (s : State) (t : Nat), s.focus = .tile t →
    (∀ (fd : FReg) (r1 : XReg), CanIssue (.scfg fd r1) s → 4 ≤ fd.toNat → s.cur.commandUses fd = false →
      let p := effPtr (s.cur.x r1) 0
      let d := s.rdWords (spadKey t (ptrAddr p)) 8
      let y := streamOf d
      let own := if s.cur.bound fd then 1 else 0
      let base := d.getD 0 0
      let word := (Instr.scfg fd r1).word
      (ptrSpace p ≠ 1 → exec (.scfg fd r1) s = .next (s.trap (if ptrAddr p % 64 = 0 then 5 else 4) p)) ∧
      (SpadOk p 64 s →
      (descLegal d = false → exec (.scfg fd r1) s = .next (s.trap 2 (word.zeroExtend 64))) ∧
      (descLegal d = true → (ptrSpace base ≠ 1 ∨ y.inside = false) →
        exec (.scfg fd r1) s = .next (s.trap (if y.dir = 1 then 5 else 7) base)) ∧
      (∀ a, descLegal d = true → ptrSpace base = 1 → y.inside = true → alignFault d = some a →
        exec (.scfg fd r1) s = .next (s.trap (if y.dir = 1 then 4 else 6) a)) ∧
      (descLegal d = true → ptrSpace base = 1 → y.inside = true → alignFault d = none → 128 + own ≤ (s.tile t).streamStates →
        exec (.scfg fd r1) s = .next (s.trap 29 (word.zeroExtend 64))) ∧
      (descLegal d = true → ptrSpace base = 1 → y.inside = true → alignFault d = none → (s.tile t).streamStates < 128 + own →
        ∃ u : State, exec (.scfg fd r1) s = .next u ∧ Rebound s u fd (s.cur.bound fd) ∧ Describes d (u.cur.stream fd)))) ∧
    (∀ (fd : FReg) (r1 : XReg), CanIssue (.sen fd r1) s → 4 ≤ fd.toNat →
      let v := s.cur.x r1
      let y := s.cur.stream fd
      let p := fld v 47 8
      let word := (Instr.sen fd r1).word
      ((fld v 7 1 ≠ 0 ∨ fld v 63 48 ≠ 0) → exec (.sen fd r1) s = .next (s.trap 2 (word.zeroExtend 64))) ∧
      (fld v 7 1 = 0 → fld v 63 48 = 0 → s.cur.commandUses fd = false →
        (v.getLsbD 0 = false → y.dir = 0 → ∃ u : State, exec (.sen fd r1) s = .next u ∧ WentTo s u (s.cur.th.pc + 4)) ∧
        (v.getLsbD 0 = false → y.dir ≠ 0 → (∀ q ∈ y.out, q.2 ≠ none) →
          ∃ u : State, exec (.sen fd r1) s = .next u ∧ Rebound s u fd true ∧ u.cur.bound fd = false) ∧
        (v.getLsbD 0 = true → y.dir = 0 → exec (.sen fd r1) s = .next (s.trap 29 (word.zeroExtend 64))) ∧
        (v.getLsbD 0 = true → y.dir ≠ 0 → y.total < p → exec (.sen fd r1) s = .next (s.trap 28 (BitVec.ofNat 64 y.pos))) ∧
        (v.getLsbD 0 = true → y.dir ≠ 0 → p ≤ y.total → (y.dir = 2 ∨ y.out = []) → (∀ q ∈ y.out, q.2 ≠ none) →
          ∃ u : State, exec (.sen fd r1) s = .next u ∧ Rebound s u fd false ∧
            u.cur.stream fd = { y with pos := p, done := p, fetched := [], blk := none, out := [] }))) ∧
    (∀ (rd : XReg) (fs : FReg), CanIssue (.spos rd fs) s → 4 ≤ fs.toNat → s.cur.commandUses fs = false →
      (∀ q ∈ (s.cur.stream fs).out, q.2 ≠ none) →
      let y := s.cur.stream fs
      ∃ u : State, exec (.spos rd fs) s = .next u ∧ WroteX s u rd (if y.dir = 0 then 0 else
        BitVec.ofNat 64 (2 ^ 63 + (if y.dir = 2 then 2 ^ 62 else 0) + y.pos % 2 ^ 40)) (s.cur.th.pc + 4))

/-- R214, R216, R218, R220, R221: a vector command that may run is queued behind those before it with its operands, length and
positions, its streams' positions moved past it, a reduction's register marked empty; with too short an input it traps with cause
28, with a reported stop with cause 30 and VSTAT's word, and with four queued it waits. VWAIT waits for the commands, then goes on
or traps; VSTAT reads the counts. Registers and memory keep their values. The model's own choices here are those of log 38. -/
def Obligations.VectorInstructions : Prop :=
  (∀ (i : Instr) (s : State) (op : Nat) (fd a b : FReg) (et : BitVec 2), vectorParts i = some (op, fd, a, b, et) →
    CanIssue i s → vIllegal s op fd a b et = false → (∀ r ∈ [fd, a, b], ∀ q ∈ (s.cur.stream r).out, q.2 ≠ none) →
    let c := s.cur
    let red := op = 13 ∨ op = 14 ∨ op = 15
    let two := op ∈ [0, 1, 2, 3, 4, 5, 6, 11, 13, 16, 17]
    let y := c.stream (if op = 13 ∨ op = 14 ∨ op = 15 then a else fd)
    let n := y.total - y.pos
    let short (r : FReg) : Prop := (c.stream r).dir = 1 ∧ (c.stream r).total - (c.stream r).pos < n
    (4 ≤ c.vcmds.length → exec i s = .next (s.modCur fun c => { c with st := .ready })) ∧
    (c.vcmds.length < 4 → short a → exec i s = .next (s.trap 28 (BitVec.ofNat 64 (c.stream a).pos))) ∧
    (c.vcmds.length < 4 → ¬ short a → two → op ≠ 17 → short b →
      exec i s = .next (s.trap 28 (BitVec.ofNat 64 (c.stream b).pos))) ∧
    (c.vcmds.length < 4 → ¬ short a → ¬ (two ∧ op ≠ 17 ∧ short b) → c.vpend = true →
      exec i s = .next ((s.modCur fun c => { c with vpend := false }).trap 30
        (BitVec.ofNat 64 (c.vdone % 2 ^ 40 * 2 ^ 8 + c.vstatus * 16 + 8 + c.vcmds.length)))) ∧
    (c.vcmds.length < 4 → ¬ short a → ¬ (two ∧ op ≠ 17 ∧ short b) → c.vpend = false →
      ∃ (u : State) (v : VCmd), exec i s = .next u ∧ Put s u 0 0 ∧ u.cur.vcmds = c.vcmds ++ [v] ∧ v.op = op ∧ v.et = et.toNat ∧ v.fd = fd ∧
        v.fs1 = a ∧ v.fs2 = b ∧ v.n = n ∧ v.frm = c.frm ∧ v.a = (if c.bound a then none else some (c.f a)) ∧
        (two → v.b = if c.bound b then none else some (c.f b)) ∧ v.posA = (c.stream a).pos ∧ v.posB = (c.stream b).pos ∧
        v.posY = (c.stream fd).pos ∧ (red → u.cur.fEmpty fd = true) ∧
        (¬ red → (u.cur.stream fd).pos = (c.stream fd).pos + n) ∧
        (c.bound a → (u.cur.stream a).pos = (c.stream a).pos + n) ∧
        (two → op ≠ 17 → c.bound b → (u.cur.stream b).pos = (c.stream b).pos + n))) ∧
  (∀ s : State, CanIssue .vwait s →
    (s.cur.vcmds ≠ [] → exec .vwait s = .next (s.modCur fun c => { c with st := .ready })) ∧
    (s.cur.vcmds = [] → s.cur.vpend = true → exec .vwait s = .next ((s.modCur fun c => { c with vpend := false }).trap 30
      (BitVec.ofNat 64 (s.cur.vdone % 2 ^ 40 * 2 ^ 8 + s.cur.vstatus * 16 + 8)))) ∧
    (s.cur.vcmds = [] → s.cur.vpend = false → ∃ u : State, exec .vwait s = .next u ∧ WentTo s u (s.cur.th.pc + 4))) ∧
  (∀ (s : State) (rd : XReg), CanIssue (.vstat rd) s →
    ∃ u : State, exec (.vstat rd) s = .next u ∧ WroteX s u rd (BitVec.ofNat 64 (s.cur.vdone % 2 ^ 40 * 2 ^ 8 + s.cur.vstatus * 16 +
      (if s.cur.vpend then 8 else 0) + s.cur.vcmds.length)) (s.cur.th.pc + 4))

/-- R208, R211, R213, R216, R217, R219: an element of an input stream is fetched ahead of its pop; the oldest pushed element of an
output stream is written to its place; a command computes each element from its inputs when the last of them has been fetched, an
element-wise one pushing the result, a reduction entering it in its lane; the oldest command completes at its time with every element
performed: its flags are raised, a reduction fills its register, VGATHER stops at an index out of range. The model's own choices here are those of log
23, 39, 40 and 51. -/
def Obligations.StreamAndVectorEvents : Prop :=
  (∀ (s : State) (t c r : Nat), c < 16 → 4 ≤ r → r < 8 →
    let f : FReg := BitVec.ofNat 3 r
    let x := s.ctx (.tile t) c
    let y := x.stream f
    (y.dir = 1 → x.vcmds = [] → y.fetched = [] → y.pos < y.total → y.width ≠ 4 → y.fmt < 11 →
      ∃ (u : State) (e : Elem), exec (.streamElementFetch t c r) s = .next u ∧ Aside s u ∧
        ((u.ctx (.tile t) c).stream f).fetched = [(y.pos, e)] ∧ ((u.ctx (.tile t) c).stream f).pos = y.pos ∧
        e.raw = leNat (s.mem.read (spadKey t (y.place y.pos).1) (y.width / 8))) ∧
    (∀ k raw l, y.dir = 2 → y.out = (k, some raw) :: l → y.width ≠ 4 → y.width % 8 = 0 →
      let a := (y.place y.done).1
      a + y.width / 8 ≤ 2 ^ 23 →
      ∃ (u : State) (more : List (Nat × Option Nat)), exec (.streamOutputPerform t c r) s = .next u ∧
        OnlyBytes s u (spadKey t a) (y.width / 8) ∧ u.mem.read (spadKey t a) (y.width / 8) = leBytes (y.width / 8) raw ∧
        ((u.ctx (.tile t) c).stream f).out = l ++ more ∧ (x.vcmds = [] → more = []) ∧
        ((u.ctx (.tile t) c).stream f).done = y.done + 1)) ∧
  (∀ (s : State) (t c : Nat) (v : VCmd), c < 16 → (s.ctx (.tile t) c).vcmds = [v] → v.n = v.next + 1 → v.et = 0 → v.a = none →
    4 ≤ v.fs1.toNat →
    let x := s.ctx (.tile t) c
    let Y := x.stream v.fd
    let A := x.stream v.fs1
    let B := x.stream v.fs2
    let plain (y : Stream) : Prop := y.fmt = 0 ∧ y.width = 64
    let el := leNat (s.mem.read (spadKey t (A.place (v.posA + v.next)).1) 8)
    plain A → A.fetched = [] →
    (∀ m e, v.op ∈ [0, 1, 2] → 4 ≤ v.fd.toNat → v.fd ≠ v.fs1 → v.fs2 ≠ v.fs1 → v.fs2 ≠ v.fd → Y.out = [] → plain Y → plain B →
      v.b = none → tget B.fetched (v.posB + v.next) = some e → Rnd.ofCode v.frm = some m →
      let r := if v.op = 0 then fp64.add m el e.raw else if v.op = 1 then fp64.sub m el e.raw else fp64.mul m el e.raw
      ∃ (u : State) (k : Nat), exec (.streamElementFetch t c v.fs1.toNat) s = .next u ∧ Aside s u ∧
        ((u.ctx (.tile t) c).stream v.fd).out = [(k, some r.1)] ∧
        (u.ctx (.tile t) c).vcmds = [{ v with next := v.n, fl := v.fl ||| r.2 }]) ∧
    (v.op = 14 → v.next = 0 → v.acc = [] → Rnd.ofCode v.frm ≠ none →
      ∃ u : State, exec (.streamElementFetch t c v.fs1.toNat) s = .next u ∧ Aside s u ∧
        (u.ctx (.tile t) c).vcmds = [{ v with next := 1, acc := some el :: List.replicate 31 none }])) ∧
  (∀ (s : State) (t c : Nat) (v : VCmd) (l : List VCmd), c < 16 → (s.ctx (.tile t) c).vcmds = v :: l →
    v.due ≤ (s.tile t).cycles →
    let x := s.ctx (.tile t) c
    let Y := x.stream v.fd
    let A := x.stream v.fs1
    let B := x.stream v.fs2
    (v.op ∉ [13, 14, 15] → v.n ≤ v.next → Y.out = [] →
      ∃ u : State, exec (.vectorCommandComplete t c) s = .next u ∧ SameMem s u ∧ (u.ctx (.tile t) c).vcmds.length = l.length ∧
        (u.ctx (.tile t) c).vdone = v.n ∧ (u.ctx (.tile t) c).vstatus = 0 ∧
        (u.ctx (.tile t) c).th.fcsr = x.th.fcsr ||| v.fl.zeroExtend 8 ∧
        (∀ r, (u.ctx (.tile t) c).x r = x.x r) ∧ (∀ r, (u.ctx (.tile t) c).f r = x.f r)) ∧
    (∀ m cn old pc acc a b, v.op = 14 → v.et = 0 → v.n ≤ v.next → Rnd.ofCode v.frm = some m →
      v.acc = some a :: some b :: List.replicate 30 none →
      x.pend = [⟨v.id, .f v.fd, cn, old, pc, .vector v.id, acc⟩] →
      let r := fp64.add m a b
      let q := fp64.ofValue .rne false (fp64.value r.1)
      ∃ u : State, exec (.vectorCommandComplete t c) s = .next u ∧ SameMem s u ∧ (u.ctx (.tile t) c).vcmds.length = l.length ∧
        (u.ctx (.tile t) c).vdone = v.n ∧ (u.ctx (.tile t) c).fEmpty v.fd = false ∧
        (u.ctx (.tile t) c).f v.fd = BitVec.ofNat 64 q.1 ∧ (∀ q, q ≠ v.fd → (u.ctx (.tile t) c).f q = x.f q) ∧
        (u.ctx (.tile t) c).th.fcsr = x.th.fcsr ||| (v.fl ||| r.2 ||| q.2).zeroExtend 8) ∧
    (∀ e, v.op = 17 → v.et = 0 → v.next < v.n → 4 ≤ v.fd.toNat → 4 ≤ v.fs1.toNat → v.fs1 ≠ v.fd → Y.out = [] → l = [] →
      A.fmt = 0 → v.a = none → tget A.fetched (v.posA + v.next) = some e →
      (let j := ((fp64.value e.raw).toInt .rne false true 64).1
       2 ^ 63 ≤ j ∨ B.total ≤ j) →
      ∃ u : State, exec (.vectorCommandComplete t c) s = .next u ∧ SameMem s u ∧ (u.ctx (.tile t) c).vcmds = [] ∧
        (u.ctx (.tile t) c).vdone = v.next ∧ (u.ctx (.tile t) c).vstatus = 1 ∧ (u.ctx (.tile t) c).vpend = true ∧
        ((u.ctx (.tile t) c).stream v.fd).pos = v.posY + v.next ∧
        ((u.ctx (.tile t) c).stream v.fs1).pos = v.posA + v.next + 1))

/-- R138, R139, R222 to R226: a bound f register as a source pops the next element, as a destination pushes one; x15 of a furrow-bound
context takes the next word of its inbound queue and puts one into the outbound queue, which crosses to the neighbour's inbound queue.
BGET empties a full bridge register, BPUT fills an empty one, and each waits on the other; FURROW binds the tile's port or traps with
cause 29, UNFURROW releases it and clears x15. -/
def Obligations.PortsBridgesAndFurrows : Prop :=
  (∀ (s : State) (t : Nat), s.focus = .tile t →
    (∀ (fd a b : FReg) (rm : BitVec 3) (m : Rnd) (e : Elem) (l : Tbl Elem),
      let i := Instr.faddD fd a b rm
      let y := s.cur.stream a
      encoded i = true → legalHere i s = true → Rnd.ofField rm s.cur.frm = some m →
      y.dir = 1 → s.cur.bound b = false → s.cur.bound fd = false → s.cur.pend = [] → s.cur.commandUses a = false →
      s.breakHit = none → s.cur.th.furrow = false → y.fmt = 0 → y.fetched = (y.pos, e) :: l → y.pos < y.total →
      let r := fp64.add m e.raw (fsrc s.cur 1 b)
      ∃ u : State, exec i s = .next u ∧ u.cur.f fd = boxed 1 r.1 ∧ (∀ q, q ≠ fd → u.cur.f q = s.cur.f q) ∧
        u.cur.th.fcsr = s.cur.th.fcsr ||| r.2.zeroExtend 8 ∧ u.cur.th.pc = s.cur.th.pc + 4 ∧ (∀ q, u.cur.x q = s.cur.x q) ∧
        (u.cur.stream a).pos = y.pos + 1 ∧ (u.cur.stream a).done = y.done + 1 ∧ SameMem s u) ∧
    (∀ (fd a b : FReg) (rm : BitVec 3) (m : Rnd),
      let i := Instr.faddD fd a b rm
      let y := s.cur.stream fd
      encoded i = true → legalHere i s = true → Rnd.ofField rm s.cur.frm = some m →
      y.dir = 2 → s.cur.bound b = false → s.cur.bound a = false → s.cur.pend = [] → s.cur.commandUses fd = false →
      s.breakHit = none → s.cur.th.furrow = false → y.fmt = 0 → y.out.length < 16 → y.pos < y.total →
      let r := fp64.add m (fsrc s.cur 1 a) (fsrc s.cur 1 b)
      ∃ (u : State) (k : Nat), exec i s = .next u ∧ (u.cur.stream fd).out = y.out ++ [(k, some r.1)] ∧ (u.cur.stream fd).pos = y.pos + 1 ∧
        (∀ q, u.cur.f q = s.cur.f q) ∧ u.cur.th.fcsr = s.cur.th.fcsr ||| r.2.zeroExtend 8 ∧
        u.cur.th.pc = s.cur.th.pc + 4 ∧ (∀ q, u.cur.x q = s.cur.x q) ∧ SameMem s u) ∧
    (∀ (fd a b : FReg) (rm : BitVec 3),
      let i := Instr.faddD fd a b rm
      let y := s.cur.stream a
      encoded i = true → legalHere i s = true → y.dir = 1 → s.cur.bound b = false → s.cur.bound fd = false → s.cur.pend = [] →
      s.cur.commandUses a = false → s.breakHit = none → s.cur.th.furrow = false → y.pos = y.total →
      exec i s = .next (s.trap 28 (BitVec.ofNat 64 y.pos))) ∧
    (∀ (rd r2 : XReg) (P : Furrow) (w : Word) (l : List Word),
      let i := Instr.add rd 15#5 r2
      encoded i = true → legalHere i s = true → s.cur.th.furrow = true → (s.tile t).port = some P → P.inq = w :: l → rd ≠ 15#5 →
      r2 ≠ 15#5 → s.cur.pend = [] → s.breakHit = none →
      ∃ u : State, exec i s = .next u ∧ Put s u rd (w + s.cur.x r2) ∧ (u.tile t).port = some { P with inq := l }) ∧
    (∀ (r1 r2 : XReg) (P : Furrow),
      let i := Instr.add 15#5 r1 r2
      encoded i = true → legalHere i s = true → s.cur.th.furrow = true → (s.tile t).port = some P → P.dnGone = false →
      P.outq.length < 8 → r1 ≠ 15#5 → r2 ≠ 15#5 → s.cur.pend = [] → s.breakHit = none →
      ∃ (u : State) (k : Nat), exec i s = .next u ∧ Put s u 0 0 ∧
        (u.tile t).port = some { P with outq := P.outq ++ [(k, some (s.cur.x r1 + s.cur.x r2))] }) ∧
    (∀ (rd : XReg) (b : BitVec 4), CanIssue (.bget rd b) s →
      ((s.tile t).bfull[b.toNat] = true → ∃ u : State, exec (.bget rd b) s = .next u ∧ Put s u rd (s.tile t).bridge[b.toNat] ∧
        (u.tile t).bfull = (s.tile t).bfull.set b.toNat false ∧ (u.tile t).bridge = (s.tile t).bridge) ∧
      ((s.tile t).bfull[b.toNat] = false → exec (.bget rd b) s = .next (s.modCur fun c => { c with st := .ready }))) ∧
    (∀ (r1 : XReg) (b : BitVec 4), CanIssue (.bput r1 b) s →
      ((s.tile t).bfull[b.toNat] = false → ∃ u : State, exec (.bput r1 b) s = .next u ∧ Put s u 0 0 ∧
        (u.tile t).bfull = (s.tile t).bfull.set b.toNat true ∧
        (u.tile t).bridge = (s.tile t).bridge.set b.toNat (s.cur.x r1)) ∧
      ((s.tile t).bfull[b.toNat] = true → exec (.bput r1 b) s = .next (s.modCur fun c => { c with st := .ready }))) ∧
    (∀ r1 r2 : XReg, CanIssue (.furrow r1 r2) s →
      let v := s.cur.x r1
      let w := s.cur.x r2
      (s.furrowBad v w = false → ∃ u : State, exec (.furrow r1 r2) s = .next u ∧ Put s u 0 0 ∧ u.cur.th.furrow = true ∧
        (u.tile t).port = some ⟨s.cur.th.gtid, if v.getLsbD 2 then some (fld v 1 0) else none,
          if v.getLsbD 6 then some (fld v 5 4) else none, fld w 15 0, [], [], false, false⟩) ∧
      (s.furrowBad v w = true → exec (.furrow r1 r2) s = .next (s.trap 29 ((Instr.furrow r1 r2).word.zeroExtend 64)))) ∧
    (CanIssue .unfurrow s →
      (s.cur.th.furrow = false → ∃ u : State, exec .unfurrow s = .next u ∧ WentTo s u (s.cur.th.pc + 4)) ∧
      (∀ P, s.cur.th.furrow = true → (s.tile t).port = some P → P.gtid = s.cur.th.gtid → P.outq = [] →
        ∃ u : State, exec .unfurrow s = .next u ∧ (u.tile t).port = none ∧ u.cur.th.furrow = false ∧
          (∀ r, u.cur.x r = if r = 15#5 then 0 else s.cur.x r) ∧ (∀ r, u.cur.f r = s.cur.f r) ∧
          u.cur.th.pc = s.cur.th.pc + 4 ∧ SameMem s u))) ∧
  (∀ (s : State) (t d k dir : Nat) (w : Word) (l : List (Nat × Option Word)) (P Q : Furrow), (s.tile t).port = some P → d ≠ t →
    P.outq = (k, some w) :: l → P.dn = some dir → P.dnGone = false → neighbour t dir = some d → (s.tile d).port = some Q →
    Q.up = some ((dir + 2) % 4) → Q.tag = P.tag → Q.inq.length < 8 →
    ∃ u : State, exec (.furrowWordTransfer t) s = .next u ∧ Aside s u ∧ (u.tile t).port = some { P with outq := l } ∧
      (u.tile d).port = some { Q with inq := Q.inq ++ [w] })

/-! ### The matrix engine and the copy channels -/

namespace Sys2Proof.Machine

/-- An operand's bytes [p, p + last] lie in program scratchpad, or with translation off in the current rank's DRAM; key is where the first
one stands (R234 step 4). -/
def OperandAt (s : State) (t : Nat) (kind : AKind) (p : Word) (last key : Nat) : Prop :=
  (ptrSpace p = 1 ∧ 0x10000 ≤ ptrAddr p ∧ ptrAddr p + last ≤ 0x7FFFFF ∧ key = spadKey t (ptrAddr p)) ∨
  (ptrSpace p = 0 ∧ s.xlatMode false = none ∧ s.kernelOf = none ∧
    ∃ (off : Nat) (xp : Bool), s.xlat kind p = .ok (.dram (s.rankOf t) off false xp) ∧ off + last < 2 ^ 33 ∧ key = dramKey t off)

/-- A parameter block with operands whose formats are not block-scaled, which the machine takes (R231, R232, R234). -/
def MxTaken (s : State) (t : Nat) (b : List Word) (ownB : Bool) (ka kb kd : Nat) : Prop :=
  mxLegal b ownB = true ∧ mxScaled (mxFmtA b) = false ∧ mxScaled (mxFmtB b) = false ∧
  OperandAt s t akLoad (mxWord b 0) (mxLast (mxFmtA b) (mxLastA b)) ka ∧
  (if ownB then OperandAt s t akLoad (mxWord b 1) (mxLast (mxFmtB b) (mxLastB b)) kb else kb = 0) ∧
  OperandAt s t akStore (mxWord b 2) (mxLast (mxFmtD b) (mxLastD b)) kd

/-- A queued operation with nothing done yet. -/
def MxQueued (x : MxOp) (T : Tile) (g : Word) (b : List Word) (ka kb kd : Nat) (gang : Option (Nat × Nat)) : Prop :=
  x.seq = T.mxSeq ∧ x.who.gtid = g ∧ x.blk = b ∧ x.ka = ka ∧ x.kb = kb ∧ x.kd = kd ∧ x.gang = gang ∧ x.since = T.cycles ∧
  x.status = 0 ∧ x.ready = false ∧ x.block = 0 ∧ x.kstep = 0 ∧ x.done = 0 ∧ x.outs = []

end Sys2Proof.Machine

/-- R230 to R238: MXOP and MXG queue an operation of a legal block with its ticket in rd, end it at once when its win is poison or
malformed, trap on a block that is not legal, wait while the queue is full; MXG without a gang traps with cause 50. MXSTAT marks
rd empty until its value is due, MXCANCEL ends a queued operation and stops a running one. MXOP and MXG leave bounce, run and the pin
state as they are. No byte of memory and no other register changes. The model's own choices here are those of log 45, 46 and 50. -/
def Obligations.MatrixInstructions : Prop :=
  ∀ (s : State) (t : Nat), s.focus = .tile t →
    let T := s.tile t
    (∀ (rd r1 : XReg), CanIssue (.mxop rd r1) s →
      let p := effPtr (s.cur.x r1) 0
      let b := s.rdWords (spadKey t (ptrAddr p)) 8
      (8 ≤ T.mxQueue.length → exec (.mxop rd r1) s = .next (s.modCur fun c => { c with st := .ready })) ∧
      (T.mxQueue.length < 8 → ptrSpace p ≠ 1 →
        exec (.mxop rd r1) s = .next (s.trap (if ptrAddr p % 64 = 0 then 5 else 4) p)) ∧
      (T.mxQueue.length < 8 → SpadOk p 64 s → mxLegal b true = false →
        exec (.mxop rd r1) s = .next (s.trap 2 ((Instr.mxop rd r1).word.zeroExtend 64))) ∧
      (∀ ka kb kd, T.mxQueue.length < 8 → SpadOk p 64 s → MxTaken s t b true ka kb kd →
        let w := mxWord b 3
        let ticket : Word := BitVec.ofNat 64 (s.rankOf t * 2 ^ 16 + T.mxSeq)
        (witKind w ≠ 3 → witWf s.grade w = true → ∃ (u : State) (x : MxOp), exec (.mxop rd r1) s = .next u ∧ Put s u rd ticket ∧
          QuietCounts s u ∧
          (u.tile t).mxQueue = T.mxQueue ++ [x] ∧ (u.tile t).mxSeq = (T.mxSeq + 1) % 2 ^ 16 ∧
          MxQueued x T s.cur.th.gtid b ka kb kd none) ∧
        ((witKind w = 3 ∨ witWf s.grade w = false) → (∀ y ∈ T.mxQueue, y.seq ≠ T.mxSeq) →
          ∃ (u : State) (x : MxOp), exec (.mxop rd r1) s = .next u ∧ Put s u rd ticket ∧ QuietCounts s u ∧ (u.tile t).mxQueue = T.mxQueue ∧
            (u.tile t).mxDone.head? = some x ∧ x.seq = T.mxSeq ∧ x.status = 6))) ∧
    (∀ (rd r1 : XReg), CanIssue (.mxg rd r1) s →
      let p := effPtr (s.cur.x r1) 0
      let b := s.rdWords (spadKey t (ptrAddr p)) 8
      (T.gang = none → exec (.mxg rd r1) s = .next (s.trap 50 ((Instr.mxg rd r1).word.zeroExtend 64))) ∧
      (∀ g ka kb kd, T.gang = some g → g.lost = none → tget g.ended g.next = none → T.mxQueue.length < 8 → SpadOk p 64 s →
        MxTaken s t b (g.pos == 0) ka kb kd → witKind (mxWord b 3) ≠ 3 → witWf s.grade (mxWord b 3) = true →
        ∃ (u : State) (x : MxOp), exec (.mxg rd r1) s = .next u ∧ Put s u rd (BitVec.ofNat 64 (s.rankOf t * 2 ^ 16 + T.mxSeq)) ∧ QuietCounts s u ∧
          (u.tile t).mxQueue = T.mxQueue ++ [x] ∧ MxQueued x T s.cur.th.gtid b ka kb kd (some (g.id, g.next)) ∧
          (u.tile t).gang = some { g with next := g.next + 1 })) ∧
    (∀ (rd r1 : XReg), CanIssue (.mxstat rd r1) s →
      let sel := fld (s.cur.x r1) 34 32
      ∃ (u : State) (p : Producer), exec (.mxstat rd r1) s = .next u ∧ Put s u 0 0 ∧ u.cur.pend = s.cur.pend ++ [p] ∧
        p.dest = (if rd = 0 then .none else .x rd) ∧
        p.kind = .status (if sel = 0 ∨ sel = 2 then none else some (T.cycles + 8)) (fld (s.cur.x r1) 27 0) sel) ∧
    (∀ r1 : XReg, CanIssue (.mxcancel r1) s →
      let n := fld (s.cur.x r1) 27 0
      (n / 2 ^ 16 ≠ s.rankOf t → ∃ u : State, exec (.mxcancel r1) s = .next u ∧ WentTo s u (s.cur.th.pc + 4)) ∧
      (∀ x l, n / 2 ^ 16 = s.rankOf t → T.mxQueue = x :: l → x.seq = n % 2 ^ 16 → x.gang = none → (∀ y ∈ l, y.seq ≠ x.seq) →
        ∃ u : State, exec (.mxcancel r1) s = .next u ∧ Put s u 0 0 ∧ (u.tile t).mxQueue = l ∧
          (u.tile t).mxDone.head? = some { x with status := 5 }) ∧
      (∀ x, n / 2 ^ 16 = s.rankOf t → T.mxQueue = [] → T.mxRun = some x → T.mxHeld = none → x.seq = n % 2 ^ 16 → x.gang = none →
        x.stop = none → ∃ u : State, exec (.mxcancel r1) s = .next u ∧ Put s u 0 0 ∧
          (u.tile t).mxRun = some { x with stop := some (5, 0, 0, T.cycles) }))

namespace Sys2Proof.Machine

/-- The signed value of a byte of memory. -/
def byteAt (s : State) (k : Nat) : Int := (s.mem.get k).toInt

end Sys2Proof.Machine

/-- R145, R228, R231, R236, R237, R239, R240, R242 to R245, R247: a queued operation's win found satisfied makes it eligible, poison
ends it, and a pair witness that lies elsewhere is probed for; a free engine takes the eligible one of the highest effective priority, the oldest among equals; a gang operation starts
on every member at once; a k-step of an INT8 product of one row and one column adds the products modulo 2^32; a stop asked for
takes effect there; a computed block is written to D and counts once its output has performed; an operation with every block written ends DONE with its conditions counted;
MXSTAT's value is the status word of R237. The model's own choices here are those of log 47, 48 and 51. -/
def Obligations.MatrixEvents : Prop :=
  (∀ (s : State) (t : Nat) (x : MxOp) (l : List MxOp), (s.tile t).mxQueue = x :: l → x.ready = false → (∀ y ∈ l, y.seq ≠ x.seq) →
    (s.checkAt (.tile t) (mxWord x.blk 3) = .satisfied →
      ∃ u : State, exec (.mxeWinSatisfied t 0) s = .next u ∧ Aside s u ∧ (u.tile t).mxQueue = { x with ready := true } :: l) ∧
    (s.checkAt (.tile t) (mxWord x.blk 3) = .poison → x.gang = none →
      ∃ u : State, exec (.mxeWinSatisfied t 0) s = .next u ∧ Aside s u ∧ (u.tile t).mxQueue = l ∧
        (u.tile t).mxDone.head? = some { x with status := 6 }) ∧
    (∀ d, s.checkAt (.tile t) (mxWord x.blk 3) = .probe → s.mapOf t (witDst (mxWord x.blk 3)) = some d →
      ∃ (u : State) (m : Msg) (id : Nat), exec (.mxeWinSatisfied t 0) s = .next u ∧ Aside s u ∧ (u.tile t).mxQueue = x :: l ∧
        u.net = s.net ++ [m] ∧ m.dst = .tile d ∧ m.rank = some (witDst (mxWord x.blk 3)) ∧
        m.body = .probe ⟨.tile t, 16, id⟩ (.wit (mxWord x.blk 3)) true ∧
        u.asks = s.asks ++ [⟨id, .tile t, mxWord x.blk 3, none⟩])) ∧
  (∀ (s : State) (t : Nat) (x y : MxOp), (s.tile t).mxRun = none → (s.tile t).mxHeld = none → (s.tile t).mxQueue = [x, y] →
    x.ready = true → y.ready = true → x.seq ≠ y.seq → x.gang = none → y.gang = none →
    let now := (s.tile t).cycles
    let prio (z : MxOp) : Nat := min 3 (mxPrio z.blk + (now - z.since) / 4096)
    let run (z : MxOp) : MxOp :=
      { z with prio := prio z, overtaker := false, status := 1, due := now + (if mxGroup z.blk ≤ 16 then 64 else 32) }
    ∃ u : State, exec (.mxeSelect t) s = .next u ∧ Aside s u ∧
      (if prio x < prio y then (u.tile t).mxRun = some (run y) ∧ (u.tile t).mxQueue = [x]
       else (u.tile t).mxRun = some (run x) ∧ (u.tile t).mxQueue = [y])) ∧
  (∀ (s : State) (t id j : Nat) (g : GangOf) (ms : List Nat) (y : Nat → MxOp), (s.tile t).gang = some g → g.id = id → t ∈ ms →
    (List.range g.size).filterMap (s.gangMember id) = ms → ms.length = g.size → ms.Nodup →
    (∀ d ∈ ms, (s.tile d).mxRun = some (y d) ∧ (y d).gang = some (id, j) ∧ (y d).started = false ∧
      mxWireKey (y d).blk = mxWireKey (y t).blk) →
    ∃ u : State, exec (.gangOpStart t) s = .next u ∧ Aside s u ∧ ∀ d ∈ ms, (u.tile d).mxRun = some { y d with
      status := 1, started := true, due := (s.tile d).cycles + (if mxGroup (y d).blk ≤ 16 then 64 else 32) }) ∧
  (∀ (s : State) (t : Nat) (x : MxOp), (s.tile t).mxRun = some x → x.gang = none → x.status = 1 → x.outs = [] → x.left = [] →
    (s.tile t).mxQueue = [] → x.block < mxBlocks x.blk → x.due ≤ (s.tile t).cycles →
    (∀ r, x.stop = some r → ∃ u : State, exec (.mxeKstepBoundary t) s = .next u ∧ Aside s u ∧
      (u.tile t).mxRun = some { x with status := r.1, cause := r.2.1, pos := r.2.2.1, acc := [], kstep := 0 }) ∧
    (let b := x.blk
     x.stop = none → mxM b = 1 → mxN b = 1 → mxFmtA b = 7 → mxFmtB b = 7 → mxFmtD b = 0 → mxAcc b = false → mxTa b = false →
      mxTb b = false → mxK b ≤ 64 → 0 < mxK b → x.block = 0 → x.kstep = 0 → 2 ^ 43 ≤ x.ka → 2 ^ 43 ≤ x.kb →
      (s.tile t).badLines = [] →
      let sum : Int := ((List.range (mxK b)).map fun k => byteAt s (x.ka + k) * byteAt s (x.kb + k * mxLdb b)).sum
      ∃ u : State, exec (.mxeKstepBoundary t) s = .next u ∧ Aside s u ∧
        (u.tile t).mxRun = some { x with acc := [], kstep := 0, block := 1, due := x.due + 32,
                                         outs := [(0, [((sum % (2 ^ 32 : Int)).toNat, 0#5)])] })) ∧
  (∀ (s : State) (t off v : Nat) (f : BitVec 5) (x : MxOp) (l : Tbl (List (Nat × BitVec 5))), (s.tile t).mxRun = some x →
    x.outs = (0, [(v, f)]) :: l → mxM x.blk = 1 → mxN x.blk = 1 → mxBslot x.blk = 0 → x.kd = spadKey t off → off < 2 ^ 23 →
    x.writing = none → (s.tile t).mxStoring x.seq = false →
    let w := mxWidth (mxFmtD x.blk) / 8
    0 < w → w ≤ 8 → off % 8 = 0 →
    ∃ (u : State) (y : MxOp), exec (.mxeBlockWritten t) s = .next u ∧ OnlyBytes s u x.kd w ∧ u.mem.read x.kd w = leBytes w v ∧
      (u.tile t).mxRun = some y ∧ y.outs = l ∧ y.writing = none ∧ y.done = x.done + 1 ∧ y.nv = x.nv + (if f.getLsbD 4 then 1 else 0) ∧
      y.of_ = x.of_ + (if f.getLsbD 2 then 1 else 0) ∧ y.uf = x.uf + (if f.getLsbD 1 then 1 else 0) ∧
      y.nx = x.nx + (if f.getLsbD 0 then 1 else 0)) ∧
  (∀ (s : State) (t : Nat) (x : MxOp) (out : List (Nat × BitVec 5)), (s.tile t).mxRun = some x → x.writing = some out → x.left = [] →
    (s.tile t).mxStoring x.seq = false →
    ∃ (u : State) (y : MxOp), exec (.mxeBlockWritten t) s = .next u ∧ Aside s u ∧ (u.tile t).mxRun = some y ∧ y.writing = none ∧
      y.done = x.done + 1 ∧ y.outs = x.outs) ∧
  (∀ (s : State) (t : Nat) (x : MxOp), (s.tile t).mxRun = some x → x.outs = [] → x.writing = none → (s.tile t).mxPending x.seq = false →
    (x.status = 1 → x.block = mxBlocks x.blk →
      ∃ u : State, exec (.mxeOpEnd t) s = .next u ∧ Aside s u ∧ (u.tile t).mxRun = none ∧
        (u.tile t).mxDone.head? = some { x with status := 3 } ∧
        (u.tile t).mxCount.1 = ((s.tile t).mxCount.1 + x.nv) % 2 ^ 32 ∧
        (u.tile t).mxCount.2.2.2 = ((s.tile t).mxCount.2.2.2 + x.nx) % 2 ^ 32) ∧
    (3 ≤ x.status → ∃ u : State, exec (.mxeOpEnd t) s = .next u ∧ Aside s u ∧ (u.tile t).mxRun = none ∧
      (u.tile t).mxDone.head? = some x ∧ (u.tile t).mxCount = (s.tile t).mxCount)) ∧
  (∀ (s : State) (t c id ticket sel acc : Nat) (rd : XReg) (due : Option Nat) (cn : Counts) (old pc : Word) (x : MxOp) (l : List MxOp), c < 16 →
    rd ≠ 0 → (s.ctx (.tile t) c).pend = [⟨id, .x rd, cn, old, pc, .status due ticket sel, acc⟩] →
    (∀ n, due = some n → n ≤ (s.tile t).cycles) → ticket / 2 ^ 16 = s.rankOf t → x.seq = ticket % 2 ^ 16 →
    (s.tile t).mxQueue = [] → (s.tile t).mxRun = none → (s.tile t).mxHeld = none → (s.tile t).mxDone = x :: l →
    3 ≤ x.status → x.status ≤ 7 → sel < 5 →
    let ok := x.status = 3
    let word : Nat := mxTag x.blk * 2 ^ 48 + x.done % 2 ^ 16 * 2 ^ 32 + (if ok ∧ x.nv ≠ 0 then 2 ^ 31 else 0) +
      (if ok ∧ x.of_ ≠ 0 then 2 ^ 30 else 0) + (if ok ∧ x.uf ≠ 0 then 2 ^ 29 else 0) + (if ok ∧ x.nx ≠ 0 then 2 ^ 28 else 0) +
      (if x.bshort then 2 ^ 27 else 0) + (if x.blost then 2 ^ 26 else 0) +
      (if x.status = 4 then x.cause * 2 ^ 12 + x.pos * 2 ^ 8 else 0) + x.status
    let n := (s.tile t).mxCount
    ∃ u : State, exec (.mxstatResult t c) s = .next u ∧ SameMem s u ∧ (u.ctx (.tile t) c).pend = [] ∧
      (∀ r, (u.ctx (.tile t) c).x r = if r = rd then (match sel with
        | 0 | 1 => BitVec.ofNat 64 word
        | 2 => if x.status = 3 then x.out else 0
        | 3 => BitVec.ofNat 64 (n.1 * 2 ^ 32 + n.2.1)
        | _ => BitVec.ofNat 64 (n.2.2.1 * 2 ^ 32 + n.2.2.2)) else (s.ctx (.tile t) c).x r))

namespace Sys2Proof.Machine

/-- A transfer's request in a0, a1, a2 and its parameter block (R250, R251). -/
def Requests (x : Xfer) (a0 a1 a2 : Word) (b : List Word) : Prop :=
  let w (i : Nat) : Word := b.getD i 0
  x.src = a0 ∧ x.dst = a1 ∧ x.len = fld a2 31 0 ∧ x.sow = a2.getLsbD 49 ∧ x.irq = a2.getLsbD 48 ∧ x.xid = fld a2 47 32 ∧
  x.handler = w 1 ∧ x.bslot = w 2 ∧ x.blog = fld (w 3) 41 36 ∧ x.stride = fld (w 3) 35 24 ∧ x.count = fld (w 3) 23 12 ∧
  x.first = fld (w 3) 11 0 ∧ x.mirror = fld (w 4) 22 0 ∧ x.status = 0 ∧ x.wptr = 0

end Sys2Proof.Machine

/-- R250 to R258: CPYQ and CPYQ.NB put a legal request into the FIFO with its ticket in rd and its win joined with the context's
WSELF, trap by their first failing check, and with a full FIFO wait, or give −1; CWPTR reads a transfer's progress and status,
CWAIT waits for its end. A free channel takes the FIFO's head; a transfer whose win is satisfied writes, here from one place of
the tile's scratchpad to another, and ends DONE with its last byte; its mirror word, if it has one, is set to 0 before; a poison win
ends it with status WITNESS. CPYQ and CPYQ.NB leave bounce, run and the pin state as they are. The model's own
choices here are those of log 51, 52 and 53. -/
def Obligations.CopyChannels : Prop :=
  (∀ (s : State) (t : Nat), s.focus = .tile t →
    let T := s.tile t
    (∀ (i : Instr) (rd : XReg), (i = .cpyq rd ∨ i = .cpyqNb rd) → CanIssue i s →
      let a0 := s.cur.x 10#5
      let a1 := s.cur.x 11#5
      let a2 := s.cur.x 12#5
      let p := s.cur.x 13#5
      (T.copyQueue.length < 16 → p ≠ 0 → ptrSpace p ≠ 1 →
        exec i s = .next (s.trap (if ptrAddr p % 64 = 0 then 5 else 4) p)) ∧
      (16 ≤ T.copyQueue.length → (i = .cpyq rd → exec i s = .next (s.modCur fun c => { c with st := .ready })) ∧
        (i = .cpyqNb rd → ∃ u : State, exec i s = .next u ∧ Put s u rd (-1) ∧ QuietCounts s u)) ∧
      (∀ b, T.copyQueue.length < 16 → ((p = 0 ∧ b = []) ∨ (SpadOk p 64 s ∧ b = s.rdWords (spadKey t (ptrAddr p)) 8)) →
        let x := Xfer.ofRequest T.copySeq s.engWho a0 a1 a2 b
        (xferLegal x a2 p b = false → exec i s = .next (s.trap 2 (i.word.zeroExtend 64))) ∧
        (xferLegal x a2 p b = true → s.xferSrcOk x = false → exec i s = .next (s.trap 5 a0)) ∧
        (xferLegal x a2 p b = true → s.xferSrcOk x = true → s.xferDstOk x = false → exec i s = .next (s.trap 7 a1)) ∧
        (∀ cause, xferLegal x a2 p b = true → s.xferSrcOk x = true → s.xferDstOk x = true → x.slotFault = some cause →
          exec i s = .next (s.trap cause x.bslot)) ∧
        (xferLegal x a2 p b = true → s.xferSrcOk x = true → s.xferDstOk x = true → x.slotFault = none →
          ∃ (u : State) (y : Xfer), exec i s = .next u ∧ Put s u rd (BitVec.ofNat 64 (s.rankOf t * 2 ^ 16 + T.copySeq)) ∧ QuietCounts s u ∧
            (u.tile t).copyQueue = T.copyQueue ++ [y] ∧ Requests y a0 a1 a2 b ∧ y.seq = T.copySeq ∧
            (witWf s.grade (b.getD 0 0) = true → y.win = joinOf s.tick (b.getD 0 0) (selfWit s s.cur))))) ∧
    (∀ (rd r1 : XReg) (x : Xfer) (l : List Xfer), CanIssue (.cwptr rd r1) s →
      let v := s.cur.x r1
      fld v 27 0 / 2 ^ 16 = s.rankOf t → T.copyQueue = [] → T.copyRun = x :: l → x.seq = fld v 27 0 % 2 ^ 16 →
      ∃ u : State, exec (.cwptr rd r1) s = .next u ∧ WroteX s u rd (match fld v 34 32 with
        | 0 => BitVec.ofNat 64 x.wptr
        | 1 => BitVec.ofNat 64 (x.xid * 2 ^ 48 + x.cause * 2 ^ 44 + (if x.bshort then 2 ^ 15 else 0) +
            (if x.blost then 2 ^ 14 else 0) + x.status)
        | 2 => if x.status = 2 then x.out else 0
        | _ => -1) (s.cur.th.pc + 4)) ∧
    (∀ r1 : XReg, CanIssue (.cwait r1) s → s.cur.stage = .none →
      let v := s.cur.x r1
      (fld v 27 0 / 2 ^ 16 ≠ s.rankOf t → ∃ u : State, exec (.cwait r1) s = .next u ∧ WentTo s u (s.cur.th.pc + 4)) ∧
      (∀ x l, fld v 27 0 / 2 ^ 16 = s.rankOf t → T.copyQueue = [] → T.copyRun = x :: l → x.seq = fld v 27 0 % 2 ^ 16 →
        x.status < 2 → exec (.cwait r1) s = .next (s.modCur fun c => { c with st := .parkedWit, wait := .transfer x.seq })) ∧
      (∀ x l, fld v 27 0 / 2 ^ 16 = s.rankOf t → T.copyQueue = [] → T.copyRun = [] → T.copyDone = x :: l →
        x.seq = fld v 27 0 % 2 ^ 16 → 2 ≤ x.status → (v.getLsbD 32 = false ∨ x.status ≠ 2 ∨ s.checkCur x.out = .satisfied) →
        ∃ u : State, exec (.cwait r1) s = .next u ∧ WentTo s u (s.cur.th.pc + 4)))) ∧
  (∀ (s : State) (t : Nat) (x : Xfer) (l : List Xfer), (s.tile t).copyQueue = x :: l → (s.tile t).copyRun.length < 4 →
    ∃ u : State, exec (.channelStart t) s = .next u ∧ Aside s u ∧ (u.tile t).copyQueue = l ∧
      (u.tile t).copyRun = (s.tile t).copyRun ++ [{ x with status := 1 }]) ∧
  (∀ (s : State) (t : Nat) (x : Xfer), (s.tile t).copyRun = [x] → x.ready = false →
    (witWf s.grade x.win = true → s.checkAt (.tile t) x.win = .satisfied →
      ∃ u : State, exec (.channelWinSatisfied t 0) s = .next u ∧ Aside s u ∧ (u.tile t).copyRun = [{ x with ready := true }]) ∧
    ((witWf s.grade x.win = false ∨ s.checkAt (.tile t) x.win = .poison) →
      ∃ u : State, exec (.channelWinSatisfied t 0) s = .next u ∧ Aside s u ∧ (u.tile t).copyRun = [] ∧
        (u.tile t).copyDone.head? = some { x with status := 3, cause := 0 })) ∧
  (∀ (s : State) (t : Nat) (x : Xfer), (s.tile t).copyRun = [x] → x.ready = true → x.due ≤ (s.tile t).cycles →
    x.wptr = 0 → 0 < x.len → x.len ≤ 64 → x.sow = false → x.count = 0 → x.mirror = 0 → x.bslot = 0 →
    ptrSpace x.dst = 1 → (s.tile t).badLines = [] →
    let a := ptrAddr x.src
    let d := ptrAddr x.dst
    s.engXlat t x.who akLoad (effPtr x.src 0) = (.ok (.spad a), s) → a % 65536 + x.len ≤ 65536 → d % 65536 + x.len ≤ 65536 →
    d + x.len ≤ 2 ^ 23 →
    ∃ (u : State) (y : Xfer), exec (.channelWrite t 0 []) s = .next u ∧ OnlyBytes s u (spadKey t d) x.len ∧
      u.mem.read (spadKey t d) x.len = s.mem.read (spadKey t a) x.len ∧ (u.tile t).copyRun = [] ∧
      (u.tile t).copyDone.head? = some y ∧ y.seq = x.seq ∧ y.status = 2 ∧ y.wptr = x.len) ∧
  (∀ (s : State) (t : Nat) (x : Xfer), (s.tile t).copyRun = [x] → x.ready = true → x.due ≤ (s.tile t).cycles → x.wptr = 0 → 0 < x.len →
    x.len ≤ 64 → x.sow = false → x.count = 0 → x.mirror ≠ 0 → x.mirror + 8 ≤ 2 ^ 23 → x.dealt = [] → ptrSpace x.dst = 1 →
    (s.tile t).badLines = [] →
    let a := ptrAddr x.src
    s.engXlat t x.who akLoad (effPtr x.src 0) = (.ok (.spad a), s) → a % 65536 + x.len ≤ 65536 →
    ∃ u : State, exec (.channelWrite t 0 []) s = .next u ∧ OnlyBytes s u (spadKey t x.mirror) 8 ∧
      u.mem.word (spadKey t x.mirror) = 0 ∧ (u.tile t).copyRun = [{ x with dealt := [s.rankOf t] }])

/-! ### The kernel window, queues and capabilities -/

namespace Sys2Proof.Machine

/-- The instructions that read a parameter block: the pointer's register and the block's bytes (R299, R311, R364, R367). -/
def paramForm (i : Instr) : Option (XReg × Nat) :=
  match i with
  | .kappend _ r => if r = 0 then none else some (r, 64)
  | .qwake r _ => some (r, 32)
  | .lpost _ r _ => some (r, 64)
  | .larm _ r _ => some (r, 64)
  | .lcnt _ r => some (r, 64)
  | _ => none

/-- The context has asked for rd: rd is marked empty, one message has left for bridge br with the body that the request's place and
number give. -/
def Asked (s u : State) (rd : XReg) (kind : ProdKind) (br : Nat) (body : Who → Body) : Prop :=
  Put s u 0 0 ∧ QuietCounts s u ∧ ∃ (q : Producer) (m : Msg), u.cur.pend = s.cur.pend ++ [q] ∧ q.kind = kind ∧ q.dest = (if rd = 0 then .none else .x rd) ∧
    u.net = s.net ++ [m] ∧ m.dst = .bridge br ∧ m.body = body ⟨s.focus, s.curSlot, q.id⟩

end Sys2Proof.Machine

/-- R299, R300, R311, R364, R367: KAPPEND sends a record with its input witness joined with the context's WSELF, a report as it
stands, or a restart to the partition's window; QWAKE, its stores settled, sends the capability to the queue's bridge; LPOST, LARM
and LCNT send their record, descriptor or handle to the bridge and mark rd empty. None changes run, bounce or the pin state. A
pointer that is not into the scratchpad traps, a malformed input witness of a record traps with cause 25. In a contained context
KAPPEND traps with cause 27 and its word, QWAKE, LPOST and LARM, their pointers good, with the pointer. The model's own choices here
are those of log 84. -/
def Obligations.KernelQueueAndLinkInstructions : Prop :=
  (∀ (s : State) (t : Nat), s.focus = .tile t → s.kernelOf ≠ none →
    let at_ (r : XReg) : Word := effPtr (s.cur.x r) 0
    (∀ rd r1, CanIssue (.kappend rd r1) s →
      exec (.kappend rd r1) s = .next (s.trap 27 ((Instr.kappend rd r1).word.zeroExtend 64))) ∧
    (∀ r1 r2, CanIssue (.qwake r1 r2) s → SpadOk (at_ r1) 32 s → exec (.qwake r1 r2) s = .next (s.trap 27 (at_ r1))) ∧
    (∀ rd r1 r2, CanIssue (.lpost rd r1 r2) s → SpadOk (at_ r1) 64 s → SpadOk (at_ r2) 64 s →
      exec (.lpost rd r1 r2) s = .next (s.trap 27 (at_ r1))) ∧
    (∀ rd r1 r2, CanIssue (.larm rd r1 r2) s → SpadOk (at_ r1) 64 s →
      exec (.larm rd r1 r2) s = .next (s.trap 27 (at_ r1)))) ∧
  ∀ (s : State) (t : Nat), s.focus = .tile t → s.kernelOf = none →
    let words (n : Nat) (p : Word) : List Word := s.rdWords (spadKey t (ptrAddr p)) n
    let at_ (r : XReg) : Word := effPtr (s.cur.x r) 0
    let light := s.curSlot ≠ 0
    (∀ i r n, paramForm i = some (r, n) → CanIssue i s → ptrSpace (at_ r) ≠ 1 →
      exec i s = .next (s.trap (if ptrAddr (at_ r) % n = 0 then 5 else 4) (at_ r))) ∧
    (∀ (rd r1 : XReg), CanIssue (.kappend rd r1) s →
      let b := words 8 (at_ r1)
      let w := b.getD 1 0
      (s.partOf (s.rankOf t) = none → r1 = 0 →
        ∃ u : State, exec (.kappend rd r1) s = .next u ∧ Put s u rd 0xC000000000000000#64 ∧ QuietCounts s u) ∧
      (∀ p, s.partOf (s.rankOf t) = some p →
        (r1 = 0 → ∃ u : State, exec (.kappend rd r1) s = .next u ∧
          Asked s u rd .append (p % 4) fun who => .kappend who p (s.rankOf t) light []) ∧
        (r1 ≠ 0 → SpadOk (at_ r1) 64 s → (∀ q ∈ s.cur.pend, q.kind ≠ .append) →
          (fld (b.getD 0 0) 63 56 = 0x40 → ∃ u : State, exec (.kappend rd r1) s = .next u ∧
            Asked s u rd .append (p % 4) fun who => .kappend who p (s.rankOf t) light b) ∧
          (fld (b.getD 0 0) 63 56 ≠ 0x40 → witWf s.grade w = true → ∃ u : State, exec (.kappend rd r1) s = .next u ∧
            Asked s u rd .append (p % 4) fun who =>
              .kappend who p (s.rankOf t) light (b.set 1 (joinOf s.tick w (selfWit s s.cur)))) ∧
          (fld (b.getD 0 0) 63 56 ≠ 0x40 → witWf s.grade w = false → exec (.kappend rd r1) s = .next (s.trap 25 w))))) ∧
    (∀ (r1 r2 : XReg), CanIssue (.qwake r1 r2) s → SpadOk (at_ r1) 32 s → NoWait 3#2 s →
      ∃ (u : State) (m : Msg), exec (.qwake r1 r2) s = .next u ∧ Put s u 0 0 ∧ QuietCounts s u ∧ u.net = s.net ++ [m] ∧
        m.dst = .bridge (fld (s.cur.x r2) 43 32 / 1024) ∧
        m.body = .qwake (s.partOf (s.rankOf t)) (words 4 (at_ r1)) (s.cur.x r2)) ∧
    (∀ (rd r1 r2 : XReg), CanIssue (.lpost rd r1 r2) s → SpadOk (at_ r1) 64 s → SpadOk (at_ r2) 64 s →
      let w := words 8 (at_ r1)
      let h := words 8 (at_ r2)
      ∃ u : State, exec (.lpost rd r1 r2) s = .next u ∧ Asked s u rd .answer (fld (h.getD 4 0) 11 0 / 1024) fun who =>
        .linkReq who 0 (s.partOf (s.rankOf t)) (h.take 5)
          (if fld (w.getD 0 0) 63 60 = 2 ∨ witWf s.grade (w.getD 3 0) = false then w
           else w.set 3 (joinOf s.tick (w.getD 3 0) (selfWit s s.cur))) 0) ∧
    (∀ (rd r1 r2 : XReg), CanIssue (.larm rd r1 r2) s → SpadOk (at_ r1) 64 s →
      ∃ u : State, exec (.larm rd r1 r2) s = .next u ∧ Asked s u rd .answer 0 fun who =>
        .linkReq who 1 (s.partOf (s.rankOf t)) [] (if (s.cur.x r2).getLsbD 10 then [] else words 8 (at_ r1)) (s.cur.x r2)) ∧
    (∀ (rd r1 : XReg), CanIssue (.lcnt rd r1) s → SpadOk (at_ r1) 64 s →
      let h := words 8 (at_ r1)
      ∃ u : State, exec (.lcnt rd r1) s = .next u ∧ Asked s u rd .answer (fld (h.getD 4 0) 11 0 / 1024) fun who =>
        .linkReq who 2 (s.partOf (s.rankOf t)) (h.take 5) [] 0)

namespace Sys2Proof.Machine

/-- Register rd of mill core k holds capability v with tag g (x0 stays); no other register, no flag, no privileged register, no other
agent and no byte of memory has changed. -/
structure PutCap (s t : State) (k : Nat) (rd : XReg) (v : Word128) (g : Bool) : Prop where
  cap : ∀ r, (t.mill k).cap r = if r = rd ∧ r ≠ 0 then (v, g) else (s.mill k).cap r
  f : ∀ r, t.cur.f r = s.cur.f r
  fcsr : t.cur.th.fcsr = s.cur.th.fcsr
  pc : t.cur.th.pc = s.cur.th.pc + 4
  priv : ∀ a, t.priv a = s.priv a
  others : ∀ a c, a ≠ s.focus → t.ctx a c = s.ctx a c
  mem : SameMem s t

/-- The fields of a capability (R313). -/
def CapIs (v : Word128) (perm lock len base cursor : Nat) : Prop :=
  capPerm v = perm ∧ capLock v = lock ∧ capLen v = len ∧ capBase v = base ∧ capCursor v = cursor

end Sys2Proof.Machine

/-- R312 to R314: on a mill core HLD and HST move 16 bytes with their tag between a register and bridge SRAM, HLD from a rank's
memory without a tag; HNARROW, HDROP, HSEEK, HLOCK and HOPEN change bounds, permissions, cursor and lock of a tagged capability,
HDROP with x0 moves it; HINFO reads a field; HMINT makes one over a range. The first check that fails traps with cause 52 and the
check and register. The model's own choices here are those of log 11, 17 and 61. -/
def Obligations.CapabilityInstructions : Prop :=
  ∀ (s : State) (k : Nat) (r1 : XReg), s.focus = .mill k →
    let c := ((s.mill k).cap r1).1
    let tag := ((s.mill k).cap r1).2
    let a := capCursor c
    let fails (i : Instr) (n : Nat) : Prop :=
      let T := s.trap 52 (BitVec.ofNat 64 (n * 256 + r1.toNat))
      exec i s = .next { T with mills := tput T.mills k { T.mill k with blame := some c } }
    (∀ rd : XReg, CanIssue (.hld rd r1) s →
      (∀ n, capCheck c tag [0, 2] a 16 = some n → fails (.hld rd r1) n) ∧
      (capCheck c tag [0, 2] a 16 = none → 2 ^ 45 ≤ a → ∃ u : State, exec (.hld rd r1) s = .next u ∧
        PutCap s u k rd (BitVec.ofNat 128 (leNat (s.mem.read (sramKey (a - 2 ^ 45)) 16)))
          (s.sramTags.contains ((a - 2 ^ 45) / 16))) ∧
      (∀ t, capCheck c tag [0, 2] a 16 = none → a < 2 ^ 45 → s.homeOf (a / 2 ^ 33) = some t → s.awaiting t (a % 2 ^ 33) = false →
        s.cur.th.ownOver = 0 → (s.tile t).held = [] → (s.tile t).shellAlive = true → s.poison t (a % 2 ^ 33) = 0 → ∃ u : State, exec (.hld rd r1) s = .next u ∧
          PutCap s u k rd (BitVec.ofNat 128 (leNat (s.mem.read (dramKey t (a % 2 ^ 33)) 16))) false)) ∧
    (∀ r2 : XReg, CanIssue (.hst r1 r2) s →
      let v := ((s.mill k).cap r2).1
      let vt := ((s.mill k).cap r2).2
      let need := if vt then [1, 3] else [1]
      (∀ n, capCheck c tag need a 16 = some n → fails (.hst r1 r2) n) ∧
      (capCheck c tag need a 16 = none → 2 ^ 45 ≤ a →
        let key := sramKey (a - 2 ^ 45)
        ∃ u : State, exec (.hst r1 r2) s = .next u ∧ OnlyBytes s u key 16 ∧ u.mem.read key 16 = leBytes 16 v.toNat ∧
          u.cur.th.pc = s.cur.th.pc + 4 ∧ (∀ n, n ∈ u.sramTags ↔ if n = (a - 2 ^ 45) / 16 then vt = true else n ∈ s.sramTags)) ∧
      (∀ t, capCheck c tag need a 16 = none → a < 2 ^ 45 → vt = false → a / 2 ^ 33 < s.grade → s.homeOf (a / 2 ^ 33) = some t →
        ∃ (u : State) (m : Msg) (p : Posted), exec (.hst r1 r2) s = .next u ∧ Put s u 0 0 ∧ u.net = s.net ++ [m] ∧ m.dst = .tile t ∧ m.body = .posted p ∧
          p.op = .store (leBytes 16 v.toNat) ∧ p.rank = a / 2 ^ 33 ∧ p.off = a % 2 ^ 33)) ∧
    (∀ (rd r2 : XReg), CanIssue (.hnarrow rd r1 r2) s →
      let n := (s.cur.x r2).toNat
      (tag = false → fails (.hnarrow rd r1 r2) 1) ∧ (tag = true → capLock c ≠ 0 → fails (.hnarrow rd r1 r2) 2) ∧
      (tag = true → capLock c = 0 → (a % 64 ≠ 0 ∨ n % 64 ≠ 0) → fails (.hnarrow rd r1 r2) 3) ∧
      (tag = true → capLock c = 0 → a % 64 = 0 → n % 64 = 0 →
        (a < capBase c * 64 → fails (.hnarrow rd r1 r2) 4) ∧
        (capBase c * 64 ≤ a → (capBase c + capLen c) * 64 < a + n → fails (.hnarrow rd r1 r2) 5) ∧
        (capBase c * 64 ≤ a → a + n ≤ (capBase c + capLen c) * 64 →
          ∃ (u : State) (v : Word128), exec (.hnarrow rd r1 r2) s = .next u ∧ PutCap s u k rd v true ∧ CapIs v (capPerm c) 0 (n / 64) (a / 64) a))) ∧
    (∀ (rd r2 : XReg), CanIssue (.hdrop rd r1 r2) s →
      (tag = false → fails (.hdrop rd r1 r2) 1) ∧
      (tag = true → r2 = 0 → ∃ u : State, exec (.hdrop rd r1 r2) s = .next u ∧ PutCap s u k rd c true) ∧
      (tag = true → r2 ≠ 0 → capLock c ≠ 0 → fails (.hdrop rd r1 r2) 2) ∧
      (tag = true → r2 ≠ 0 → capLock c = 0 → ∃ (u : State) (v : Word128), exec (.hdrop rd r1 r2) s = .next u ∧ PutCap s u k rd v true ∧
        v.extractLsb' 0 120 = c.extractLsb' 0 120 ∧
        v.extractLsb' 120 8 = c.extractLsb' 120 8 &&& ~~~((s.cur.x r2).extractLsb' 0 8))) ∧
    (∀ (rd r2 : XReg), CanIssue (.hseek rd r1 r2) s →
      (tag = false → fails (.hseek rd r1 r2) 1) ∧ (tag = true → capLock c ≠ 0 → fails (.hseek rd r1 r2) 2) ∧
      (tag = true → capLock c = 0 → ∃ (u : State) (v : Word128), exec (.hseek rd r1 r2) s = .next u ∧ PutCap s u k rd v true ∧
        CapIs v (capPerm c) 0 (capLen c) (capBase c) ((a + (s.cur.x r2).toNat) % 2 ^ 48))) ∧
    (∀ (rd : XReg) (n : BitVec 5), n ≠ 0 → CanIssue (.hlock rd r1 n) s →
      (tag = false → fails (.hlock rd r1 n) 1) ∧ (tag = true → capLock c ≠ 0 → fails (.hlock rd r1 n) 2) ∧
      (tag = true → capLock c = 0 → ∃ (u : State) (v : Word128), exec (.hlock rd r1 n) s = .next u ∧ PutCap s u k rd v true ∧
        CapIs v (capPerm c) n.toNat (capLen c) (capBase c) a)) ∧
    (∀ (rd : XReg) (n : BitVec 5), CanIssue (.hopen rd r1 n) s →
      (tag = false → fails (.hopen rd r1 n) 1) ∧
      (tag = true → capLock c ≠ n.toNat → fails (.hopen rd r1 n) (if capLock c ≠ 0 then 2 else 3)) ∧
      (tag = true → capLock c = n.toNat → ∃ (u : State) (v : Word128), exec (.hopen rd r1 n) s = .next u ∧ PutCap s u k rd v true ∧
        CapIs v (capPerm c) 0 (capLen c) (capBase c) a)) ∧
    (∀ (rd : XReg) (n : BitVec 5), CanIssue (.hinfo rd r1 n) s →
      ∃ u : State, exec (.hinfo rd r1 n) s = .next u ∧ WroteX s u rd (match n.toNat with
        | 0 => BitVec.ofNat 64 (capBase c * 64)
        | 1 => BitVec.ofNat 64 (capLen c * 64)
        | 2 => if tag then 1 else 0
        | 3 => BitVec.ofNat 64 (capPerm c)
        | 4 => BitVec.ofNat 64 (capLock c)
        | 5 => BitVec.ofNat 64 a
        | _ => -1) (s.cur.th.pc + 4)) ∧
    (∀ (rd r2 : XReg), CanIssue (.hmint rd r1 r2) s →
      let b := (s.cur.x r1).toNat
      let n := (s.cur.x r2).toNat
      (b % 64 = 0 → n % 64 = 0 → n < 2 ^ 30 → b + n ≤ 2 ^ 46 →
        ∃ (u : State) (v : Word128), exec (.hmint rd r1 r2) s = .next u ∧ PutCap s u k rd v true ∧ CapIs v 31 0 (n / 64) (b / 64) b) ∧
      ((b % 64 ≠ 0 ∨ n % 64 ≠ 0 ∨ 2 ^ 30 ≤ n ∨ 2 ^ 46 < b + n) →
        fails (.hmint rd r1 r2) (if tag = true ∧ capLock c ≠ 0 then 2 else 3)))

namespace Sys2Proof.Machine

/-- Entry e alone stands in the window of partition p, which is not halted. -/
abbrev Alone (s : State) (p : Nat) (P : Part) (e : WEntry) : Prop :=
  tget s.parts p = some P ∧ P.win.entries = [e] ∧ P.win.halted = false

/-- The window of partition p has become W. -/
abbrev WinIs (t : State) (p : Nat) (W : Window) : Prop := ∃ P, tget t.parts p = some P ∧ P.win = W

/-- The window of partition p has become W but for its stall counts (R281; log 113). -/
abbrev WinLike (t : State) (p : Nat) (W : Window) : Prop :=
  ∃ P, tget t.parts p = some P ∧
    { P.win with full := W.full, starved := W.starved, inbox := W.inbox, stall := W.stall, left := W.left } = W

end Sys2Proof.Machine

/-- R263, R269, R277, R278, R284, R288, R291, R292, R299 to R301: an appended record enters the window's queue and is answered
with its position, a halted window answers with its fault's, a restart clears the halt; decode renames a record or faults it; a
window kind completes once its input witness is satisfied and faults with cause 7 on poison; KFENCE completes behind satisfied
witnesses; KWAIT reads until its condition holds; the oldest completed entry retires with its destinations committed; a faulted
one squashes the window, halts it and gives a fault record. Registers and memory stay. The model's own choices here are those of
log 15, 24, 25, 55, 56, 57, 58 and 59. -/
def Obligations.KernelWindow : Prop :=
  (∀ (s s' : State) (m p rank : Nat) (r : Arrived) (who : Who) (light : Bool) (b : List Word) (P : Part),
    s.arrive m = some (r, s') → r.msg.body = .kappend who p rank light b → tget s.parts p = some P →
    let W := P.win
    let answer (u : State) (st pos : Nat) : Prop :=
      ∃ a ∈ u.net, a.dst = r.msg.src ∧ a.body = .kreply who (BitVec.ofNat 64 (st * 2 ^ 62 + pos))
    (b = [] → ∃ u : State, exec (.kappendArrival m) s = .next u ∧ Aside s u ∧ WinIs u p { W with halted := false } ∧ answer u 2 W.nextPos) ∧
    (b ≠ [] → fld (b.getD 0 0) 63 56 ≠ 0x40 → W.halted = true →
      ∃ u : State, exec (.kappendArrival m) s = .next u ∧ Aside s u ∧ tget u.parts p = some P ∧ answer u 1 W.faultPos) ∧
    (b ≠ [] → fld (b.getD 0 0) 63 56 ≠ 0x40 → W.halted = false → W.queue.length < 64 →
      ∃ u : State, exec (.kappendArrival m) s = .next u ∧ Aside s u ∧ answer u 0 W.nextPos ∧
        WinLike u p { W with queue := W.queue ++ [(W.nextPos, b)], nextPos := (W.nextPos + 1) % 2 ^ 32 })) ∧
  (∀ (s s' : State) (m t c acc : Nat) (r : Arrived) (w : Who) (cn : Counts) (x old pc : Word) (rd : XReg) (l : List Producer),
    s.arrive m = some (r, s') → w.agent = .tile t → w.slot = c → c < 16 → rd ≠ 0 → r.msg.body = .kreply w x →
    (s.ctx (.tile t) c).pend = ⟨w.id, .x rd, cn, old, pc, .append, acc⟩ :: l → (∀ q ∈ l, q.dest ≠ .x rd) →
    ∃ u : State, exec (.kappendReply m) s = .next u ∧ SameMem s u ∧ (u.ctx (.tile t) c).pend = l ∧
      (∀ q, (u.ctx (.tile t) c).x q = if q = rd then x else (s.ctx (.tile t) c).x q)) ∧
  (∀ (s : State) (p pos : Nat) (b : List Word) (q : List (Nat × List Word)) (P : Part), tget s.parts p = some P →
    P.win.queue = (pos, b) :: q → P.win.halted = false → P.win.entries.length < 256 →
    let W := P.win
    (∀ cause, decodeFault W P.ranks.length b = some cause →
      ∃ (u : State) (e : WEntry), exec (.windowDecode p) s = .next u ∧ Aside s u ∧ e.pos = pos ∧ e.words = b ∧ e.st = .faulted ∧ e.cause = cause ∧
        WinLike u p { W with queue := q, entries := W.entries ++ [e], exposed := tput W.exposed pos (b.headD 0 |>.getLsbD 55) }) ∧
    (decodeFault W P.ranks.length b = none → krDstPresent b 0 = false → krDstPresent b 1 = false → b.length = 8 →
      ∃ (u : State) (e : WEntry), exec (.windowDecode p) s = .next u ∧ Aside s u ∧ e.pos = pos ∧ e.words = b ∧ e.st = .renamed ∧
        (∀ j < 4, e.src.getD j none = if krSrcPresent b j then tget W.spec (krSrc b j) else none) ∧
        WinLike u p { W with queue := q, entries := W.entries ++ [e], exposed := tput W.exposed pos (b.headD 0 |>.getLsbD 55) }) ∧
    (∀ buf w l, decodeFault W P.ranks.length b = none → fld (b.headD 0) 63 56 = 1 → tget W.free (krParam b) = some ((buf, w) :: l) →
      s.checkAt (.bridge (p % 4)) w = .satisfied → W.entries = [] →
      ∃ (u : State) (V : Window) (e : WEntry), exec (.windowDecode p) s = .next u ∧ Aside s u ∧ WinIs u p V ∧ V.entries = [e] ∧ e.dst = [some buf, none] ∧
        tget V.spec (krDst b 0) = some buf ∧ tget V.free (krParam b) = some l)) ∧
  (∀ (s : State) (p : Nat) (P : Part) (e : WEntry), Alone s p P e → krTile e.words = false → e.st = .issued →
    let done (u : State) (f : WEntry) : Prop := Aside s u ∧ WinIs u p { P.win with entries := [f] }
    (e.stage = .idle →
      ((s.inputWit p P.win [] e = none ∨
          ∃ w : Word, s.inputWit p P.win [] e = some w ∧ s.checkAt (.bridge (p % 4)) w = .poison) →
        ∃ u : State, exec (.windowKindComplete p 0) s = .next u ∧ done u { e with st := .faulted, cause := 7 }) ∧
      (∀ w, s.inputWit p P.win [] e = some w → s.checkAt (.bridge (p % 4)) w = .satisfied →
        (krRegPresent e.words 0 = true → s.winWaits p (krRegBase e.words 0) = false) →
        (krKind e.words ∈ [0, 1, 2, 0x0A] →
          ∃ u : State, exec (.windowKindComplete p 0) s = .next u ∧ done u { e with st := .completed }) ∧
        (krKind e.words ∈ [8, 9] → (krKind e.words = 8 → (s.winXlat p akLoad (krRegBase e.words 0)).isSome) →
          ∃ u : State, exec (.windowKindComplete p 0) s = .next u ∧ done u { e with stage := .begun }) ∧
        (krKind e.words = 7 → (s.winXlat p akStore (krRegBase e.words 0)).isSome →
          ∃ u : State, exec (.windowKindComplete p 0) s = .next u ∧ done u { e with st := .completed, stage := .begun }))) ∧
    (∀ id, e.stage = .writing id → tget s.bridgeOut id = none →
      ∃ u : State, exec (.kbindWrite p 0) s = .next u ∧
        done u (if id ∈ s.bridgeRefused then { e with st := .faulted, cause := 11 } else { e with st := .completed })) ∧
    (∀ v a, e.stage = .begun → krKind e.words = 8 → s.winWaits p (krRegBase e.words 0) = false → s.winXlat p akLoad (krRegBase e.words 0) = some (.host a) →
      let holds := if krParam e.words = 0 then (krWord e.words 6).toNat ≤ v.toNat else v = krWord e.words 6
      ∃ u : State, exec (.kwaitRead p 0 v) s = .next u ∧ (holds → done u { e with st := .completed }) ∧
        (¬ holds → done u { e with stage := .polled (s.tickOf (bridgeTile (p % 4))) })) ∧
    (∀ v rank off rep xp h, e.stage = .begun → krKind e.words = 8 → s.winWaits p (krRegBase e.words 0) = false →
      s.winXlat p akLoad (krRegBase e.words 0) = some (.dram rank off rep xp) → s.homeOf rank = some h → (s.tile h).shellAlive = true →
      (s.tile h).held = [] → s.awaiting h off = false → s.admits h (some p) rank off = true → s.poison h off = 0 →
      let d := s.mem.word (dramKey h off)
      let holds := if krParam e.words = 0 then (krWord e.words 6).toNat ≤ d.toNat else d = krWord e.words 6
      ∃ u : State, exec (.kwaitRead p 0 v) s = .next u ∧ (holds → done u { e with st := .completed }) ∧
        (¬ holds → done u { e with stage := .polled (s.tickOf (bridgeTile (p % 4))) })) ∧
    (e.stage = .begun → krKind e.words = 9 → (∀ w ∈ P.win.retiredWits, s.checkAt (.bridge (p % 4)) w = .satisfied) →
      ∃ u : State, exec (.kfenceComplete p 0) s = .next u ∧ Aside s u ∧
        WinIs u p { P.win with entries := [{ e with st := .completed }], retiredWits := [] })) ∧
  (∀ (s : State) (p : Nat) (P : Part) (e : WEntry), Alone s p P e → e.st = .completed → krKind e.words = 7 →
    (∀ id, e.stage = .writing id → tget s.bridgeOut id = none → id ∉ s.bridgeRefused →
      ∃ u : State, exec (.ksignalWrite p) s = .next u ∧ Aside s u ∧ WinIs u p { P.win with entries := [{ e with stage := .written }] }) ∧
    (∀ rank off rep xp h, e.stage = .begun → (∀ w ∈ P.win.retiredWits, s.checkAt (.bridge (p % 4)) w = .satisfied) →
      s.winWaits p (krRegBase e.words 0) = false →
      s.winXlat p akStore (krRegBase e.words 0) = some (.dram rank off rep xp) → s.homeOf rank = some h →
      let tick := s.tickOf (bridgeTile (p % 4))
      ∃ (u : State) (g : Msg) (q : Posted), exec (.ksignalWrite p) s = .next u ∧ Aside s u ∧ u.net = s.net ++ [g] ∧ g.dst = .tile h ∧ g.body = .posted q ∧
        q.rank = rank ∧ q.off = off ∧ q.op = .store ([krWord e.words 6, BitVec.ofNat 64 (e.pos * 2 ^ 32 + 1), BitVec.ofNat 64 tick,
          BitVec.ofNat 64 (2 ^ 63 + (tick + 1) % 2 ^ 62)].flatMap wordBytes))) ∧
  (∀ (s : State) (p : Nat) (P : Part) (e : WEntry), Alone s p P e → e.st = .completed → krKind e.words ∉ [2, 7, 0x0A] →
    let W := P.win
    ∃ (u : State) (V : Window), exec (.windowRetire p) s = .next u ∧ Aside s u ∧ WinIs u p V ∧ V.entries = [] ∧ V.retired = (W.retired + 1) % 2 ^ 64 ∧
      (W.retiredWits = [] → V.retiredWits = if e.out = 0 then [] else [e.out]) ∧ V.writers = W.writers ∧
      (∀ b o c off, e.dst = [some b, none] → e.old = [some o, none] → krDstInPlace e.words 0 = false → o ≠ b →
        W.locate o = some (c, off) →
        tget V.committed (krDst e.words 0) = some b ∧ tget V.lastWit b = some e.out ∧
        tget V.free c = some (tgetD W.free c [] ++ [(o, tgetD W.lastWit o 0)]))) ∧
  (∀ (s : State) (p d : Nat) (P : Part) (e : WEntry) (l : List WEntry), tget s.parts p = some P → P.win.entries = e :: l →
    e.st = .faulted → tget s.rankTile P.faultRank = some d →
    ∃ (u : State) (V : Window) (g : Msg) (w : List Word), exec (.windowFault p) s = .next u ∧ Aside s u ∧ WinIs u p V ∧ V.entries = [] ∧ V.queue = [] ∧ V.halted = true ∧
      V.faultPos = e.pos ∧ V.spec = P.win.committed ∧ V.committed = P.win.committed ∧ g ∈ u.net ∧ g.dst = .tile d ∧
      g.body = .faultRec p w ∧
      w.headD 0 = BitVec.ofNat 64 (1 * 2 ^ 56 + e.cause * 2 ^ 48 + p * 2 ^ 44 + e.rank * 2 ^ 32 + s.gen % 2 ^ 32) ∧
      w.getD 3 0 = e.tval ∧ w.getD 5 0 = e.gtid)

/-- R273, R294 to R298: a ready entry of a tile kind issues: its task record stands in the first free inbox place of its rank's
tile, its task block at the tile's offset, and the interrupt is pending; an accepted report frees the place, completes its entry
when the last rank has reported, or faults it; one of a light slot is answered with status 11; a squash notice marks the record
and raises the interrupt. The model's own choices here are those of log 24 and 55. -/
def Obligations.TaskRecordsAndReports : Prop :=
  (∀ (s : State) (p r t : Nat) (P : Part) (e : WEntry) (win : Word), Alone s p P e → s.entryReady p P.win [] e = true →
    s.inputWit p P.win [] e = some win → P.rangeOf e = [(0, r)] → s.homeOf r = some t → t < 1024 → (s.tile t).inbox = [] →
    (s.tile t).obs.watches = [] → P.win.tboff + 64 ≤ 2 ^ 33 →
    ∃ (u : State) (V : Window) (f : WEntry), exec (.windowIssue p) s = .next u ∧ WinIs u p V ∧ V.entries = [f] ∧ f.st = .issued ∧ f.pos = e.pos ∧
      (u.tile t).inbox = [(0, e.pos)] ∧ (u.priv (.tile t)).mip = (s.priv (.tile t)).mip ||| 0x40000#64 ∧
      (∀ b, some b ∈ e.dst → tget V.writers b = some e.pos) ∧
      (let g : Word := BitVec.ofNat 64 (p * 2 ^ 60 + 2 ^ 59 + e.pos * 2 ^ 27)
       let k := spadKey t 0x800
       let b := dramKey t P.win.tboff
       u.mem.word k = g ∧ u.mem.word (k + 8) = krWord e.words 6 ∧ u.mem.word (k + 24) = win ∧
       u.mem.word b = 0 ∧ u.mem.word (b + 16) = BitVec.ofNat 64 P.win.avbase ∧ u.mem.word (b + 24) = g ∧
       u.mem.word (b + 48) = (if krKind e.words = 5 ∧ krParam e.words ≠ 0 then krRegBase e.words 0 else krWord e.words 7) ∧ u.mem.word (b + 56) = win ∧
       ∀ a, (a < k ∨ k + 64 ≤ a) → (a < b ∨ b + 64 ≤ a) → u.mem.get a = s.mem.get a)) ∧
  (∀ (s s' : State) (m p rank t : Nat) (r : Arrived) (who : Who) (light : Bool) (b : List Word) (P : Part),
    s.arrive m = some (r, s') → r.msg.body = .kappend who p rank light b → who.agent = .tile t → tget s.parts p = some P →
    b ≠ [] → fld (b.getD 0 0) 63 56 = 0x40 →
    (light = true → ∃ (u : State) (a : Msg), exec (.report m) s = .next u ∧ Aside s u ∧ a ∈ u.net ∧ a.dst = r.msg.src ∧
      a.body = .kreply who 0xC000000000000000#64) ∧
    (∀ e j, light = false → reportWf b = true → P.win.entries = [e] → e.pos = fld (b.getD 0 0) 31 0 → e.st = .issued →
      rank ∉ e.reported → (s.tile t).inbox = [(j, e.pos)] → j < 8 →
      let cause := fld (b.getD 0 0) 55 48
      let w := b.getD 1 0
      let all := ∀ q ∈ P.rangeOf e, q.2 ∈ e.reported ∨ q.2 = rank
      ∃ (u : State) (f : WEntry) (a : Msg), exec (.report m) s = .next u ∧ OnlyBytes s u (spadKey t (0x800 + 64 * j) + 48) 8 ∧ (u.tile t).inbox = [] ∧
        WinLike u p { P.win with entries := [f] } ∧ f.reported = e.reported ++ [rank] ∧
        (cause = 0 → witWf s.grade w = true →
          f.out = joinOf (s.tickOf (bridgeTile (p % 4))) e.out w ∧ (all → f.st = .completed) ∧ (¬ all → f.st = .issued)) ∧
        (cause = 0 → witWf s.grade w = false → f.st = .faulted ∧ f.cause = 7 ∧ f.rank = rank ∧ f.tval = w) ∧
        (cause ≠ 0 → f.st = .faulted ∧ f.cause = cause ∧ f.rank = rank ∧ f.tval = w ∧ f.gtid = b.getD 2 0) ∧
        a ∈ u.net ∧ a.dst = r.msg.src ∧ a.body = .kreply who (BitVec.ofNat 64 e.pos))) ∧
  (∀ (s s' : State) (m p j q : Nat) (r : Arrived) (l : List Nat), s.arrive m = some (r, s') → r.msg.body = .squash p l → r.stand = false →
    s.partOf (s.rankOf r.at_) = some p →
    (s.tile r.at_).inbox = [(j, q)] → q ∈ l → j < 8 →
    let k := spadKey r.at_ (0x800 + 64 * j) + 48
    ∃ u : State, exec (.squashNotice m) s = .next u ∧ (u.priv (.tile r.at_)).mip = (s.priv (.tile r.at_)).mip ||| 0x40000#64 ∧
      (u.mem.word k).getLsbD 54 = true ∧ (∀ i, i ≠ 54 → (u.mem.word k).getLsbD i = (s.mem.word k).getLsbD i) ∧
      (∀ a, (a < k ∨ k + 8 ≤ a) → u.mem.get a = s.mem.get a))

/-! ### Reset, time, suspicion and retirement -/

namespace Sys2Proof.Machine

/-- A tick edge may come to field f: it counts, and every other field that does has started and is not behind it (R354). -/
abbrev EdgeDue (s : State) (f : Nat) : Prop :=
  f < 64 ∧ (s.field f).started = true ∧ (s.field f).stopped = false ∧ (s.field f).gridLost = false ∧
  ∀ g, g < 64 → (s.field g).stopped = true ∨ (s.field g).gridLost = true ∨
    ((s.field g).started = true ∧ (s.field f).tick ≤ (s.field g).tick)

/-- Tile n has lost its rank, its contexts are gone, and no suspicion of it stands (R349, R350). -/
structure Retires (u : State) (n : Nat) : Prop where
  life : (u.tile n).life = .fallow
  rank : (u.tile n).rank = none
  free : ∀ c, c < 16 → (u.ctx (.tile n) c).st = .free
  gone : tget u.suspects n = none

/-- Tile a has taken rank k over (R349). -/
structure Adopts (s u : State) (a k : Nat) : Prop where
  map : tget u.rankTile k = some a
  gen : u.gen = s.gen + 1
  rank : (u.tile a).rank = some k
  life : (u.tile a).life = .adopted
  mem : s.parts = [] → SameMem s u

end Sys2Proof.Machine

/-- R15, R21, R146, R345, R347, R354 to R356, R392, R395, R413: MODULE_RESET leaves every tile (but for its bad scratchpad lines),
field, partition and queue at reset, keeps memory and the installed keys, and with verified firmware gives the ranks in the order of
fields and local tiles; a self-test's end makes a tile ranked, spare or bad; a start edge starts a field's clock, a tick edge of the
field that no other is behind moves TICK by one, takes each neighbour's heartbeat or counts it missed, and raises dtick to the least
report of two edges ago; the losses, reports, lowered operating points and stops change their one field. The model's own choices here
are those of log 7, 8, 66, 73, 79 and 117. -/
def Obligations.ResetAndTime : Prop :=
  (∀ (s : State) (fw : Bool) (failed : List Nat), ∃ u : State, exec (.moduleReset fw failed) s = .next u ∧ SameMem s u ∧
    (∀ t, u.tile t = { Tile.reset with badLines := (s.tile t).badLines }) ∧ (∀ f, u.field f = Field.reset) ∧ u.parts = [] ∧ u.net = [] ∧ (∀ q, u.queue q = Queue.reset) ∧
    u.mill0.keys = s.mill0.keys ∧ u.mill0.fwok = fw ∧ u.mill0.ready = false ∧ u.mill0.resets = s.mill0.resets + 1 ∧
    (fw = false → u.rankTile = []) ∧
    (fw = true → s.grade = 900 → s.fusedBad = [] → s.fusedSpare = [] → failed = [] →
      ∀ k, k < 900 → tget u.rankTile k = some (tileOfField (k / 16) (k % 16)) ∧ u.mill0.gnm = false)) ∧
  (∀ (s : State) (t : Nat) (pass : Bool), t < 1024 → (s.tile t).life = .testing → s.mill0.fwok = true →
    ∃ u : State, exec (.selfTestEnd t pass) s = .next u ∧ Aside s u ∧
      (∀ d, d ≠ t → u.tile d = s.tile d) ∧
      ((s.tile t).before = .fallow → (u.tile t).life = (if pass then .spare else .bad) ∧ (u.tile t).rank = none) ∧
      ((s.tile t).before ≠ .fallow → (t ∈ s.fusedBad ∨ t ∈ s.mill0.failed) → (u.tile t).life = .bad ∧ (u.tile t).rank = none) ∧
      (∀ k, (s.tile t).before ≠ .fallow → t ∉ s.fusedBad → t ∉ s.mill0.failed → s.baseMap = [(k, t)] →
        (u.tile t).life = .ranked ∧ (u.tile t).rank = some k) ∧
      ((s.tile t).before ≠ .fallow → t ∉ s.fusedBad → t ∉ s.mill0.failed → (∀ q ∈ s.baseMap, q.2 ≠ t) →
        (u.tile t).life = .spare ∧ (u.tile t).rank = none)) ∧
  (∀ (s : State) (f : Nat), f < 64 →
    (s.mill0.fwok = true → (s.field f).started = false → ∃ u : State, exec (.startEdge f) s = .next u ∧ Aside s u ∧
      u.field f = { s.field f with started := true, edge := edgeTime f 0 }) ∧
    (EdgeDue s f → (∀ q ∈ s.suspects, q.2.passed = false) →
      let n := (s.field f).tick + 1
      ∃ u : State, exec (.tickEdge f) s = .next u ∧ Aside s u ∧ (u.field f).tick = n ∧ (u.field f).edge = edgeTime f n ∧
        (∀ g, g ≠ f → u.field g = s.field g) ∧
        (∀ l d, l < 16 → d ∈ links (tileOfField f l) → (s.tile (tileOfField f l)).life ≠ .bad →
          (s.tile (tileOfField f l)).shellAlive = true →
          let b := tgetD (s.tile (tileOfField f l)).beats d Beat.none
          let up := (s.tile d).life ≠ .bad ∧ (s.tile d).shellAlive = true ∧ (s.field (fieldOf d)).counting = true
          tgetD (u.tile (tileOfField f l)).beats d Beat.none =
            (if up then ⟨0, if (s.tile d).coreAlive then 0 else b.dead + 1, s.rankOf d, (s.tile d).mapGen⟩
             else { b with missed := b.missed + 1, dead := 0 })) ∧
        (∀ (D : Nat) (r : Nat → Nat), 2 ≤ n → (s.field f).reports.length ≤ 7 →
          (∀ g, g < 64 → (s.field g).reports.find? (fun q => q.1 == n - 2) = some (n - 2, r g)) →
          D = (List.range 64).foldl (fun a g => min a (r g)) (n - 2) →
          ∀ l, l < 16 → (u.tile (tileOfField f l)).dtick = max (s.tile (tileOfField f l)).dtick D)) ∧
    (∀ w, w < 3 → ∃ u : State, exec (.gridWireDisagree f w) s = .next u ∧ Aside s u ∧ u.mill0.reports = .wire f w :: s.mill0.reports) ∧
    (∃ u : State, exec (.fieldGridLoss f) s = .next u ∧ Aside s u ∧ u.field f = { s.field f with gridLost := true })) ∧
  (∀ (s : State) (t : Nat), t < 1024 →
    (∃ u : State, exec (.coreAliveLoss t) s = .next u ∧ Aside s u ∧ u.tile t = { s.tile t with coreAlive := false }) ∧
    (∃ u : State, exec (.tileSupplyLoss t) s = .next u ∧ Aside s u ∧
      u.tile t = { s.tile t with coreAlive := false, shellAlive := false }) ∧
    (∀ off, off < 2 ^ 23 → ∃ u : State, exec (.uncorrectableError t true off) s = .next u ∧ Aside s u ∧
      ∀ l, l ∈ (u.tile t).badLines ↔ l = off / 64 ∨ l ∈ (s.tile t).badLines) ∧
    (∀ off, off < 2 ^ 33 → s.poison t off = 0 → ∃ u : State, exec (.uncorrectableError t false off) s = .next u ∧ Aside s u ∧
      (∀ o, u.poison t o = if o / 65536 = off / 65536 then 1 else s.poison t o) ∧
      (∀ p P d, s.partOf (s.rankOf t) = some p → tget s.parts p = some P → tget s.rankTile P.faultRank = some d →
        ∃ (g : Msg) (w : List Word), u.net = s.net ++ [g] ∧ g.dst = .tile d ∧ g.body = .faultRec p w ∧
          w.getD 3 0 = BitVec.ofNat 64 (s.rankOf t * 2 ^ 33 + off / 65536 * 65536)))) ∧
  (∀ (s : State) (i : Nat), i < 512 → ∃ u : State, exec (.lowerOperatingPoint i) s = .next u ∧ Aside s u ∧
    tget u.points i = some (tgetD s.points i 0 + 1)) ∧
  (∀ s : State, ∃ u : State, exec .junctionOvertemp s = .next u ∧ Aside s u ∧ ∀ f, f < 64 → (u.field f).stopped = true) ∧
  (∀ (s : State) (x : Nat), exec (.cxlSnoop x) s = .next s) ∧
  (∀ (s : State) (p r t : Nat) (P : Part), s.tickOf (bridgeTile 0) % 2 ^ 20 = 0 → tget s.parts p = some P → P.ranks = [r] →
    s.homeOf r = some t → (s.tile t).evac = none → P.lpoff + 65536 ≤ 2 ^ 33 →
    ∃ u : State, exec (.latencyPageRefresh p) s = .next u ∧ OnlyBytes s u (dramKey t P.lpoff) 65536 ∧
      u.mem.word (dramKey t P.lpoff + 8 * 72) = BitVec.ofNat 64 (s.gen % 2 ^ 32 * 2 ^ 32 + s.tickOf (bridgeTile 0) % 2 ^ 32) ∧
      (∀ i, 73 ≤ i → i < 8192 → u.mem.word (dramKey t P.lpoff + 8 * i) = 0))

/-- R336, R344 to R352, R357: a tile that has missed 8 heartbeats, or 8 with its core dead, is reported once to the mill and suspect;
within 16 ticks each neighbour that was live at the first report counts once, and the vote passes with more than half of them; as the
mill's tick ends a spare voted out becomes bad and a ranked tile is retired; a suspicion older than 16 ticks ends, or, of a store
unsettled for long, retires the tile, as an order of the mill does. The rank of a retired tile moves to a spare and its own contexts
are gone; without a spare it is lost until one is found, and then every range of it is. An adopter takes a range from the retired tile
or marks it lost; a store unsettled for 16,384 ticks gives a machine-check record. The model's own choices here are those of log 67,
68, 69, 70, 71, 72, 118 and 119. -/
def Obligations.SuspicionAndRetirement : Prop :=
  (∀ (s : State) (t n : Nat), n ∈ links t → (s.tile t).life ≠ .bad → (s.tile t).shellAlive = true →
    (s.tile n).life = .ranked → n ∉ (s.tile t).told →
    let b := tgetD (s.tile t).beats n Beat.none
    (8 ≤ b.missed ∨ 8 ≤ b.dead) →
    ∃ (u : State) (g : Msg), exec (.suspectReport t n) s = .next u ∧ Aside s u ∧ (u.tile n).life = .suspect ∧ n ∈ (u.tile t).told ∧
      (tget u.suspects n).isSome ∧ u.net = s.net ++ [g] ∧ g.src = .tile t ∧ g.dst = .bridge 0 ∧
      g.body = .suspect n (decide (8 ≤ b.dead))) ∧
  (∀ (s s' : State) (m t n : Nat) (core : Bool) (r : Arrived) (S : Suspicion), s.arrive m = some (r, s') →
    r.msg.body = .suspect n core → r.msg.src = .tile t → tget s.suspects n = some S →
    ∃ u : State, exec (.suspectVote m) s = .next u ∧ Aside s u ∧ (u.tile n).life = (s.tile n).life ∧
      tget u.suspects n = some (if t ∈ S.live ∧ t ∉ S.by_ ∧ s.tickOf (bridgeTile 0) ≤ S.first + 16 then
        { S with by_ := S.by_ ++ [t], core := S.core || core,
                 passed := S.passed || decide (S.live.length < 2 * (S.by_.length + 1)) } else S)) ∧
  (∀ (s : State) (n : Nat) (S : Suspicion), let f := fieldOf (bridgeTile 0)
    EdgeDue s f → s.suspects = [(n, S)] → S.passed = true → n ∈ allTiles →
    ((s.tile n).life = .spare → ∃ u : State, exec (.tickEdge f) s = .next u ∧ Aside s u ∧ (u.tile n).life = .bad ∧
      tget u.suspects n = none) ∧
    (∀ k a, (s.tile n).life = .suspect → (s.tile n).rank = some k → s.adopterFor n k = some a → s.partOf k = none →
      ∃ u : State, exec (.tickEdge f) s = .next u ∧ Retires u n ∧ Adopts s u a k) ∧
    (∀ k, (s.tile n).life = .suspect → (s.tile n).rank = some k → s.adopterFor n k = none → s.partOf k = none →
      ∃ u : State, exec (.tickEdge f) s = .next u ∧ SameMem s u ∧ Retires u n ∧ tget u.rankTile k = none ∧
        tget u.lost k = some (n, if S.core then 2 else 1))) ∧
  (∀ (s : State) (n : Nat) (S : Suspicion), tget s.suspects n = some S → S.passed = false → S.first + 16 ≤ s.tickOf (bridgeTile 0) →
    S.watchdog = false → (s.tile n).life = .suspect → n < 1024 →
    ∃ u : State, exec (.suspectWindowExpiry n) s = .next u ∧ Aside s u ∧ tget u.suspects n = none ∧
      (u.tile n).life = (s.tile n).before ∧ u.mill0.reports = .cleared (pcoord n) (s.rankOf n) s.gen :: s.mill0.reports) ∧
  (∀ (s : State) (n k c cause : Nat), n < 1024 → (s.tile n).rank = some k → s.partOf k = none →
    ((c = 2 ∨ c = 4) ∧ cause = c ∧ ((s.tile n).life = .ranked ∨ (s.tile n).life = .adopted ∨ (s.tile n).life = .suspect) ∨
      c = 0 ∧ cause = 3 ∧ (s.tile n).life = .suspect ∧ ∃ S : Suspicion, tget s.suspects n = some S ∧ S.passed = false ∧
        S.watchdog = true ∧ S.first + 16 ≤ s.tickOf (bridgeTile 0)) →
    (∀ a, s.adopterFor n k = some a → ∃ u : State, exec (.suspectWindowExpiry (n + 1024 * c)) s = .next u ∧ Retires u n ∧ Adopts s u a k ∧
      ((s.tile n).shellAlive = true → (u.tile a).evac = some (n, 0)) ∧
      ((s.tile n).shellAlive = false → ∀ off, off < 2 ^ 33 → u.poison a off = 2)) ∧
    (s.adopterFor n k = none → ∃ u : State, exec (.suspectWindowExpiry (n + 1024 * c)) s = .next u ∧ SameMem s u ∧ Retires u n ∧
      tget u.rankTile k = none ∧ tget u.lost k = some (n, cause))) ∧
  (∀ (s : State) (k f a cause : Nat), tget s.lost k = some (f, cause) → s.adopterFor f k = some a → s.partOf k = none →
    ∃ u : State, exec (.standInAdoption k) s = .next u ∧ Adopts s u a k ∧ tget u.standIn k = none ∧ tget u.lost k = none ∧
      ∀ off, off < 2 ^ 33 → u.poison a off = 2) ∧
  (∀ (s : State) (t f i : Nat) (ok : Bool), (s.tile t).evac = some (f, i) → (s.tile t).shellAlive = true → s.mem.wf = true → f ≠ t → f < 1024 → t < 1024 → i < 131071 →
    let k := dramKey t (i * 65536)
    (ok = true → (s.tile f).shellAlive = true → ∃ u : State, exec (.evacuationRange t ok) s = .next u ∧ OnlyBytes s u k 65536 ∧
      (∀ j, j < 65536 → u.mem.get (k + j) = s.mem.get (dramKey f (i * 65536) + j)) ∧ (u.tile t).evac = some (f, i + 1)) ∧
    ((ok = false ∨ (s.tile f).shellAlive = false) → ∃ u : State, exec (.evacuationRange t ok) s = .next u ∧ Aside s u ∧
      u.poison t (i * 65536) = 2 ∧ (u.tile t).evac = some (f, i + 1))) ∧
  (∀ (s : State) (t idx p d : Nat) (e : JEntry) (P : Part), (s.tile t).journal = [e] → e.idx = idx → e.checked = false →
    e.tick + 16384 ≤ s.tickOf t → s.partOf (s.rankOf t) = some p → tget s.parts p = some P → tget s.rankTile P.faultRank = some d →
    ∃ (u : State) (g : Msg) (w : List Word), exec (.drainWatchdog t idx) s = .next u ∧ Aside s u ∧ (u.tile t).journal = [{ e with checked := true }] ∧
      u.net = s.net ++ [g] ∧ g.dst = .tile d ∧ g.body = .faultRec p w ∧ w.getD 3 0 = e.addr ∧ w.getD 5 0 = e.gtid)

/-! ### The host: mailboxes, queues and memory -/

namespace Sys2Proof.Machine

/-- Mailbox x has answered its request with a status and payload: the response buffer holds the header and the payload, MBDOOR reads 0,
and vector 0 of the port is signalled (R383, R384). -/
def Answered (s u : State) (x st : Nat) (payload : List Byte) : Prop :=
  let r := (s.box x).request
  let n := 16 + payload.length
  (u.box x).busy = 0 ∧ (u.box x).resp.read 0 n =
    leBytes 1 st ++ leBytes 1 r.code ++ leBytes 2 r.tag ++ leBytes 4 n ++ leBytes 8 0 ++ payload ∧
  (x < 2 → u.msix = (x, 0) :: s.msix)

/-- The commands with their codes (R385 to R387). -/
def commandCode (i : Instr) (x : Nat) : Option Nat :=
  match i with
  | .form y => if y = x then some 0x01 else none
  | .dissolve y => if y = x then some 0x02 else none
  | .load y _ => if y = x then some 0x03 else none
  | .qcreate y => if y = x then some 0x04 else none
  | .qreset y => if y = x then some 0x05 else none
  | .qrevoke y => if y = x then some 0x06 else none
  | .readmit y => if y = x then some 0x07 else none
  | .endpoint y => if y = x then some 0x09 else none
  | .route y => if y = x then some 0x0A else none
  | .attest y => if y = x then some 0x0B else none
  | .keyinstall y => if y = x then some 0x0C else none
  | .svccap y => if y = x then some 0x0D else none
  | .keyremove y => if y = x then some 0x0E else none
  | .admitRange y => if y = x then some 0x10 else none
  | .tilequery y => if y = x then some 0x11 else none
  | _ => none

end Sys2Proof.Machine

/-- R382 to R387, R390 to R394, R352, R361, R376, R378 to R380: a request written to a mailbox's buffer is submitted at MBDOOR or
answered with status 1 when it is malformed; each command answers it: with status 2 when a service capability it needs does not
pass, with the status its row gives a request it refuses, and else with 0, its payload and its effect. An OBSERVE setting becomes the
partition's and then arrives at its tiles one by one, the last of which answers the request. The model's own choices
here are those of log 74, 75, 76, 77, 78 and 80. -/
def Obligations.MailboxCommands : Prop :=
  (∀ (s : State) (x off : Nat) (b : List Byte), x ≤ 2 → (s.box x).busy = 0 → 0x1000 ≤ off → off + b.length ≤ 0x2000 →
    ∃ u : State, exec (.registerWrite x off b) s = .next u ∧ Aside s u ∧ (u.box x).busy = 0 ∧
      (u.box x).req.read (off - 0x1000) b.length = b ∧
      ∀ a, (a + 0x1000 < off ∨ off + b.length ≤ a + 0x1000) → (u.box x).req.get a = (s.box x).req.get a) ∧
  (∀ (s : State) (x : Nat) (b : List Byte), x ≤ 2 → (s.box x).busy = 0 → s.mill0.ready = true → 64 ≤ leNat b → leNat b ≤ 4096 →
    let n := leNat b
    let q := (s.box x).req.read 0 n
    (envelopeOk q = true → ∃ u : State, exec (.registerWrite x 0x100 b) s = .next u ∧ Aside s u ∧ u.box x = { s.box x with busy := n }) ∧
    (envelopeOk q = false → ∃ u : State, exec (.registerWrite x 0x100 b) s = .next u ∧ Aside s u ∧ (u.box x).busy = 0 ∧
      (u.box x).resp.read 0 1 = [1#8])) ∧
  (∀ (s : State) (x : Nat), x ≤ 2 → (s.box x).busy ≠ 0 →
    let r := (s.box x).request
    let p := fld (r.dw 0) 3 0
    let answers (i : Instr) (st : Nat) : Prop := ∃ u : State, exec i s = .next u ∧ Aside s u ∧ Answered s u x st []
    (∀ i code, commandCode i x = some code → r.code = code → code ∈ [0x07, 0x09, 0x0A, 0x0C, 0x0E] → s.serviceOk r = false →
      answers i 2) ∧
    -- FORM
    (r.code = 1 →
      let fields := (List.range 64).filter fun f => (r.dw 1).getLsbD f
      let ranks := s.formRanks fields
      let taken := (tget s.parts (r.dw 0).toNat).isSome = true ∨ ∃ y ∈ s.parts, ∃ f ∈ fields, f ∈ y.2.fields
      (fld (r.dw 0) 63 4 ≠ 0 → answers (.form x) 1) ∧
      (fld (r.dw 0) 63 4 = 0 → taken → answers (.form x) 2) ∧
      (¬ taken → (formFields r ranks.length = false ∨ ranks = []) → answers (.form x) 1) ∧
      (∀ q, formFields r ranks.length = true → ranks ≠ [] → ¬ taken → (∀ g, s.canMap (r.dw 2) (formLeaves r ranks g) = true) →
        s.freeQueue = some q →
        ∃ (u : State) (P : Part), exec (.form x) s = .next u ∧ tget u.parts (r.dw 0).toNat = some P ∧ P.ranks = ranks ∧ P.fields = fields ∧
          P.satp = satpOf (r.dw 2) ∧ P.win.counts = formCounts r ∧ P.win.entries = [] ∧ P.win.halted = false ∧ P.lpoff = (r.dw 16).toNat ∧
          (u.queue q).state = 1 ∧ (u.queue q).kind = 2 ∧
          (∀ k ∈ ranks, ∀ t, s.homeOf k = some t → (u.ctx (.tile t) 0).st = .free ∧ (u.priv (.tile t)).mode = .m ∧
            (u.priv (.tile t)).satp = satpOf (r.dw 2)) ∧
          Answered s u x 0 (leBytes 8 (ranks.length + ranks.headD 0 * 2 ^ 16)))) ∧
    -- DISSOLVE
    (r.code = 2 → (tget s.parts p = none → answers (.dissolve x) 2) ∧
      (∀ P, tget s.parts p = some P → ∃ u : State, exec (.dissolve x) s = .next u ∧ tget u.parts p = none ∧ Answered s u x 0 [] ∧
        (∀ k ∈ P.ranks, ∀ t, s.homeOf k = some t → (u.tile t).mxRun = none ∧ (u.tile t).mxQueue = [] ∧ (u.tile t).copyRun = [] ∧
          (u.tile t).copyQueue = [] ∧ (u.tile t).port = none ∧ (u.tile t).gang = none ∧ (u.tile t).arrivals = [] ∧ (u.tile t).saved = []) ∧
        (∀ q, q < 4096 → (s.queue q).state ≠ 0 → (s.queue q).owner % 16 = p → (u.queue q).state = 0))) ∧
    -- LOAD
    (∀ host, r.code = 3 → (tget s.parts p = none → answers (.load x host) 2) ∧
      (∀ P, tget s.parts p = some P → s.anyEvac = false → fld (r.dw 1) 59 52 = 0 → ptrSpace (r.dw 1) = 2 → (r.dw 2).toNat ≤ 2 ^ 45 →
        let b := host.take (r.dw 2).toNat
        (s.loadStatus P b (r.dw 2).toNat ≠ 0 → answers (.load x host) (s.loadStatus P b (r.dw 2).toNat)) ∧
        (∀ k t, s.loadStatus P b (r.dw 2).toNat = 0 → P.ranks = [k] → s.homeOf k = some t →
          ∃ (u : State) (Q : Part), exec (.load x host) s = .next u ∧ Answered s u x 0 [] ∧ tget u.parts p = some Q ∧ Q.image = some (sha256 b) ∧
            (u.ctx (.tile t) 0).st = .ready ∧ (u.priv (.tile t)).mode = .m ∧
            (u.ctx (.tile t) 0).th.pc = BitVec.ofNat 64 ((roleOf b 0).2 / 4 * 4) ∧ (u.ctx (.tile t) 0).x 10 = 0 ∧
            (u.ctx (.tile t) 0).x 11 = BitVec.ofNat 64 (roleOf b 0).1))) ∧
    -- QCREATE, QRESET, QREVOKE, SVCCAP
    (r.code = 4 → (tget s.parts p = none → answers (.qcreate x) 2) ∧
      (∀ P, tget s.parts p = some P → qcreateOk r P.ranks.length = false → answers (.qcreate x) 1) ∧
      (∀ P, tget s.parts p = some P → qcreateOk r P.ranks.length = true → s.freeQueue = none → answers (.qcreate x) 4) ∧
      (∀ P q, tget s.parts p = some P → qcreateOk r P.ranks.length = true → s.freeQueue = some q →
        ∃ u : State, exec (.qcreate x) s = .next u ∧ Aside s u ∧
          (let k := u.queue q
           k.state = 1 ∧ k.base = r.dw 1 ∧ k.owner = fld (r.dw 0) 5 4 * 16 + p ∧ k.rights = fld (r.dw 0) 31 16 ∧
           k.length = (r.dw 2).toNat ∧ k.kind = fld (r.dw 0) 15 8 ∧ k.pidx = 0 ∧
           k.gen = (if (s.queue q).gen = 2 ^ 24 - 1 then 1 else (s.queue q).gen + 1) ∧
           Answered s u x 0 (leBytes 8 q ++ (s.mint k).flatMap wordBytes)))) ∧
    (r.code = 5 → let q := fld (r.dw 0) 11 0
      (s.mayReset q (reqCap r) = false → answers (.qreset x) 2) ∧
      (s.mayReset q (reqCap r) = true → (s.queue q).state = 2 → ∃ u : State, exec (.qreset x) s = .next u ∧ Aside s u ∧
        Answered s u x 0 [] ∧ u.queue q = { s.queue q with state := 1, cause := 0, fseq := 0 })) ∧
    (r.code = 6 → let q := fld (r.dw 0) 11 0
      (s.mayReset q (reqCap r) = false → answers (.qrevoke x) 2) ∧
      (s.mayReset q (reqCap r) = true → ∃ u : State, exec (.qrevoke x) s = .next u ∧ Aside s u ∧ Answered s u x 0 [] ∧
        u.queue q = { s.queue q with state := 0 })) ∧
    (r.code = 0x0D → (x ≠ 2 → answers (.svccap x) 2) ∧
      (x = 2 → ∃ u : State, exec (.svccap x) s = .next u ∧ Aside s u ∧ (u.queue 4095).state = 1 ∧ (u.queue 4095).rights = 0x80 ∧
        Answered s u x 0 ((s.mint (u.queue 4095)).flatMap wordBytes))) ∧
    -- READMIT, TILEQUERY
    (∀ t, r.code = 7 → s.serviceOk r = true → tileOfCoord (fld (r.dw 0) 21 0) = some t →
      ((s.tile t).life ≠ .fallow → answers (.readmit x) 2) ∧
      ((s.tile t).life = .fallow → (∀ a, (s.tile a).evac = none) → ∃ u : State, exec (.readmit x) s = .next u ∧ Aside s u ∧
        Answered s u x 0 [] ∧ (u.tile t).life = .testing ∧ (u.tile t).before = .fallow)) ∧
    (∀ t, r.code = 0x11 → tileOfCoord (fld (r.dw 0) 21 0) = some t →
      ∃ u : State, exec (.tilequery x) s = .next u ∧ Aside s u ∧
        Answered s u x 0 (leBytes 8 (s.gen % 2 ^ 32 * 2 ^ 32 + s.rankOf t * 2 ^ 16 + (match (s.tile t).life with
          | .testing => 0
          | .bad => 1
          | .spare => 2
          | .ranked => 3
          | .adopted => 4
          | .suspect => 5
          | .fallow => 6)))) ∧
    -- UNPOISON, ADMIT
    (r.code = 0x0F → let k := fld (r.dw 0) 11 0
      let n := fld (r.dw 0) 47 32
      let first := fld (r.dw 1) 16 0
      (s.unpoisonWaits x = false → s.serviceOk r = false → answers (.unpoison x) 2) ∧
      (s.unpoisonWaits x = false → s.serviceOk r = true → (s.grade ≤ k ∨ n = 0 ∨ 131072 < first + n) → answers (.unpoison x) 1) ∧
      (∀ t, s.unpoisonWaits x = false → s.serviceOk r = true → k < s.grade → n ≠ 0 → first + n ≤ 131072 → s.homeOf k = some t →
        ∃ u : State, exec (.unpoison x) s = .next u ∧ OnlyBytes s u (dramKey t (first * 65536)) (n * 65536) ∧ Answered s u x 0 [] ∧
          (∀ j, j < n * 65536 → u.mem.get (dramKey t (first * 65536) + j) = 0) ∧
          (∀ o, u.poison t o = if first ≤ o / 65536 ∧ o / 65536 < first + n then 0 else s.poison t o))) ∧
    (r.code = 0x10 → let k := fld (r.dw 0) 23 12
      let off := fld (r.dw 1) 32 0
      let len := fld (r.dw 2) 32 0
      ((s.grade ≤ k ∨ off % 65536 ≠ 0 ∨ len % 65536 ≠ 0 ∨ 2 ^ 33 < off + len) → answers (.admitRange x) 1) ∧
      (∀ P t, k < s.grade → off % 65536 = 0 → len % 65536 = 0 → off + len ≤ 2 ^ 33 → tget s.parts p = some P → s.homeOf k = some t →
        ∃ u : State, exec (.admitRange x) s = .next u ∧ Aside s u ∧ Answered s u x 0 [] ∧
          tget (u.tile t).box.admitRange (fld (r.dw 0) 11 8) = if (r.dw 0).getLsbD 31 then some (p, off, off + len) else none)) ∧
    -- OBSERVE
    (∀ P, r.code = 8 → tget s.parts p = some P →
      let steps (i : Instr) (f : Observe → Observe) : Prop :=
        ((s.box x).left = none → P.ranks ≠ [] → ∃ u : State, exec i s = .next u ∧ Aside s u ∧
          tget u.parts p = some { P with obs := f P.obs } ∧ u.box x = { s.box x with left := some P.ranks } ∧ ∀ t, u.tile t = s.tile t) ∧
        (∀ l : List Nat, (s.box x).left = some l → l ≠ [] → ∃ (u : State) (k : Nat), k ∈ l ∧ exec i s = .next u ∧ Aside s u ∧
          (∀ t, (u.tile t).obs = if s.homeOf k = some t then f (s.tile t).obs else (s.tile t).obs) ∧
          (if l.erase k = [] then Answered s u x 0 [] else u.box x = { s.box x with left := some (l.erase k) }))
      let n := fld (r.dw 0) 18 16
      (fld (r.dw 0) 9 8 = 0 → fld (r.dw 1) 20 0 ≤ 2 ^ 20 →
        steps (.observeSamplePeriod x) fun o => { o with period := fld (r.dw 1) 20 0 }) ∧
      (fld (r.dw 0) 9 8 = 1 →
        steps (.observeBreakpoint x) fun o =>
          { o with breaks := (if (r.dw 4).getLsbD 0 then tput o.breaks n (r.dw 1, r.dw 2, r.dw 3) else tdel o.breaks n) }) ∧
      (fld (r.dw 0) 9 8 = 2 → (r.dw 1).toNat % 8 = 0 → (r.dw 2).toNat % 8 = 0 → 8 ≤ (r.dw 2).toNat → (r.dw 2).toNat ≤ 2 ^ 20 →
        fld (r.dw 3) 1 0 ≠ 3 →
        let w := ((r.dw 1).toNat, (r.dw 2).toNat, fld (r.dw 3) 1 0, r.dw 4, r.dw 5)
        steps (.observeWatchpoint x) fun o => { o with watches := tput o.watches n w })) ∧
    -- ENDPOINT, ROUTE, KEYINSTALL, KEYREMOVE, ATTEST
    (r.code = 9 → s.serviceOk r = true → let e := fld (r.dw 0) 17 0
      (e = 0x3FFFF → answers (.endpoint x) 1) ∧
      (e ≠ 0x3FFFF → ∃ u : State, exec (.endpoint x) s = .next u ∧ Aside s u ∧ Answered s u x 0 [] ∧ u.link.endpoint = some e)) ∧
    (r.code = 0x0A → s.serviceOk r = true → let e := fld (r.dw 0) 17 0
      let n := fld (r.dw 0) 30 24
      ((64 < n ∨ e = 0x3FFFF) → answers (.route x) 1) ∧
      (n = 0 → e ≠ 0x3FFFF → ∃ u : State, exec (.route x) s = .next u ∧ Aside s u ∧ Answered s u x 0 [] ∧ tget u.link.routes e = none) ∧
      (0 < n → n ≤ 64 → e ≠ 0x3FFFF → (∀ i, i < n → leAt r.payload (24 + 4 * i) 4 / 32 % 2 ^ 11 = 0) →
        ∃ (u : State) (R : Peer), exec (.route x) s = .next u ∧ Aside s u ∧ Answered s u x 0 [] ∧ tget u.link.routes e = some R ∧
          R.addr = (r.payload.drop 8).take 16 ∧ R.paths.length = n ∧
          ∀ i, i < n → R.paths.getD i (0, 0) = (leAt r.payload (24 + 4 * i) 4 % 32, leAt r.payload (24 + 4 * i) 4 / 2 ^ 16))) ∧
    (r.code = 0x0C → s.serviceOk r = true → let key := (r.payload.drop 8).take 56
      (lmsTypes key = false → answers (.keyinstall x) 1) ∧
      (lmsTypes key = true → ∃ u : State, exec (.keyinstall x) s = .next u ∧ Aside s u ∧ Answered s u x 0 [] ∧
        tget u.mill0.keys (fld (r.dw 0) 2 0) = some key)) ∧
    (r.code = 0x0E → s.serviceOk r = true → ∃ u : State, exec (.keyremove x) s = .next u ∧ Aside s u ∧ Answered s u x 0 [] ∧
      tget u.mill0.keys (fld (r.dw 0) 2 0) = none) ∧
    (r.code = 0x0B → (2 ^ 20 ≤ s.mill0.signatures → answers (.attest x) 4) ∧
      (s.mill0.signatures < 2 ^ 20 → 32 ≤ r.payload.length → ∃ (u : State) (rep : List Byte), exec (.attest x) s = .next u ∧ Aside s u ∧
        Answered s u x 0 rep ∧ (rep.drop 32).take 40 =
          leBytes 2 s.grade ++ leBytes 2 s.spares ++ leBytes 4 s.gen ++ r.payload.take 32 ∧
        u.mill0.signatures = s.mill0.signatures + 1)))

/-- R306 to R311, R388: a wake that a check turns away counts in the record's error word; one that passes sets pidx and, for a
MAILBOX or EVENT queue, rings the doorbell of the record as it stands: its store carries the index, and when it has performed a MAILBOX queue's notify rank
is interrupted and an EVENT queue's port signals a vector. A host write of a line is posted to its rank's home; a host read gives
the bytes there, or poison of a marked range. The model's own choices here are those of log 27, 60 and 79. -/
def Obligations.QueuesAndHostAccesses : Prop :=
  (∀ (s : State) (q idx : Nat) (c : List Word),
    let k := s.queue q
    let wakes (i : Instr) (src : WakeSrc) (port : Nat) (ok : Bool) : Prop :=
      (∀ cause, s.wakeFault src q c idx ok = some cause → ∃ u : State, exec i s = .next u ∧ Aside s u ∧
        u.queue q = { k with rejects := (k.rejects + 1) % 2 ^ 32, cause := cause } ∧ u.bells = s.bells) ∧
      (s.wakeFault src q c idx ok = none → ∃ u : State, exec i s = .next u ∧ Aside s u ∧ u.queue q = { k with pidx := idx } ∧
        u.bells = (if k.kind = 4 then s.bells else s.bells ++ [⟨q, idx, port, k.owner % 16, k.kind, k.doorbell, k.notify, none⟩]))
    (∀ (port : Nat) (b : List Byte), port < 2 → q < 4096 → b.length = 64 →
      c = (List.range 4).map (fun i => BitVec.ofNat 64 (leNat ((b.drop (8 * i)).take 8))) →
      idx = leNat ((b.drop 32).take 4) → (b.drop 36).all (· == 0) = true → wakes (.wakeWrite port (64 * q) b) (.port port) port true) ∧
    (∀ (s' : State) (m : Nat) (r : Arrived) (part : Option Nat) (v : Word), s.arrive m = some (r, s') →
      r.msg.body = .qwake part c v → fld v 43 32 = q → fld v 31 0 = idx → fld v 63 44 = 0 →
      wakes (.qwakeArrival m) (.wafer part) 2 true)) ∧
  (∀ (s : State) (b : Bell) (rank off h : Nat) (rep xp : Bool), s.bells = [b] → b.ticket = none →
    s.winWaits b.part b.doorbell = false → s.winXlat b.part akStore b.doorbell = some (.dram rank off rep xp) → s.homeOf rank = some h →
    ∃ (u : State) (g : Msg) (p : Posted) (id : Nat), exec (.doorbellStore 0) s = .next u ∧ Aside s u ∧ u.bells = [{ b with ticket := some id }] ∧ u.net = s.net ++ [g] ∧
      g.dst = .tile h ∧ g.body = .posted p ∧ p.rank = rank ∧ p.off = off ∧ p.jidx = id ∧
      p.op = .store ([BitVec.ofNat 64 b.idx,
        BitVec.ofNat 64 (2 ^ 63 + (s.tickOf (bridgeTile (b.q / 1024)) + 1) % 2 ^ 62)].flatMap wordBytes)) ∧
  (∀ (s : State) (b : Bell) (id : Nat), s.bells = [b] → b.ticket = some id → tget s.bridgeOut id = none → id ∉ s.bridgeRefused →
    (∀ t, b.kind = 1 → s.homeOf b.notify = some t →
      ∃ u : State, exec (.doorbellInterrupt 0) s = .next u ∧ SameMem s u ∧ u.bells = [] ∧
        (u.priv (.tile t)).mip = (s.priv (.tile t)).mip ||| 0x80000#64) ∧
    (b.kind = 3 → ∃ (u : State) (n : Nat), exec (.eventMsix 0) s = .next u ∧ Aside s u ∧ u.bells = [] ∧ n < 2 ∧
      u.msix = (n, 1 + b.q % 63) :: s.msix)) ∧
  (∀ (s : State) (port addr h : Nat) (b : List Byte), port < 2 → b ≠ [] → addr % 64 + b.length ≤ 64 → addr / 2 ^ 33 < s.grade →
    s.homeOf (addr / 2 ^ 33) = some h →
    ∃ (u : State) (g : Msg) (p : Posted), exec (.hostMemWrite port addr b) s = .next u ∧ Aside s u ∧ u.net = s.net ++ [g] ∧ g.dst = .tile h ∧
      g.body = .posted p ∧ p.op = .store b ∧ p.rank = addr / 2 ^ 33 ∧ p.off = addr % 2 ^ 33) ∧
  (∀ (s : State) (port addr n h : Nat), port < 2 → 0 < n → addr % 64 + n ≤ 64 → addr / 2 ^ 33 < s.grade →
    s.homeOf (addr / 2 ^ 33) = some h → (s.tile h).shellAlive = true → s.awaiting h (addr % 2 ^ 33) = false → (s.tile h).held = [] →
    ∃ u : State, exec (.hostMemRead port addr n) s = .next u ∧ Aside s u ∧ u.hostData = (port, addr,
      if s.poison h (addr % 2 ^ 33) = 0 then some (s.mem.read (dramKey h (addr % 2 ^ 33)) n) else none) :: s.hostData)

/-! ### The link -/

namespace Sys2Proof.Machine

/-- A control packet of operation op that says b has left for the peer of connection key, in its frame (R359, R360). -/
def SentControl (s u : State) (key op : Nat) (b : List Byte) : Prop :=
  ∀ me R, s.link.endpoint = some me → tget s.link.routes (keyPeer key) = some R →
    ∃ (f : Frame) (p : Lft), u.link.frames = f :: s.link.frames ∧ f.addr = R.addr ∧ f.tc = 0x30 ∧ f.lft = p.encode ∧ p.cls = 2 ∧ p.op = op ∧
      p.dst = keyPeer key ∧ p.src = me ∧ p.spart = keyPart key ∧ p.payload = b.take 4096 ∧
      f.eth = frameOf f.port f.udp f.addr f.tc f.lft

/-- What a connection has to send or has sent without an acknowledgement, oldest first. -/
def carried (c : Conn) : List (Nat × Nat × List Byte × LOrg) :=
  (c.flight ++ c.unsent).map fun x => (x.p.op, x.p.off, x.p.payload, x.org)

/-- Connection key is open with room in its window, and its peer has a path. -/
abbrev LinkReady (s : State) (key n : Nat) : Prop :=
  s.link.endpoint.isSome = true ∧ (∃ R, tget s.link.routes (keyPeer key) = some R ∧ R.paths ≠ []) ∧
  (∃ c, tget s.link.conns key = some c ∧ c.up = true ∧ c.unsent = [] ∧ c.flight.length + n ≤ 256)

end Sys2Proof.Machine

/-- R361, R362, R364 to R370: LPOST, LARM and LCNT are checked at their bridge and answered; a context's access to a peer leaves
in its connection's sequence; a fired record whose witness is satisfied runs, one whose witness is poison ends; gaps, silence and
age resend, break and refresh. A record that ends with a completion word stands until the word has performed. The model's own choices here are those of log 81, 82, 83, 84 and 85. -/
def Obligations.LinkBridge : Prop :=
  (∀ (s s' : State) (m : Nat) (r : Arrived) (who : Who) (part : Option Nat) (h w : List Word) (v : Word), s.arrive m = some (r, s') →
    let q := fld (h.getD 4 0) 11 0
    let k := s.queue q
    let answers (x : Word) (u : State) : Prop := exec (.linkBridgeRequest m) s = .next u ∧ Aside s u ∧
      ∃ g ∈ u.net, g.dst = r.msg.src ∧ g.body = Body.linkRep who x
    (r.msg.body = .linkReq who 0 part h w v →
      (∀ c : Nat, s.handleFault part h 1 = some c → ∃ u : State, answers (BitVec.ofNat 64 (3 * 2 ^ 62 + c * 2 ^ 32)) u ∧
        u.queue q = { k with rejects := (k.rejects + 1) % 2 ^ 32, cause := c }) ∧
      (s.handleFault part h 1 = none → recordOk s.grade w = false → ∃ u : State, answers (BitVec.ofNat 64 (3 * 2 ^ 62 + 10 * 2 ^ 32)) u ∧
        u.queue q = { k with rejects := (k.rejects + 1) % 2 ^ 32, cause := 10 }) ∧
      (s.handleFault part h 1 = none → recordOk s.grade w = true → (∀ x ∈ s.link.works, x.q ≠ q) →
        s.winWaits (part.getD 0) (ptrPlus k.base (64 * ((k.serial + 2 ^ 32 - 1) % 2 ^ 32 % k.length))) = false →
        ∃ u : State, answers (BitVec.ofNat 64 k.serial) u ∧ (u.queue q).serial = (k.serial + 1) % 2 ^ 32 ∧
          u.link.works = s.link.works ++ [⟨q, k.serial, part.getD 0, w, false, 0, [], 0, 0, 0, none, k.gen, false, none⟩])) ∧
    (r.msg.body = .linkReq who 1 part h w v → fld v 63 11 = 0 →
      let n := fld v 9 0
      let R := s.region n
      ((part = none ∨ ∃ p : Nat, part = some p ∧ inLanding p n = false) → (v.getLsbD 10 = true ∨ descOk w = true) →
        ∃ u : State, answers (BitVec.ofNat 64 (2 ^ 63 + R.gen)) u) ∧
      (∀ p : Nat, part = some p → inLanding p n = true → (∀ x ∈ s.link.placing, x.region ≠ some n) →
        (v.getLsbD 10 = true → ∃ u : State, answers (BitVec.ofNat 64 R.gen) u ∧ u.region n = { R with armed := false }) ∧
        (v.getLsbD 10 = false → descOk w = true → (∀ t : Nat, R.lastArm = some t → t + 17 ≤ s.tickOf (bridgeTile 0)) →
          ∃ u : State, answers (BitVec.ofNat 64 (R.gen % 255 + 1)) u ∧ u.region n =
            ⟨true, R.gen % 255 + 1, w.getD 0 0, fld (w.getD 1 0) 34 32, fld (w.getD 1 0) 24 0, w.getD 2 0,
              some (s.tickOf (bridgeTile 0))⟩))) ∧
    (r.msg.body = .linkReq who 2 part h w v →
      (s.handleFault part h 2 = none → ∃ u : State, answers (BitVec.ofNat 64 (s.pending q * 2 ^ 42 + k.pidx)) u) ∧
      (∀ c : Nat, s.handleFault part h 2 = some c → ∃ u : State, answers (BitVec.ofNat 64 (3 * 2 ^ 62 + c)) u)) ∧
    (∀ (ptr : Word) (op : ProxOp) (code : Nat) (b : List Byte), r.msg.body = .peerReq who part ptr op →
      ((∃ n, op = .load n) ∧ code = 1 ∧ b = Config.readBytes 1 ∨
        ∃ a v cmp, op = .ret a v cmp ∧ code = 4 ∧ b = Config.atomicBytes a.code v cmp) →
      let key := linkKey (part.getD 0) (peerEp ptr)
      let org := LOrg.read who ptr r.ret s'.clock
      LinkReady s key 1 → ∃ u : State, exec (.linkBridgeRequest m) s = .next u ∧ Aside s u ∧
        carried (u.conn key) = carried (s.conn key) ++ [(code, peerOff ptr, b.take 4096, org)] ∧
        (u.conn key).next = ((s.conn key).next + 1) % 2 ^ 32 ∧ (∃ i : Nat, tget u.link.reads i = some (key, org))) ∧
    (∀ (ptr : Word) (t j code : Nat) (op : PostOp) (b : List Byte), r.msg.body = .peerPost t j part ptr op → s.peerBehind r.msg ptr = false →
      (op = .store b ∧ b ≠ [] ∧ b.length ≤ 4096 ∧ code = 0 ∨
        ∃ a v, op = .atomic a v ∧ code = 3 ∧ b = (Config.atomicBytes a.code v 0).take 4096) →
      let key := linkKey (part.getD 0) (peerEp ptr)
      LinkReady s key 1 → ∃ u : State, exec (.linkBridgeRequest m) s = .next u ∧ Aside s u ∧
        carried (u.conn key) = carried (s.conn key) ++ [(code, peerOff ptr, b, LOrg.post t j r.ret s'.clock)])) ∧
  (∀ (s s' : State) (m tl c acc : Nat) (r : Arrived) (w : Who) (cn : Counts) (x old pc : Word) (rd : XReg) (l : List Producer),
    s.arrive m = some (r, s') → w.agent = .tile tl → w.slot = c → c < 16 → rd ≠ 0 → r.msg.body = .linkRep w x →
    (s.ctx (.tile tl) c).pend = ⟨w.id, .x rd, cn, old, pc, .answer, acc⟩ :: l →
    ∃ t : State, exec (.linkBridgeReply m) s = .next t ∧ SameMem s t ∧ (t.ctx (.tile tl) c).pend = l ∧
      ∀ q : XReg, (t.ctx (.tile tl) c).x q = if q = rd then x else (s.ctx (.tile tl) c).x q) ∧
  (∀ (s : State) (q : Nat) (w : Work), s.startable q = some w → s.wordDue q = false →
    (s.checkAt (.bridge (q / 1024)) w.win = .poison → s.link.works = [w] →
      (w.cword = 0 → ∃ u : State, exec (.linkRecordFire q) s = .next u ∧ Aside s u ∧ u.link.works = []) ∧
      (∀ rank off t rep xp, w.cword ≠ 0 → s.winWaits w.part w.cword = false →
        s.winXlat w.part akStore w.cword = some (.dram rank off rep xp) → s.homeOf rank = some t →
        ∃ (u : State) (g : Msg) (po : Posted), exec (.linkRecordFire q) s = .next u ∧ Aside s u ∧ u.net = s.net ++ [g] ∧ g.dst = .tile t ∧
          g.body = .posted po ∧ po.rank = rank ∧ po.off = off ∧
          po.op = .store (wordBytes (BitVec.ofNat 64 (4 * 2 ^ 56 + w.serial)) ++ wordBytes 0) ∧
          u.link.works = [{ w with status := some 4, flight := [], word := some po.jidx }])) ∧
    (∀ b : List Byte, s.checkAt (.bridge (q / 1024)) w.win = .satisfied → w.op = 0 → w.cls = 1 →
      s.readPieces w.part (spanPieces w.local_ w.len) = .ok b → b ≠ [] → b.length ≤ 4096 →
      let key := linkKey w.part w.peer
      LinkReady s key 1 → ∃ u : State, exec (.linkRecordFire q) s = .next u ∧ Aside s u ∧
        carried (u.conn key) = carried (s.conn key) ++ [(0, peerOff w.remote, b, w.org)] ∧
        ∃ w' ∈ u.link.works, w'.is w.q w.serial w.qgen = true ∧ w'.words = w.words ∧ w'.running = true ∧ w'.left = 1)) ∧
  (∀ (s : State) (key t0 : Nat) (M : RxMsg), tget s.link.rxMsgs key = some M → M.gap = some t0 → M.released = false →
    let peer := key / 2 ^ 32 % 2 ^ 18
    t0 + 16 ≤ s.linkTick peer →
    ∃ u : State, exec (.classSGapTimeout key) s = .next u ∧ Aside s u ∧
      SentControl s u (linkKey (key / 2 ^ 50) peer) 8 (Config.nackBytes true 0 (key % 2 ^ 32)
        ((List.range (M.got.foldl max 0)).filter fun j => !M.got.contains j)) ∧
      tget u.link.rxMsgs key = some { M with gap := some (s.linkTick peer) }) ∧
  (∀ (s : State) (q serial : Nat) (w : Work) (x : LSent), s.link.works = [w] → w.q = q → w.serial = serial → w.running = true →
    w.status = none → w.cword = 0 → w.flight = [x] → w.progress + 256 ≤ s.linkTick w.dest →
    (x.resends < 16 → ∃ (u : State) (w' : Work) (y : LSent), exec (.classSProgressTimeout q serial) s = .next u ∧ Aside s u ∧ u.link.works = [w'] ∧
      w'.flight = [y] ∧ y.p.payload = x.p.payload ∧ y.p.pkt = x.p.pkt ∧ y.p.seq = x.p.seq ∧ y.resends = x.resends + 1) ∧
    (16 ≤ x.resends → ∃ u : State, exec (.classSProgressTimeout q serial) s = .next u ∧ Aside s u ∧ u.link.works = [])) ∧
  (∀ (s : State) (key : Nat) (c : Conn) (x : LSent), tget s.link.conns key = some c → c.setup = none → c.flight = [x] →
    x.at_ + 128 ≤ s.linkTick (keyPeer key) →
    (x.resends < 16 → ∃ (u : State) (y : LSent), exec (.classMResendTimeout key) s = .next u ∧ Aside s u ∧ (u.conn key).flight = [y] ∧
      y.p.payload = x.p.payload ∧ y.p.seq = x.p.seq ∧ y.resends = x.resends + 1) ∧
    (16 ≤ x.resends → ∃ u : State, exec (.classMResendTimeout key) s = .next u ∧ Aside s u ∧ tget u.link.conns key = none)) ∧
  (∀ (s : State) (key : Nat) (c : Conn), tget s.link.conns key = some c → c.setup = none → s.link.endpoint.isSome = true →
    (∀ t : Nat, c.setAt = some t → t + 2 ^ 20 ≤ s.linkTick (keyPeer key)) →
    ∃ u : State, exec (.connectionSetupRefresh key) s = .next u ∧ Aside s u ∧
      SentControl s u key 9 (Config.setupBytes false (!c.up) (s.linkTick (keyPeer key))) ∧
      (u.conn key).setAt = some (s.linkTick (keyPeer key)) ∧ (u.conn key).setup.isSome = true)

/-- R362, R363, R365, R368, R370: a Class M packet of a peer in its sequence advances it: a write or posted atomic that its region
accepts becomes a posted access of the bridge, placed for the region's slot; a read or returning atomic is served and its reply
sent; a trigger wakes its queue; a reply goes to the context that asked; one that no region accepts is answered with a NACK, and a
duplicate is acknowledged again. Acknowledgements settle what they name, NACKs resend or refuse it, a set-up packet gives the
peer's difference and opens or answers. The model's own choices here are those of log 26, 81, 82, 83, 84 and 85. -/
def Obligations.LinkPackets : Prop :=
  (∀ (s s1 : State) (b op : Nat) (frame : List Byte) (p : Lft) (i : Instr), b < 4 → s.frameIn op frame = .packet p s1 →
    let key := rxKey p
    let R := s.region (p.off / 2 ^ 24)
    (tget s.link.rxConns key).isSome = true →
    let refused (u : State) : Prop := SentControl s u key 8 (Config.nackBytes false 1 p.seq [])
    ((s.rx key).ahead = [] → (s.rx key).expect = p.seq → p.seq ∉ (s.rx key).bad → p.seq ∉ s.link.placingOn key → p.cls = 1 →
      let takes (u : State) : Prop := exec i s = .next u ∧ (u.rx key).expect = (p.seq + 1) % 2 ^ 32
      (op = 0 → i = .lftWrite b frame →
        (s.accepts p p.payload.length 0 = none → ∃ u : State, takes u ∧ Aside s u ∧ refused u) ∧
        (∀ part n ptr rank off t rep xp, s.accepts p p.payload.length 0 = some (part, n, R, ptr) → p.payload ≠ [] →
          ptrAddr ptr % 65536 + p.payload.length ≤ 65536 → s.winWaits part ptr = false → s.winXlat part akStore ptr = some (.dram rank off rep xp) →
          s.homeOf rank = some t → ∃ (u : State) (g : Msg) (po : Posted), takes u ∧ Aside s u ∧ u.net = s.net ++ [g] ∧ g.dst = .tile t ∧ g.body = .posted po ∧
            po.rank = rank ∧ po.off = off ∧ po.op = .store p.payload ∧ u.link.placing = s.link.placing ++
              [⟨some po.jidx, p.payload.length, part, R.bslot, some n, some p, none, false⟩])) ∧
      (op = 1 → i = .lftReadRequest b frame →
        (s.accepts p p.total 1 = none → ∃ u : State, takes u ∧ Aside s u ∧ refused u) ∧
        (∀ part n ptr bytes, s.accepts p p.total 1 = some (part, n, R, ptr) →
          s.readPieces part (spanPieces ptr p.total) = .ok bytes →
          (∃ Q : Peer, tget s.link.routes (keyPeer (linkKey part p.src)) = some Q ∧ Q.paths ≠ []) →
          ∃ u : State, takes u ∧ Aside s u ∧
            (if Config.requestClass p.payload % 2 = 0 then
              ∃ w ∈ u.link.works, w.running = true ∧ (w.flight.map (·.p.payload)).flatten = bytes ∧
                ∀ x ∈ w.flight, x.p.cls = 0 ∧ x.p.op = 2 ∧ x.p.dst = p.src
             else ∃ l : List (Nat × Nat × List Byte × LOrg), carried (u.conn (linkKey part p.src)) = carried (s.conn (linkKey part p.src)) ++ l ∧
              (l.map (·.2.2.1)).flatten = bytes ∧ ∀ x ∈ l, x.1 = 2))) ∧
      (op = 3 → i = .lftPostedAtomic b frame →
        ∀ part n ptr rank off t rep xp, s.accepts p 8 0 = some (part, n, R, ptr) → s.winWaits part ptr = false →
          s.winXlat part akStore ptr = some (.dram rank off rep xp) → off % 8 = 0 → s.homeOf rank = some t →
          ∃ (u : State) (g : Msg) (po : Posted), takes u ∧ Aside s u ∧ u.net = s.net ++ [g] ∧ g.dst = .tile t ∧ g.body = .posted po ∧ po.rank = rank ∧
            po.off = off ∧ po.op = .atomic (atomOf (Config.atomicInfo p.payload).1) (Config.atomicInfo p.payload).2.1 ∧
            u.link.placing = s.link.placing ++ [⟨some po.jidx, 8, part, R.bslot, some n, some p, none, false⟩]) ∧
      (op = 4 → i = .lftReturningAtomic b frame →
        ∀ part n ptr off t, s.accepts p 8 2 = some (part, n, R, ptr) → s.linkPlace part akRetS ptr = .ok (t, off) → off % 8 = 0 →
          (s.tile t).obs.watches = [] → (∃ Q : Peer, tget s.link.routes (keyPeer (linkKey part p.src)) = some Q ∧ Q.paths ≠ []) →
          let mem := s.rdWord (dramKey t off)
          let a := Config.atomicInfo p.payload
          ∃ u : State, takes u ∧ OnlyBytes s u (dramKey t off) 8 ∧ u.rdWord (dramKey t off) = (retOf a.1).apply mem a.2.1 a.2.2 ∧
            carried (u.conn (linkKey part p.src)) = carried (s.conn (linkKey part p.src)) ++ [(5, p.off, wordBytes mem, .none)]) ∧
      (∀ ref who ptr ret since, ((op = 2 ∧ i = .lftReadReply b frame ref) ∨ (op = 5 ∧ i = .lftAtomicReply b frame ref)) →
        s.readOf ref p.src = some (.read who ptr ret since) →
        ∃ (u : State) (g : Msg) (ack : List Byte), takes u ∧ Aside s u ∧ u.net = s.net ++ [g] ∧ g.dst = ret.node ∧
          g.body = .proxyRep who 0 (.value (BitVec.ofNat 64 (leNat (p.payload.take 8)))) ∧ tget u.link.reads ref = none ∧
          SentControl s u key 7 ack) ∧
      (op = 6 → i = .lftTrigger b frame → p.payload.length = 64 → (p.payload.drop 36).all (· == 0) = true →
        let c := (List.range 4).map fun j => BitVec.ofNat 64 (leNat ((p.payload.drop (8 * j)).take 8))
        let idx := leNat ((p.payload.drop 32).take 4)
        ∀ q, (List.range 4096).find? (fun q => (s.queue q).state != 0 && { s.queue q with state := 1 }.matches_ c) = some q →
          ∃ (u : State) (ack : List Byte), takes u ∧ Aside s u ∧ SentControl s u key 7 ack ∧
            u.queue q = match s.wakeFault .link q c idx true with
              | none => { s.queue q with pidx := idx }
              | some cause => { s.queue q with rejects := ((s.queue q).rejects + 1) % 2 ^ 32, cause := cause })) ∧
    (op = 0 → p.cls = 1 → 2 ^ 31 ≤ (p.seq + 2 ^ 32 - (s.rx key).expect) % 2 ^ 32 → p.seq ∉ s.link.placingOn key →
      ∃ (u : State) (ack : List Byte), exec (.lftWrite b frame) s = .next u ∧ Aside s u ∧ u.rx key = s.rx key ∧ u.net = s.net ∧
        if p.seq ∈ (s.rx key).bad then refused u else SentControl s u key 7 ack)) ∧
  (∀ (s s1 : State) (b : Nat) (frame : List Byte) (p : Lft), b < 4 → s.frameIn 7 frame = .packet p s1 →
    let key := rxKey p
    (∀ upto more c x t j ret since e, Config.ackInfo p.payload = (false, upto, more) → tget s.link.conns key = some c → c.unsent = [] →
      c.flight = [x] → (seqLe x.p.seq upto = true ∨ x.p.seq ∈ more) → x.org = .post t j ret since → t ≠ 4095 → s.peerEntry t j = some e →
      ∃ (u : State) (g : Msg), exec (.lftAck b frame) s = .next u ∧ Aside s u ∧ (u.conn key).flight = [] ∧ u.net = s.net ++ [g] ∧ g.dst = ret.node ∧
        g.body = .settled j (s.accOf t (.peer e.addr)) true) ∧
    (∀ upto more w, Config.ackInfo p.payload = (true, upto, more) → s.link.works = [w] → s.liveMsg key upto = some w → w.cword = 0 →
      ∃ u : State, exec (.lftAck b frame) s = .next u ∧ Aside s u ∧ u.link.works = [])) ∧
  (∀ (s s1 : State) (b : Nat) (frame : List Byte) (p : Lft), b < 4 → s.frameIn 8 frame = .packet p s1 →
    let key := rxKey p
    ∀ code id asked c x, Config.nackInfo p.payload = (false, code, id, asked) → tget s.link.conns key = some c → c.unsent = [] →
      c.flight = [x] →
      (code = 0 → x.p.seq ∈ asked → x.resends < 16 → ∃ (u : State) (y : LSent), exec (.lftNack b frame) s = .next u ∧ Aside s u ∧
        (u.conn key).flight = [y] ∧ y.p.payload = x.p.payload ∧ y.p.seq = x.p.seq ∧ y.resends = x.resends + 1) ∧
      (∀ t j ret since e, code ≠ 0 → x.p.seq = id → x.org = .post t j ret since → t ≠ 4095 → s.peerEntry t j = some e →
        ∃ (u : State) (g : Msg) (n : Nat), exec (.lftNack b frame) s = .next u ∧ Aside s u ∧ (u.conn key).flight = [] ∧ u.net = s.net ++ [g] ∧ g.dst = ret.node ∧
          g.body = .refusal j 4 4095 n e.addr e.gtid (s.accOf t (.peer e.addr)))) ∧
  (∀ (s s1 : State) (b : Nat) (frame : List Byte) (p : Lft) (opens : Bool) (tick : Nat), b < 4 →
    s.frameIn 9 frame = .packet p s1 →
    let key := rxKey p
    (∀ c, Config.setupInfo p.payload = (true, opens, tick) → tget s.link.conns key = some c → c.unsent = [] →
      ∃ u : State, exec (.lftSetup b frame) s = .next u ∧ Aside s u ∧ (u.conn key).up = true ∧ (u.conn key).setup = none ∧
        tget u.link.diffs (keyPeer key) = some ((s.linkTick (keyPeer key) + 2 ^ 16 - tick % 2 ^ 16) % 2 ^ 16)) ∧
    (Config.setupInfo p.payload = (false, opens, tick) →
      (opens = true → (tget s.link.rxConns key).isSome = true ∨ s.link.room = true) →
      ∃ u : State, exec (.lftSetup b frame) s = .next u ∧ Aside s u ∧
        SentControl s u key 9 (Config.setupBytes true opens (s.linkTick (keyPeer key))) ∧
        (opens = true → u.rx key = ⟨0, [], [], s.linkTick (keyPeer key)⟩) ∧
        tget u.link.diffs (keyPeer key) = some ((s.linkTick (keyPeer key) + 2 ^ 16 - tick % 2 ^ 16) % 2 ^ 16)))
end

