-- ==== Sys2Proof/Laws/State.lean ====
section
/-! SUPPORT. One lemma per field of State and per update: what the update leaves, and what it writes. -/
namespace Sys2Proof.Machine

variable (s : State) (a : Agent) (c t f k : Nat) (T : Tile) (x : Ctx) (b : List Byte) (m n : Node) (r : Option Nat)
  (d : Nat) (e : Ret) (y : Body) (g : Tile → Tile) (h : Ctx → Ctx) (p : Priv → Priv) (q : Field → Field)

@[simp] theorem State.setTile_focus : (s.setTile t T).focus = s.focus := rfl
@[simp] theorem State.setTile_agenda : (s.setTile t T).agenda = s.agenda := rfl
@[simp] theorem State.setTile_nextId : (s.setTile t T).nextId = s.nextId := rfl
@[simp] theorem State.setTile_freeCount : (s.setTile t T).freeCount = s.freeCount := rfl
@[simp] theorem State.setTile_clock : (s.setTile t T).clock = s.clock := rfl
@[simp] theorem State.setTile_ns : (s.setTile t T).ns = s.ns := rfl
@[simp] theorem State.setTile_grade : (s.setTile t T).grade = s.grade := rfl
@[simp] theorem State.setTile_fusedBad : (s.setTile t T).fusedBad = s.fusedBad := rfl
@[simp] theorem State.setTile_fusedSpare : (s.setTile t T).fusedSpare = s.fusedSpare := rfl
@[simp] theorem State.setTile_mem : (s.setTile t T).mem = s.mem := rfl
@[simp] theorem State.setTile_fields : (s.setTile t T).fields = s.fields := rfl
@[simp] theorem State.setTile_rankTile : (s.setTile t T).rankTile = s.rankTile := rfl
@[simp] theorem State.setTile_baseMap : (s.setTile t T).baseMap = s.baseMap := rfl
@[simp] theorem State.setTile_gen : (s.setTile t T).gen = s.gen := rfl
@[simp] theorem State.setTile_standIn : (s.setTile t T).standIn = s.standIn := rfl
@[simp] theorem State.setTile_lost : (s.setTile t T).lost = s.lost := rfl
@[simp] theorem State.setTile_net : (s.setTile t T).net = s.net := rfl
@[simp] theorem State.setTile_asks : (s.setTile t T).asks = s.asks := rfl
@[simp] theorem State.setTile_parts : (s.setTile t T).parts = s.parts := rfl
@[simp] theorem State.setTile_mills : (s.setTile t T).mills = s.mills := rfl
@[simp] theorem State.setTile_hostWrites : (s.setTile t T).hostWrites = s.hostWrites := rfl
@[simp] theorem State.setTile_bridgeOut : (s.setTile t T).bridgeOut = s.bridgeOut := rfl
@[simp] theorem State.setTile_bridgeRefused : (s.setTile t T).bridgeRefused = s.bridgeRefused := rfl
@[simp] theorem State.setTile_sramTags : (s.setTile t T).sramTags = s.sramTags := rfl
@[simp] theorem State.setTile_mill0 : (s.setTile t T).mill0 = s.mill0 := rfl
@[simp] theorem State.setTile_queues : (s.setTile t T).queues = s.queues := rfl
@[simp] theorem State.setTile_bells : (s.setTile t T).bells = s.bells := rfl
@[simp] theorem State.setTile_boxes : (s.setTile t T).boxes = s.boxes := rfl
@[simp] theorem State.setTile_msixTables : (s.setTile t T).msixTables = s.msixTables := rfl
@[simp] theorem State.setTile_msix : (s.setTile t T).msix = s.msix := rfl
@[simp] theorem State.setTile_hostData : (s.setTile t T).hostData = s.hostData := rfl
@[simp] theorem State.setTile_suspects : (s.setTile t T).suspects = s.suspects := rfl
@[simp] theorem State.setTile_points : (s.setTile t T).points = s.points := rfl
@[simp] theorem State.setTile_link : (s.setTile t T).link = s.link := rfl
@[simp] theorem State.setTile_tiles : (s.setTile t T).tiles = tput s.tiles t T := rfl

@[simp] theorem State.modTile_focus : (s.modTile t g).focus = s.focus := rfl
@[simp] theorem State.modTile_agenda : (s.modTile t g).agenda = s.agenda := rfl
@[simp] theorem State.modTile_nextId : (s.modTile t g).nextId = s.nextId := rfl
@[simp] theorem State.modTile_freeCount : (s.modTile t g).freeCount = s.freeCount := rfl
@[simp] theorem State.modTile_clock : (s.modTile t g).clock = s.clock := rfl
@[simp] theorem State.modTile_ns : (s.modTile t g).ns = s.ns := rfl
@[simp] theorem State.modTile_grade : (s.modTile t g).grade = s.grade := rfl
@[simp] theorem State.modTile_fusedBad : (s.modTile t g).fusedBad = s.fusedBad := rfl
@[simp] theorem State.modTile_fusedSpare : (s.modTile t g).fusedSpare = s.fusedSpare := rfl
@[simp] theorem State.modTile_mem : (s.modTile t g).mem = s.mem := rfl
@[simp] theorem State.modTile_fields : (s.modTile t g).fields = s.fields := rfl
@[simp] theorem State.modTile_rankTile : (s.modTile t g).rankTile = s.rankTile := rfl
@[simp] theorem State.modTile_baseMap : (s.modTile t g).baseMap = s.baseMap := rfl
@[simp] theorem State.modTile_gen : (s.modTile t g).gen = s.gen := rfl
@[simp] theorem State.modTile_standIn : (s.modTile t g).standIn = s.standIn := rfl
@[simp] theorem State.modTile_lost : (s.modTile t g).lost = s.lost := rfl
@[simp] theorem State.modTile_net : (s.modTile t g).net = s.net := rfl
@[simp] theorem State.modTile_asks : (s.modTile t g).asks = s.asks := rfl
@[simp] theorem State.modTile_parts : (s.modTile t g).parts = s.parts := rfl
@[simp] theorem State.modTile_mills : (s.modTile t g).mills = s.mills := rfl
@[simp] theorem State.modTile_hostWrites : (s.modTile t g).hostWrites = s.hostWrites := rfl
@[simp] theorem State.modTile_bridgeOut : (s.modTile t g).bridgeOut = s.bridgeOut := rfl
@[simp] theorem State.modTile_bridgeRefused : (s.modTile t g).bridgeRefused = s.bridgeRefused := rfl
@[simp] theorem State.modTile_sramTags : (s.modTile t g).sramTags = s.sramTags := rfl
@[simp] theorem State.modTile_mill0 : (s.modTile t g).mill0 = s.mill0 := rfl
@[simp] theorem State.modTile_queues : (s.modTile t g).queues = s.queues := rfl
@[simp] theorem State.modTile_bells : (s.modTile t g).bells = s.bells := rfl
@[simp] theorem State.modTile_boxes : (s.modTile t g).boxes = s.boxes := rfl
@[simp] theorem State.modTile_msixTables : (s.modTile t g).msixTables = s.msixTables := rfl
@[simp] theorem State.modTile_msix : (s.modTile t g).msix = s.msix := rfl
@[simp] theorem State.modTile_hostData : (s.modTile t g).hostData = s.hostData := rfl
@[simp] theorem State.modTile_suspects : (s.modTile t g).suspects = s.suspects := rfl
@[simp] theorem State.modTile_points : (s.modTile t g).points = s.points := rfl
@[simp] theorem State.modTile_link : (s.modTile t g).link = s.link := rfl
@[simp] theorem State.modTile_tiles : (s.modTile t g).tiles = tput s.tiles t (g (s.tile t)) := rfl

@[simp] theorem State.modField_focus : (s.modField f q).focus = s.focus := rfl
@[simp] theorem State.modField_agenda : (s.modField f q).agenda = s.agenda := rfl
@[simp] theorem State.modField_nextId : (s.modField f q).nextId = s.nextId := rfl
@[simp] theorem State.modField_freeCount : (s.modField f q).freeCount = s.freeCount := rfl
@[simp] theorem State.modField_clock : (s.modField f q).clock = s.clock := rfl
@[simp] theorem State.modField_ns : (s.modField f q).ns = s.ns := rfl
@[simp] theorem State.modField_grade : (s.modField f q).grade = s.grade := rfl
@[simp] theorem State.modField_fusedBad : (s.modField f q).fusedBad = s.fusedBad := rfl
@[simp] theorem State.modField_fusedSpare : (s.modField f q).fusedSpare = s.fusedSpare := rfl
@[simp] theorem State.modField_mem : (s.modField f q).mem = s.mem := rfl
@[simp] theorem State.modField_tiles : (s.modField f q).tiles = s.tiles := rfl
@[simp] theorem State.modField_rankTile : (s.modField f q).rankTile = s.rankTile := rfl
@[simp] theorem State.modField_baseMap : (s.modField f q).baseMap = s.baseMap := rfl
@[simp] theorem State.modField_gen : (s.modField f q).gen = s.gen := rfl
@[simp] theorem State.modField_standIn : (s.modField f q).standIn = s.standIn := rfl
@[simp] theorem State.modField_lost : (s.modField f q).lost = s.lost := rfl
@[simp] theorem State.modField_net : (s.modField f q).net = s.net := rfl
@[simp] theorem State.modField_asks : (s.modField f q).asks = s.asks := rfl
@[simp] theorem State.modField_parts : (s.modField f q).parts = s.parts := rfl
@[simp] theorem State.modField_mills : (s.modField f q).mills = s.mills := rfl
@[simp] theorem State.modField_hostWrites : (s.modField f q).hostWrites = s.hostWrites := rfl
@[simp] theorem State.modField_bridgeOut : (s.modField f q).bridgeOut = s.bridgeOut := rfl
@[simp] theorem State.modField_bridgeRefused : (s.modField f q).bridgeRefused = s.bridgeRefused := rfl
@[simp] theorem State.modField_sramTags : (s.modField f q).sramTags = s.sramTags := rfl
@[simp] theorem State.modField_mill0 : (s.modField f q).mill0 = s.mill0 := rfl
@[simp] theorem State.modField_queues : (s.modField f q).queues = s.queues := rfl
@[simp] theorem State.modField_bells : (s.modField f q).bells = s.bells := rfl
@[simp] theorem State.modField_boxes : (s.modField f q).boxes = s.boxes := rfl
@[simp] theorem State.modField_msixTables : (s.modField f q).msixTables = s.msixTables := rfl
@[simp] theorem State.modField_msix : (s.modField f q).msix = s.msix := rfl
@[simp] theorem State.modField_hostData : (s.modField f q).hostData = s.hostData := rfl
@[simp] theorem State.modField_suspects : (s.modField f q).suspects = s.suspects := rfl
@[simp] theorem State.modField_points : (s.modField f q).points = s.points := rfl
@[simp] theorem State.modField_link : (s.modField f q).link = s.link := rfl
@[simp] theorem State.modField_fields : (s.modField f q).fields = tput s.fields f (q (s.field f)) := rfl

@[simp] theorem State.wrMem_focus : (s.wrMem k b).focus = s.focus := rfl
@[simp] theorem State.wrMem_agenda : (s.wrMem k b).agenda = s.agenda := rfl
@[simp] theorem State.wrMem_nextId : (s.wrMem k b).nextId = s.nextId := rfl
@[simp] theorem State.wrMem_freeCount : (s.wrMem k b).freeCount = s.freeCount := rfl
@[simp] theorem State.wrMem_clock : (s.wrMem k b).clock = s.clock := rfl
@[simp] theorem State.wrMem_ns : (s.wrMem k b).ns = s.ns := rfl
@[simp] theorem State.wrMem_grade : (s.wrMem k b).grade = s.grade := rfl
@[simp] theorem State.wrMem_fusedBad : (s.wrMem k b).fusedBad = s.fusedBad := rfl
@[simp] theorem State.wrMem_fusedSpare : (s.wrMem k b).fusedSpare = s.fusedSpare := rfl
@[simp] theorem State.wrMem_tiles : (s.wrMem k b).tiles = s.tiles := rfl
@[simp] theorem State.wrMem_fields : (s.wrMem k b).fields = s.fields := rfl
@[simp] theorem State.wrMem_rankTile : (s.wrMem k b).rankTile = s.rankTile := rfl
@[simp] theorem State.wrMem_baseMap : (s.wrMem k b).baseMap = s.baseMap := rfl
@[simp] theorem State.wrMem_gen : (s.wrMem k b).gen = s.gen := rfl
@[simp] theorem State.wrMem_standIn : (s.wrMem k b).standIn = s.standIn := rfl
@[simp] theorem State.wrMem_lost : (s.wrMem k b).lost = s.lost := rfl
@[simp] theorem State.wrMem_net : (s.wrMem k b).net = s.net := rfl
@[simp] theorem State.wrMem_asks : (s.wrMem k b).asks = s.asks := rfl
@[simp] theorem State.wrMem_parts : (s.wrMem k b).parts = s.parts := rfl
@[simp] theorem State.wrMem_mills : (s.wrMem k b).mills = s.mills := rfl
@[simp] theorem State.wrMem_hostWrites : (s.wrMem k b).hostWrites = s.hostWrites := rfl
@[simp] theorem State.wrMem_bridgeOut : (s.wrMem k b).bridgeOut = s.bridgeOut := rfl
@[simp] theorem State.wrMem_bridgeRefused : (s.wrMem k b).bridgeRefused = s.bridgeRefused := rfl
@[simp] theorem State.wrMem_sramTags : (s.wrMem k b).sramTags = s.sramTags := rfl
@[simp] theorem State.wrMem_mill0 : (s.wrMem k b).mill0 = s.mill0 := rfl
@[simp] theorem State.wrMem_queues : (s.wrMem k b).queues = s.queues := rfl
@[simp] theorem State.wrMem_bells : (s.wrMem k b).bells = s.bells := rfl
@[simp] theorem State.wrMem_boxes : (s.wrMem k b).boxes = s.boxes := rfl
@[simp] theorem State.wrMem_msixTables : (s.wrMem k b).msixTables = s.msixTables := rfl
@[simp] theorem State.wrMem_msix : (s.wrMem k b).msix = s.msix := rfl
@[simp] theorem State.wrMem_hostData : (s.wrMem k b).hostData = s.hostData := rfl
@[simp] theorem State.wrMem_suspects : (s.wrMem k b).suspects = s.suspects := rfl
@[simp] theorem State.wrMem_points : (s.wrMem k b).points = s.points := rfl
@[simp] theorem State.wrMem_link : (s.wrMem k b).link = s.link := rfl
@[simp] theorem State.wrMem_mem : (s.wrMem k b).mem = s.mem.write k b := rfl

@[simp] theorem State.send_focus : (s.send m n r d y).focus = s.focus := rfl
@[simp] theorem State.send_agenda : (s.send m n r d y).agenda = s.agenda := rfl
@[simp] theorem State.send_freeCount : (s.send m n r d y).freeCount = s.freeCount := rfl
@[simp] theorem State.send_clock : (s.send m n r d y).clock = s.clock := rfl
@[simp] theorem State.send_ns : (s.send m n r d y).ns = s.ns := rfl
@[simp] theorem State.send_grade : (s.send m n r d y).grade = s.grade := rfl
@[simp] theorem State.send_fusedBad : (s.send m n r d y).fusedBad = s.fusedBad := rfl
@[simp] theorem State.send_fusedSpare : (s.send m n r d y).fusedSpare = s.fusedSpare := rfl
@[simp] theorem State.send_mem : (s.send m n r d y).mem = s.mem := rfl
@[simp] theorem State.send_tiles : (s.send m n r d y).tiles = s.tiles := rfl
@[simp] theorem State.send_fields : (s.send m n r d y).fields = s.fields := rfl
@[simp] theorem State.send_rankTile : (s.send m n r d y).rankTile = s.rankTile := rfl
@[simp] theorem State.send_baseMap : (s.send m n r d y).baseMap = s.baseMap := rfl
@[simp] theorem State.send_gen : (s.send m n r d y).gen = s.gen := rfl
@[simp] theorem State.send_standIn : (s.send m n r d y).standIn = s.standIn := rfl
@[simp] theorem State.send_lost : (s.send m n r d y).lost = s.lost := rfl
@[simp] theorem State.send_asks : (s.send m n r d y).asks = s.asks := rfl
@[simp] theorem State.send_parts : (s.send m n r d y).parts = s.parts := rfl
@[simp] theorem State.send_mills : (s.send m n r d y).mills = s.mills := rfl
@[simp] theorem State.send_hostWrites : (s.send m n r d y).hostWrites = s.hostWrites := rfl
@[simp] theorem State.send_bridgeOut : (s.send m n r d y).bridgeOut = s.bridgeOut := rfl
@[simp] theorem State.send_bridgeRefused : (s.send m n r d y).bridgeRefused = s.bridgeRefused := rfl
@[simp] theorem State.send_sramTags : (s.send m n r d y).sramTags = s.sramTags := rfl
@[simp] theorem State.send_mill0 : (s.send m n r d y).mill0 = s.mill0 := rfl
@[simp] theorem State.send_queues : (s.send m n r d y).queues = s.queues := rfl
@[simp] theorem State.send_bells : (s.send m n r d y).bells = s.bells := rfl
@[simp] theorem State.send_boxes : (s.send m n r d y).boxes = s.boxes := rfl
@[simp] theorem State.send_msixTables : (s.send m n r d y).msixTables = s.msixTables := rfl
@[simp] theorem State.send_msix : (s.send m n r d y).msix = s.msix := rfl
@[simp] theorem State.send_hostData : (s.send m n r d y).hostData = s.hostData := rfl
@[simp] theorem State.send_suspects : (s.send m n r d y).suspects = s.suspects := rfl
@[simp] theorem State.send_points : (s.send m n r d y).points = s.points := rfl
@[simp] theorem State.send_link : (s.send m n r d y).link = s.link := rfl
@[simp] theorem State.send_net : (s.send m n r d y).net = s.net ++ [⟨s.nextId, m, n, r, d, [], s.clock, y⟩] := rfl
@[simp] theorem State.send_nextId : (s.send m n r d y).nextId = s.nextId + 1 := rfl

@[simp] theorem State.reply_focus : (s.reply m e r y).focus = s.focus := rfl
@[simp] theorem State.reply_agenda : (s.reply m e r y).agenda = s.agenda := rfl
@[simp] theorem State.reply_freeCount : (s.reply m e r y).freeCount = s.freeCount := rfl
@[simp] theorem State.reply_clock : (s.reply m e r y).clock = s.clock := rfl
@[simp] theorem State.reply_ns : (s.reply m e r y).ns = s.ns := rfl
@[simp] theorem State.reply_grade : (s.reply m e r y).grade = s.grade := rfl
@[simp] theorem State.reply_fusedBad : (s.reply m e r y).fusedBad = s.fusedBad := rfl
@[simp] theorem State.reply_fusedSpare : (s.reply m e r y).fusedSpare = s.fusedSpare := rfl
@[simp] theorem State.reply_mem : (s.reply m e r y).mem = s.mem := rfl
@[simp] theorem State.reply_tiles : (s.reply m e r y).tiles = s.tiles := rfl
@[simp] theorem State.reply_fields : (s.reply m e r y).fields = s.fields := rfl
@[simp] theorem State.reply_rankTile : (s.reply m e r y).rankTile = s.rankTile := rfl
@[simp] theorem State.reply_baseMap : (s.reply m e r y).baseMap = s.baseMap := rfl
@[simp] theorem State.reply_gen : (s.reply m e r y).gen = s.gen := rfl
@[simp] theorem State.reply_standIn : (s.reply m e r y).standIn = s.standIn := rfl
@[simp] theorem State.reply_lost : (s.reply m e r y).lost = s.lost := rfl
@[simp] theorem State.reply_asks : (s.reply m e r y).asks = s.asks := rfl
@[simp] theorem State.reply_parts : (s.reply m e r y).parts = s.parts := rfl
@[simp] theorem State.reply_mills : (s.reply m e r y).mills = s.mills := rfl
@[simp] theorem State.reply_hostWrites : (s.reply m e r y).hostWrites = s.hostWrites := rfl
@[simp] theorem State.reply_bridgeOut : (s.reply m e r y).bridgeOut = s.bridgeOut := rfl
@[simp] theorem State.reply_bridgeRefused : (s.reply m e r y).bridgeRefused = s.bridgeRefused := rfl
@[simp] theorem State.reply_sramTags : (s.reply m e r y).sramTags = s.sramTags := rfl
@[simp] theorem State.reply_mill0 : (s.reply m e r y).mill0 = s.mill0 := rfl
@[simp] theorem State.reply_queues : (s.reply m e r y).queues = s.queues := rfl
@[simp] theorem State.reply_bells : (s.reply m e r y).bells = s.bells := rfl
@[simp] theorem State.reply_boxes : (s.reply m e r y).boxes = s.boxes := rfl
@[simp] theorem State.reply_msixTables : (s.reply m e r y).msixTables = s.msixTables := rfl
@[simp] theorem State.reply_msix : (s.reply m e r y).msix = s.msix := rfl
@[simp] theorem State.reply_hostData : (s.reply m e r y).hostData = s.hostData := rfl
@[simp] theorem State.reply_suspects : (s.reply m e r y).suspects = s.suspects := rfl
@[simp] theorem State.reply_points : (s.reply m e r y).points = s.points := rfl
@[simp] theorem State.reply_link : (s.reply m e r y).link = s.link := rfl
@[simp] theorem State.reply_net : (s.reply m e r y).net = s.net ++ [⟨s.nextId, m, e.node, r, e.delay, e.path, s.clock, y⟩] := rfl
@[simp] theorem State.reply_nextId : (s.reply m e r y).nextId = s.nextId + 1 := rfl

@[simp] theorem State.setCtx_focus : (s.setCtx a c x).focus = s.focus := by cases a <;> rfl
@[simp] theorem State.setCtx_agenda : (s.setCtx a c x).agenda = s.agenda := by cases a <;> rfl
@[simp] theorem State.setCtx_nextId : (s.setCtx a c x).nextId = s.nextId := by cases a <;> rfl
@[simp] theorem State.setCtx_freeCount : (s.setCtx a c x).freeCount = s.freeCount := by cases a <;> rfl
@[simp] theorem State.setCtx_clock : (s.setCtx a c x).clock = s.clock := by cases a <;> rfl
@[simp] theorem State.setCtx_ns : (s.setCtx a c x).ns = s.ns := by cases a <;> rfl
@[simp] theorem State.setCtx_grade : (s.setCtx a c x).grade = s.grade := by cases a <;> rfl
@[simp] theorem State.setCtx_fusedBad : (s.setCtx a c x).fusedBad = s.fusedBad := by cases a <;> rfl
@[simp] theorem State.setCtx_fusedSpare : (s.setCtx a c x).fusedSpare = s.fusedSpare := by cases a <;> rfl
@[simp] theorem State.setCtx_mem : (s.setCtx a c x).mem = s.mem := by cases a <;> rfl
@[simp] theorem State.setCtx_fields : (s.setCtx a c x).fields = s.fields := by cases a <;> rfl
@[simp] theorem State.setCtx_rankTile : (s.setCtx a c x).rankTile = s.rankTile := by cases a <;> rfl
@[simp] theorem State.setCtx_baseMap : (s.setCtx a c x).baseMap = s.baseMap := by cases a <;> rfl
@[simp] theorem State.setCtx_gen : (s.setCtx a c x).gen = s.gen := by cases a <;> rfl
@[simp] theorem State.setCtx_standIn : (s.setCtx a c x).standIn = s.standIn := by cases a <;> rfl
@[simp] theorem State.setCtx_lost : (s.setCtx a c x).lost = s.lost := by cases a <;> rfl
@[simp] theorem State.setCtx_net : (s.setCtx a c x).net = s.net := by cases a <;> rfl
@[simp] theorem State.setCtx_asks : (s.setCtx a c x).asks = s.asks := by cases a <;> rfl
@[simp] theorem State.setCtx_parts : (s.setCtx a c x).parts = s.parts := by cases a <;> rfl
@[simp] theorem State.setCtx_hostWrites : (s.setCtx a c x).hostWrites = s.hostWrites := by cases a <;> rfl
@[simp] theorem State.setCtx_bridgeOut : (s.setCtx a c x).bridgeOut = s.bridgeOut := by cases a <;> rfl
@[simp] theorem State.setCtx_bridgeRefused : (s.setCtx a c x).bridgeRefused = s.bridgeRefused := by cases a <;> rfl
@[simp] theorem State.setCtx_sramTags : (s.setCtx a c x).sramTags = s.sramTags := by cases a <;> rfl
@[simp] theorem State.setCtx_mill0 : (s.setCtx a c x).mill0 = s.mill0 := by cases a <;> rfl
@[simp] theorem State.setCtx_queues : (s.setCtx a c x).queues = s.queues := by cases a <;> rfl
@[simp] theorem State.setCtx_bells : (s.setCtx a c x).bells = s.bells := by cases a <;> rfl
@[simp] theorem State.setCtx_boxes : (s.setCtx a c x).boxes = s.boxes := by cases a <;> rfl
@[simp] theorem State.setCtx_msixTables : (s.setCtx a c x).msixTables = s.msixTables := by cases a <;> rfl
@[simp] theorem State.setCtx_msix : (s.setCtx a c x).msix = s.msix := by cases a <;> rfl
@[simp] theorem State.setCtx_hostData : (s.setCtx a c x).hostData = s.hostData := by cases a <;> rfl
@[simp] theorem State.setCtx_suspects : (s.setCtx a c x).suspects = s.suspects := by cases a <;> rfl
@[simp] theorem State.setCtx_points : (s.setCtx a c x).points = s.points := by cases a <;> rfl
@[simp] theorem State.setCtx_link : (s.setCtx a c x).link = s.link := by cases a <;> rfl

@[simp] theorem State.modCtx_focus : (s.modCtx a c h).focus = s.focus := by cases a <;> rfl
@[simp] theorem State.modCtx_agenda : (s.modCtx a c h).agenda = s.agenda := by cases a <;> rfl
@[simp] theorem State.modCtx_nextId : (s.modCtx a c h).nextId = s.nextId := by cases a <;> rfl
@[simp] theorem State.modCtx_freeCount : (s.modCtx a c h).freeCount = s.freeCount := by cases a <;> rfl
@[simp] theorem State.modCtx_clock : (s.modCtx a c h).clock = s.clock := by cases a <;> rfl
@[simp] theorem State.modCtx_ns : (s.modCtx a c h).ns = s.ns := by cases a <;> rfl
@[simp] theorem State.modCtx_grade : (s.modCtx a c h).grade = s.grade := by cases a <;> rfl
@[simp] theorem State.modCtx_fusedBad : (s.modCtx a c h).fusedBad = s.fusedBad := by cases a <;> rfl
@[simp] theorem State.modCtx_fusedSpare : (s.modCtx a c h).fusedSpare = s.fusedSpare := by cases a <;> rfl
@[simp] theorem State.modCtx_mem : (s.modCtx a c h).mem = s.mem := by cases a <;> rfl
@[simp] theorem State.modCtx_fields : (s.modCtx a c h).fields = s.fields := by cases a <;> rfl
@[simp] theorem State.modCtx_rankTile : (s.modCtx a c h).rankTile = s.rankTile := by cases a <;> rfl
@[simp] theorem State.modCtx_baseMap : (s.modCtx a c h).baseMap = s.baseMap := by cases a <;> rfl
@[simp] theorem State.modCtx_gen : (s.modCtx a c h).gen = s.gen := by cases a <;> rfl
@[simp] theorem State.modCtx_standIn : (s.modCtx a c h).standIn = s.standIn := by cases a <;> rfl
@[simp] theorem State.modCtx_lost : (s.modCtx a c h).lost = s.lost := by cases a <;> rfl
@[simp] theorem State.modCtx_net : (s.modCtx a c h).net = s.net := by cases a <;> rfl
@[simp] theorem State.modCtx_asks : (s.modCtx a c h).asks = s.asks := by cases a <;> rfl
@[simp] theorem State.modCtx_parts : (s.modCtx a c h).parts = s.parts := by cases a <;> rfl
@[simp] theorem State.modCtx_hostWrites : (s.modCtx a c h).hostWrites = s.hostWrites := by cases a <;> rfl
@[simp] theorem State.modCtx_bridgeOut : (s.modCtx a c h).bridgeOut = s.bridgeOut := by cases a <;> rfl
@[simp] theorem State.modCtx_bridgeRefused : (s.modCtx a c h).bridgeRefused = s.bridgeRefused := by cases a <;> rfl
@[simp] theorem State.modCtx_sramTags : (s.modCtx a c h).sramTags = s.sramTags := by cases a <;> rfl
@[simp] theorem State.modCtx_mill0 : (s.modCtx a c h).mill0 = s.mill0 := by cases a <;> rfl
@[simp] theorem State.modCtx_queues : (s.modCtx a c h).queues = s.queues := by cases a <;> rfl
@[simp] theorem State.modCtx_bells : (s.modCtx a c h).bells = s.bells := by cases a <;> rfl
@[simp] theorem State.modCtx_boxes : (s.modCtx a c h).boxes = s.boxes := by cases a <;> rfl
@[simp] theorem State.modCtx_msixTables : (s.modCtx a c h).msixTables = s.msixTables := by cases a <;> rfl
@[simp] theorem State.modCtx_msix : (s.modCtx a c h).msix = s.msix := by cases a <;> rfl
@[simp] theorem State.modCtx_hostData : (s.modCtx a c h).hostData = s.hostData := by cases a <;> rfl
@[simp] theorem State.modCtx_suspects : (s.modCtx a c h).suspects = s.suspects := by cases a <;> rfl
@[simp] theorem State.modCtx_points : (s.modCtx a c h).points = s.points := by cases a <;> rfl
@[simp] theorem State.modCtx_link : (s.modCtx a c h).link = s.link := by cases a <;> rfl

@[simp] theorem State.modCur_focus : (s.modCur h).focus = s.focus := s.modCtx_focus s.focus s.curSlot h
@[simp] theorem State.modCur_agenda : (s.modCur h).agenda = s.agenda := s.modCtx_agenda s.focus s.curSlot h
@[simp] theorem State.modCur_nextId : (s.modCur h).nextId = s.nextId := s.modCtx_nextId s.focus s.curSlot h
@[simp] theorem State.modCur_freeCount : (s.modCur h).freeCount = s.freeCount := s.modCtx_freeCount s.focus s.curSlot h
@[simp] theorem State.modCur_clock : (s.modCur h).clock = s.clock := s.modCtx_clock s.focus s.curSlot h
@[simp] theorem State.modCur_ns : (s.modCur h).ns = s.ns := s.modCtx_ns s.focus s.curSlot h
@[simp] theorem State.modCur_grade : (s.modCur h).grade = s.grade := s.modCtx_grade s.focus s.curSlot h
@[simp] theorem State.modCur_fusedBad : (s.modCur h).fusedBad = s.fusedBad := s.modCtx_fusedBad s.focus s.curSlot h
@[simp] theorem State.modCur_fusedSpare : (s.modCur h).fusedSpare = s.fusedSpare := s.modCtx_fusedSpare s.focus s.curSlot h
@[simp] theorem State.modCur_mem : (s.modCur h).mem = s.mem := s.modCtx_mem s.focus s.curSlot h
@[simp] theorem State.modCur_fields : (s.modCur h).fields = s.fields := s.modCtx_fields s.focus s.curSlot h
@[simp] theorem State.modCur_rankTile : (s.modCur h).rankTile = s.rankTile := s.modCtx_rankTile s.focus s.curSlot h
@[simp] theorem State.modCur_baseMap : (s.modCur h).baseMap = s.baseMap := s.modCtx_baseMap s.focus s.curSlot h
@[simp] theorem State.modCur_gen : (s.modCur h).gen = s.gen := s.modCtx_gen s.focus s.curSlot h
@[simp] theorem State.modCur_standIn : (s.modCur h).standIn = s.standIn := s.modCtx_standIn s.focus s.curSlot h
@[simp] theorem State.modCur_lost : (s.modCur h).lost = s.lost := s.modCtx_lost s.focus s.curSlot h
@[simp] theorem State.modCur_net : (s.modCur h).net = s.net := s.modCtx_net s.focus s.curSlot h
@[simp] theorem State.modCur_asks : (s.modCur h).asks = s.asks := s.modCtx_asks s.focus s.curSlot h
@[simp] theorem State.modCur_parts : (s.modCur h).parts = s.parts := s.modCtx_parts s.focus s.curSlot h
@[simp] theorem State.modCur_hostWrites : (s.modCur h).hostWrites = s.hostWrites := s.modCtx_hostWrites s.focus s.curSlot h
@[simp] theorem State.modCur_bridgeOut : (s.modCur h).bridgeOut = s.bridgeOut := s.modCtx_bridgeOut s.focus s.curSlot h
@[simp] theorem State.modCur_bridgeRefused : (s.modCur h).bridgeRefused = s.bridgeRefused := s.modCtx_bridgeRefused s.focus s.curSlot h
@[simp] theorem State.modCur_sramTags : (s.modCur h).sramTags = s.sramTags := s.modCtx_sramTags s.focus s.curSlot h
@[simp] theorem State.modCur_mill0 : (s.modCur h).mill0 = s.mill0 := s.modCtx_mill0 s.focus s.curSlot h
@[simp] theorem State.modCur_queues : (s.modCur h).queues = s.queues := s.modCtx_queues s.focus s.curSlot h
@[simp] theorem State.modCur_bells : (s.modCur h).bells = s.bells := s.modCtx_bells s.focus s.curSlot h
@[simp] theorem State.modCur_boxes : (s.modCur h).boxes = s.boxes := s.modCtx_boxes s.focus s.curSlot h
@[simp] theorem State.modCur_msixTables : (s.modCur h).msixTables = s.msixTables := s.modCtx_msixTables s.focus s.curSlot h
@[simp] theorem State.modCur_msix : (s.modCur h).msix = s.msix := s.modCtx_msix s.focus s.curSlot h
@[simp] theorem State.modCur_hostData : (s.modCur h).hostData = s.hostData := s.modCtx_hostData s.focus s.curSlot h
@[simp] theorem State.modCur_suspects : (s.modCur h).suspects = s.suspects := s.modCtx_suspects s.focus s.curSlot h
@[simp] theorem State.modCur_points : (s.modCur h).points = s.points := s.modCtx_points s.focus s.curSlot h
@[simp] theorem State.modCur_link : (s.modCur h).link = s.link := s.modCtx_link s.focus s.curSlot h

@[simp] theorem State.modPriv_focus : (s.modPriv a p).focus = s.focus := by cases a <;> rfl
@[simp] theorem State.modPriv_agenda : (s.modPriv a p).agenda = s.agenda := by cases a <;> rfl
@[simp] theorem State.modPriv_nextId : (s.modPriv a p).nextId = s.nextId := by cases a <;> rfl
@[simp] theorem State.modPriv_freeCount : (s.modPriv a p).freeCount = s.freeCount := by cases a <;> rfl
@[simp] theorem State.modPriv_clock : (s.modPriv a p).clock = s.clock := by cases a <;> rfl
@[simp] theorem State.modPriv_ns : (s.modPriv a p).ns = s.ns := by cases a <;> rfl
@[simp] theorem State.modPriv_grade : (s.modPriv a p).grade = s.grade := by cases a <;> rfl
@[simp] theorem State.modPriv_fusedBad : (s.modPriv a p).fusedBad = s.fusedBad := by cases a <;> rfl
@[simp] theorem State.modPriv_fusedSpare : (s.modPriv a p).fusedSpare = s.fusedSpare := by cases a <;> rfl
@[simp] theorem State.modPriv_mem : (s.modPriv a p).mem = s.mem := by cases a <;> rfl
@[simp] theorem State.modPriv_fields : (s.modPriv a p).fields = s.fields := by cases a <;> rfl
@[simp] theorem State.modPriv_rankTile : (s.modPriv a p).rankTile = s.rankTile := by cases a <;> rfl
@[simp] theorem State.modPriv_baseMap : (s.modPriv a p).baseMap = s.baseMap := by cases a <;> rfl
@[simp] theorem State.modPriv_gen : (s.modPriv a p).gen = s.gen := by cases a <;> rfl
@[simp] theorem State.modPriv_standIn : (s.modPriv a p).standIn = s.standIn := by cases a <;> rfl
@[simp] theorem State.modPriv_lost : (s.modPriv a p).lost = s.lost := by cases a <;> rfl
@[simp] theorem State.modPriv_net : (s.modPriv a p).net = s.net := by cases a <;> rfl
@[simp] theorem State.modPriv_asks : (s.modPriv a p).asks = s.asks := by cases a <;> rfl
@[simp] theorem State.modPriv_parts : (s.modPriv a p).parts = s.parts := by cases a <;> rfl
@[simp] theorem State.modPriv_hostWrites : (s.modPriv a p).hostWrites = s.hostWrites := by cases a <;> rfl
@[simp] theorem State.modPriv_bridgeOut : (s.modPriv a p).bridgeOut = s.bridgeOut := by cases a <;> rfl
@[simp] theorem State.modPriv_bridgeRefused : (s.modPriv a p).bridgeRefused = s.bridgeRefused := by cases a <;> rfl
@[simp] theorem State.modPriv_sramTags : (s.modPriv a p).sramTags = s.sramTags := by cases a <;> rfl
@[simp] theorem State.modPriv_mill0 : (s.modPriv a p).mill0 = s.mill0 := by cases a <;> rfl
@[simp] theorem State.modPriv_queues : (s.modPriv a p).queues = s.queues := by cases a <;> rfl
@[simp] theorem State.modPriv_bells : (s.modPriv a p).bells = s.bells := by cases a <;> rfl
@[simp] theorem State.modPriv_boxes : (s.modPriv a p).boxes = s.boxes := by cases a <;> rfl
@[simp] theorem State.modPriv_msixTables : (s.modPriv a p).msixTables = s.msixTables := by cases a <;> rfl
@[simp] theorem State.modPriv_msix : (s.modPriv a p).msix = s.msix := by cases a <;> rfl
@[simp] theorem State.modPriv_hostData : (s.modPriv a p).hostData = s.hostData := by cases a <;> rfl
@[simp] theorem State.modPriv_suspects : (s.modPriv a p).suspects = s.suspects := by cases a <;> rfl
@[simp] theorem State.modPriv_points : (s.modPriv a p).points = s.points := by cases a <;> rfl
@[simp] theorem State.modPriv_link : (s.modPriv a p).link = s.link := by cases a <;> rfl

end Sys2Proof.Machine
end

