-- ==== Sys2Proof/Laws/Table.lean ====
section
/-! SUPPORT. What the operations of tables do: a value put is found, other keys keep theirs. -/
namespace Sys2Proof.Machine

variable {α : Type}

@[simp] theorem tget_tput_self (t : Tbl α) (k : Nat) (v : α) : tget (tput t k v) k = some v := by
  induction t with
  | nil => simp [tput, tget]
  | cons p t ih =>
    obtain ⟨j, w⟩ := p
    unfold tput
    split
    · simp [tget]
    · split
      · simp [tget]
      · have : j ≠ k := by omega
        simp [tget, this, ih]

theorem tget_tput_ne (t : Tbl α) {k j : Nat} (v : α) (h : j ≠ k) : tget (tput t k v) j = tget t j := by
  induction t with
  | nil => simp [tput, tget, Ne.symm h]
  | cons p t ih =>
    obtain ⟨i, w⟩ := p
    unfold tput
    split
    · simp [tget, Ne.symm h]
    · split
      · subst_vars; simp [tget, Ne.symm h]
      · simp [tget, ih]

theorem tget_tput (t : Tbl α) (k j : Nat) (v : α) : tget (tput t k v) j = if j = k then some v else tget t j := by
  split
  · subst_vars; simp
  · exact tget_tput_ne t v ‹_›

@[simp] theorem tgetD_tput_self (t : Tbl α) (k : Nat) (v d : α) : tgetD (tput t k v) k d = v := by simp [tgetD]

theorem tgetD_tput_ne (t : Tbl α) {k j : Nat} (v d : α) (h : j ≠ k) : tgetD (tput t k v) j d = tgetD t j d := by
  simp [tgetD, tget_tput_ne t v h]

theorem tgetD_tput (t : Tbl α) (k j : Nat) (v d : α) : tgetD (tput t k v) j d = if j = k then v else tgetD t j d := by
  simp only [tgetD, tget_tput]
  split <;> rfl

@[simp] theorem tput_tput (t : Tbl α) (k : Nat) (v w : α) : tput (tput t k v) k w = tput t k w := by
  induction t with
  | nil => simp [tput]
  | cons p t ih =>
    obtain ⟨j, u⟩ := p
    by_cases h1 : k < j
    · simp [tput, h1]
    · by_cases h2 : k = j
      · subst h2; simp [tput]
      · simp [tput, h1, h2, ih]

@[simp] theorem tget_tdel_self (t : Tbl α) (k : Nat) : tget (tdel t k) k = none := by
  induction t with
  | nil => rfl
  | cons p t ih =>
    unfold tdel at ih ⊢
    by_cases h : p.1 = k
    · simp [h, ih]
    · simp [h, tget, ih]

theorem tget_tdel_ne (t : Tbl α) {k j : Nat} (h : j ≠ k) : tget (tdel t k) j = tget t j := by
  induction t with
  | nil => rfl
  | cons p t ih =>
    unfold tdel at ih ⊢
    by_cases hi : p.1 = k
    · simp [hi, tget, Ne.symm h, ih]
    · simp [hi, tget, ih]

end Sys2Proof.Machine
end

