-- ==== Sys2Proof/Laws/Context.lean ====
section
/-! SUPPORT. Tiles, slots, contexts and registers: what is written is read, and nothing else moves. -/
namespace Sys2Proof.Machine

variable (s : State) (t c : Nat)

@[simp] theorem State.tile_setTile_self (T : Tile) : (s.setTile t T).tile t = T := by simp [State.tile, State.setTile]

theorem State.tile_setTile_ne {u : Nat} (T : Tile) (h : u ≠ t) : (s.setTile t T).tile u = s.tile u := by
  simp [State.tile, State.setTile, tgetD_tput_ne s.tiles T _ h]

@[simp] theorem State.tile_modTile_self (g : Tile → Tile) : (s.modTile t g).tile t = g (s.tile t) := by
  simp [State.modTile]

theorem State.tile_modTile_ne {u : Nat} (g : Tile → Tile) (h : u ≠ t) : (s.modTile t g).tile u = s.tile u :=
  s.tile_setTile_ne t _ h

@[simp] theorem State.setTile_setTile (T U : Tile) : (s.setTile t T).setTile t U = s.setTile t U := by
  simp [State.setTile]

@[simp] theorem Tile.slot_setSlot_self (T : Tile) (x : Ctx) (h : c < 16) : (T.setSlot c x).slot c = x := by
  simp [Tile.slot, Tile.setSlot, h]

theorem Tile.slot_setSlot_ne (T : Tile) {d : Nat} (x : Ctx) (h : d ≠ c) : (T.setSlot c x).slot d = T.slot d := by
  unfold Tile.slot Tile.setSlot
  split
  · split
    · simp [Ne.symm h]
    · rfl
  · rfl

@[simp] theorem Tile.setSlot_setSlot (T : Tile) (x y : Ctx) : (T.setSlot c x).setSlot c y = T.setSlot c y := by
  unfold Tile.setSlot
  split <;> simp

@[simp] theorem Tile.setSlot_cycles (T : Tile) (x : Ctx) : (T.setSlot c x).cycles = T.cycles := by
  unfold Tile.setSlot; split <;> rfl

@[simp] theorem Tile.setSlot_priv (T : Tile) (x : Ctx) : (T.setSlot c x).priv = T.priv := by
  unfold Tile.setSlot; split <;> rfl

@[simp] theorem Tile.setSlot_rank (T : Tile) (x : Ctx) : (T.setSlot c x).rank = T.rank := by
  unfold Tile.setSlot; split <;> rfl

/-! ### The issuing context -/

theorem State.curSlot_lt : s.curSlot < 16 := by
  unfold State.curSlot Tile.turn
  split <;> omega

@[simp] theorem State.setCtx_curSlot (x : Ctx) : (s.setCtx s.focus s.curSlot x).curSlot = s.curSlot := by
  unfold State.curSlot
  cases h : s.focus <;> simp [State.setCtx, State.setTile, State.tile, Tile.turn, h]

@[simp] theorem State.setCtx_cur (x : Ctx) : (s.setCtx s.focus s.curSlot x).cur = x := by
  have h16 := s.curSlot_lt
  simp only [State.cur, State.setCtx_curSlot, State.setCtx_focus]
  cases h : s.focus <;> simp_all [State.ctx, State.setCtx, State.mill]

@[simp] theorem State.modCur_cur (f : Ctx → Ctx) : (s.modCur f).cur = f s.cur := s.setCtx_cur _

@[simp] theorem State.modCur_curSlot (f : Ctx → Ctx) : (s.modCur f).curSlot = s.curSlot := s.setCtx_curSlot _

@[simp] theorem State.setCtx_setCtx (a : Agent) (x y : Ctx) : (s.setCtx a c x).setCtx a c y = s.setCtx a c y := by
  cases a <;> simp [State.setCtx, State.setTile, State.tile, State.mill]

@[simp] theorem State.modCur_modCur (f g : Ctx → Ctx) : (s.modCur f).modCur g = s.modCur fun c => g (f c) := by
  have h : (s.modCur f).modCur g = (s.setCtx s.focus s.curSlot (f s.cur)).setCtx s.focus s.curSlot (g (f s.cur)) := by
    have e : (s.modCur f).ctx s.focus s.curSlot = f s.cur := by
      have := s.modCur_cur f
      simpa [State.cur] using this
    show (s.modCur f).setCtx (s.modCur f).focus (s.modCur f).curSlot (g ((s.modCur f).ctx (s.modCur f).focus (s.modCur f).curSlot)) = _
    rw [State.modCur_focus, State.modCur_curSlot, e]
    rfl
  rw [h, State.setCtx_setCtx]
  rfl

/-- A change of the issuing context touches nothing else. -/
theorem State.modCur_eq (f : Ctx → Ctx) : s.modCur f = s.setCtx s.focus s.curSlot (f s.cur) := rfl

/-! ### Registers -/

theorem Ctx.x_setX (c : Ctx) (rd r : XReg) (v : Word) : (c.setX rd v).x r = if r = rd ∧ r ≠ 0 then v else c.x r := by
  unfold Ctx.setX Ctx.x
  by_cases h0 : r = 0#5
  · simp [h0]
  · by_cases h : rd = 0#5
    · subst h; simp [h0]
    · by_cases hr : r = rd
      · subst hr; simp [h0]
      · have : ¬ rd.toNat = r.toNat := fun e => hr (BitVec.eq_of_toNat_eq e.symm)
        simp [h, hr, this]

theorem Ctx.f_setF (c : Ctx) (rd r : FReg) (v : Word) : (c.setF rd v).f r = if r = rd then v else c.f r := by
  unfold Ctx.setF Ctx.f
  by_cases hr : r = rd
  · subst hr; simp
  · have : ¬ rd.toNat = r.toNat := fun e => hr (BitVec.eq_of_toNat_eq e.symm)
    simp [hr, this]

@[simp] theorem Ctx.f_setX (c : Ctx) (rd : XReg) (r : FReg) (v : Word) : (c.setX rd v).f r = c.f r := by
  unfold Ctx.setX; split <;> rfl

@[simp] theorem Ctx.x_setF (c : Ctx) (rd : FReg) (r : XReg) (v : Word) : (c.setF rd v).x r = c.x r := rfl

@[simp] theorem Ctx.x_retireTo (c : Ctx) (r : XReg) (pc : Word) : (Ctx.retireTo pc c).x r = c.x r := rfl

@[simp] theorem Ctx.f_retireTo (c : Ctx) (r : FReg) (pc : Word) : (Ctx.retireTo pc c).f r = c.f r := rfl

@[simp] theorem Ctx.setX_zero (c : Ctx) (v : Word) : c.setX 0 v = c := by simp [Ctx.setX]

end Sys2Proof.Machine
end

