-- ==== Sys2Proof/Laws/Issue.lean ====
section
/-! SUPPORT. What the issue checks do once, for every instruction. -/
namespace Sys2Proof.Machine

variable {i : Instr} {s : State}

theorem namesPort_false {u : Uses} {c : Ctx} (h : namesPort u c = false) :
    boundReads u c = [] ∧ boundWrites u c = [] ∧ portReads u c = 0 ∧ portWrites u c = 0 := by
  simp [namesPort] at h
  obtain ⟨⟨⟨h1, h2⟩, h3⟩, h4⟩ := h
  exact ⟨h1, h2, h3, h4⟩

theorem portsLegal_of_noPort {u : Uses} {s : State} (h : namesPort u s.cur = false) : portsLegal u s = true := by
  obtain ⟨h1, h2, h3, h4⟩ := namesPort_false h
  unfold portsLegal
  have hr : ((u.fr.zip u.fin).all fun (r, code) => !s.cur.bound r || ((s.cur.stream r).dir == 1 &&
      ((s.cur.stream r).fmt != 0 || (s.cur.stream r).width == codeWidth code))) = true := by
    rw [List.all_eq_true]
    rintro ⟨r, code⟩ hm
    obtain ⟨ha, hb⟩ := List.of_mem_zip hm
    have hf : u.fin ≠ [] := List.ne_nil_of_mem hb
    have : r ∉ u.fr.filter s.cur.bound := by
      have := h1
      simp only [boundReads, List.isEmpty_eq_false_iff.mpr hf] at this
      rw [show u.fr.filter s.cur.bound = [] from by simpa using this]
      simp
    have : s.cur.bound r = false := by
      simpa [ha] using this
    simp [this]
  simp only [hr, h2, h3, h4]
  cases s.myPort <;> simp

/-- An instruction that passes every check has its own effect. -/
theorem gate_go (h : CanIssue i s) : gate (usesOf i) s = .go := by
  obtain ⟨h1, h2, h3, h4, h5, h6, h7, h8⟩ := h
  have he : firstEmpty (usesOf i) s.cur = none := by
    unfold firstEmpty
    have hx : ((usesOf i).xr.find? fun r => s.cur.xEmpty r && !(s.cur.th.furrow && r == 15#5)) = none := by
      rw [List.find?_eq_none]
      intro r hr
      simp [h4 r (by simp [hr])]
    have hf : ((usesOf i).fr.find? fun r => s.cur.fEmpty r && !s.cur.bound r) = none := by
      rw [List.find?_eq_none]
      intro r hr
      simp [h5 r (by simp [hr])]
    simp only [hx, hf, Option.map_none]
  have hw : writesEmpty (usesOf i) s.cur = none := by
    unfold writesEmpty
    have hx : ((usesOf i).xw.find? fun r => r != 0 && s.cur.xEmpty r && !(s.cur.th.furrow && r == 15#5)) = none := by
      rw [List.find?_eq_none]
      intro r hr
      simp [h4 r (by simp [hr])]
    have hf : ((usesOf i).fw.find? fun r => s.cur.fEmpty r && !s.cur.bound r) = none := by
      rw [List.find?_eq_none]
      intro r hr
      simp [h5 r (by simp [hr])]
    simp only [hx, hf, Option.map_none]
  have hm : ((usesOf i).mem && s.cur.memBusy) = false := by
    cases hmem : (usesOf i).mem
    · rfl
    · simp [h6 hmem]
  unfold gate
  simp [h1, h2, h3, portsLegal_of_noPort h8, he, hw, hm, h7, h8]

theorem issue_ready (h : CanIssue i s) (k : State → State) : issue i s k = .next (k s) := by
  simp only [issue, issueAs, gate_go h]

theorem issueIf_ready {bad : Bool} (hb : bad = false) (h : CanIssue i s) (k : State → State) :
    issueIf bad i s k = .next (k s) := by
  simp [issueIf, hb, issue_ready h]

/-! ### Operands that are no port -/

theorem noPort_x {u : Uses} {r : XReg} (h : namesPort u s.cur = false) (hr : r ∈ u.xr) : s.isPort r = false := by
  obtain ⟨-, -, h3, -⟩ := namesPort_false h
  unfold portReads at h3
  unfold State.isPort
  cases hf : s.cur.th.furrow
  · simp
  · rw [hf] at h3
    have : 15#5 ∉ u.xr := by simpa [List.count_eq_zero] using h3
    have : r ≠ 15#5 := fun e => this (e ▸ hr)
    simp [this]

theorem noPort_w {u : Uses} {r : XReg} (h : namesPort u s.cur = false) (hr : r ∈ u.xw) : s.isPort r = false := by
  obtain ⟨-, -, -, h4⟩ := namesPort_false h
  unfold portWrites at h4
  unfold State.isPort
  cases hf : s.cur.th.furrow
  · simp
  · rw [hf] at h4
    have : 15#5 ∉ u.xw := by simpa [List.count_eq_zero] using h4
    have : r ≠ 15#5 := fun e => this (e ▸ hr)
    simp [this]

theorem x1_eq {r : XReg} (h : s.isPort r = false) : s.x1 r = s.cur.x r := by simp [State.x1, h]
theorem x2_eq {r1 r : XReg} (h : s.isPort r = false) : s.x2 r1 r = s.cur.x r := by simp [State.x2, h]
theorem x3_eq {r1 r2 r : XReg} (h : s.isPort r = false) : s.x3 r1 r2 r = s.cur.x r := by simp [State.x3, h]

/-- A write of x_rd that goes to no port, then retirement: the whole effect. -/
theorem wroteX_retireTo {rd : XReg} (v pc : Word) (h : s.isPort rd = false) :
    WroteX s ((s.setX rd v).modCur fun c => c.retireTo pc) rd v pc := by
  have hp : (rd == 15#5 && s.cur.th.furrow) = false := h
  have hx : ∀ c : Ctx, Retired c ((c.setX rd v).retireTo pc) pc := by
    intro c
    unfold Retired Ctx.setX
    split <;> rfl
  have hfc : ∀ c : Ctx, ((c.setX rd v).retireTo pc).th.fcsr = c.th.fcsr := by
    intro c; unfold Ctx.setX; split <;> rfl
  cases hf : s.focus with
  | tile t =>
    have e : (s.setX rd v).modCur (fun c => c.retireTo pc) = s.modCur fun c => (c.setX rd v).retireTo pc := by
      simp only [State.setX, hf, hp]
      simp
    rw [e]
    refine ⟨?_, ?_, ?_, ?_, ?_, ?_, ?_⟩
    · simp only [OnlyCur, hf, State.modCur_cur]
      rw [State.modCur_eq, hf]
    · simpa using hx s.cur
    · intro r; simp [Ctx.x_setX]
    · intro r; simp
    · simpa using hfc s.cur
    · intro k hk; simp [hf] at hk
    · intro a; simp
  | mill k =>
    have hs : s.curSlot = 0 := by simp [State.curSlot, hf]
    have hc : s.cur = (s.mill k).ctx := by simp [State.cur, State.ctx, hf]
    have e : (s.setX rd v).modCur (fun c => c.retireTo pc) =
        { s with mills := tput s.mills k { (s.mill k).clearCap rd with ctx := (s.cur.setX rd v).retireTo pc } } := by
      simp [State.setX, hf, State.modCur, State.modCtx, State.setCtx, State.ctx, State.mill, MillCore.clearCap, hc]
    rw [e]
    generalize ht : ({ s with mills := tput s.mills k { (s.mill k).clearCap rd with ctx := (s.cur.setX rd v).retireTo pc } } : State) = t
    have hm : t.mill k = { (s.mill k).clearCap rd with ctx := (s.cur.setX rd v).retireTo pc } := by
      simp [← ht, State.mill]
    have hcur : t.cur = (s.cur.setX rd v).retireTo pc := by
      simp [← ht, State.cur, State.ctx, State.mill, hf]
    refine ⟨?_, ?_, ?_, ?_, ?_, ?_, ?_⟩
    · simp only [OnlyCur, hf, hm, hcur]
      rw [← ht, ← hf]
      rfl
    · rw [hcur]; exact hx s.cur
    · intro r; rw [hcur]; simp [Ctx.x_setX]
    · intro r; rw [hcur]; simp
    · rw [hcur]; exact hfc s.cur
    · intro k' hk r
      have : k = k' := by simpa [hf] using hk
      subst this
      rw [hm]
      unfold MillCore.upper MillCore.clearCap
      by_cases hr : r = rd
      · subst hr; simp
      · have : ¬ rd.toNat = r.toNat := fun e => hr (BitVec.eq_of_toNat_eq e.symm)
        simp [hr, this]
    · intro a; rw [← ht]

end Sys2Proof.Machine
end

