-- ==== Sys2Proof/Laws/Memory.lean ====
section
/-! SUPPORT. Memory: a write is read back, other bytes keep theirs, and every operation keeps the canonical form. -/
namespace Sys2Proof.Machine

theorem Memory.get_set (m : Memory) (a b : Nat) (v : Byte) : (m.set a v).get b = if b = a then v else m.get b := by
  unfold Memory.set Memory.get
  split
  · subst_vars
    by_cases h : b = a
    · subst h; simp [tgetD]
    · simp [tgetD, tget_tdel_ne m h, h]
  · exact tgetD_tput m a b v 0

theorem Memory.get_write (l : List Byte) (m : Memory) (a b : Nat) :
    (m.write a l).get b = if h : a ≤ b ∧ b - a < l.length then l[b - a]'h.2 else m.get b := by
  induction l generalizing m a with
  | nil => simp [Memory.write]
  | cons v l ih =>
    simp only [Memory.write, ih, Memory.get_set]
    by_cases h : b = a
    · subst h
      rw [dif_neg (by omega), if_pos rfl, dif_pos ⟨Nat.le_refl b, by simp⟩]
      simp
    · by_cases h2 : a ≤ b ∧ b - a < (v :: l).length
      · obtain ⟨n, hn⟩ : ∃ n, b - a = n + 1 := ⟨b - a - 1, by omega⟩
        have hn' : b - (a + 1) = n := by omega
        have : a + 1 ≤ b ∧ n < l.length := by simp at h2; omega
        simp [this, h2, hn, hn']
      · have : ¬(a + 1 ≤ b ∧ b - (a + 1) < l.length) := by simp at h2 ⊢; omega
        rw [dif_neg this, if_neg h, dif_neg h2]

/-- A write leaves every byte outside it. -/
theorem Memory.get_write_outside (m : Memory) (a b : Nat) (l : List Byte) (h : b < a ∨ a + l.length ≤ b) :
    (m.write a l).get b = m.get b := by
  rw [Memory.get_write, dif_neg (by omega)]

/-- What is written is read. -/
theorem Memory.read_write (m : Memory) (a : Nat) (l : List Byte) : (m.write a l).read a l.length = l := by
  unfold Memory.read
  apply List.ext_getElem
  · simp
  · intro i h1 h2
    simp [Memory.get_write, h2]

/-! ### The canonical form -/

/-- The canonical form of a memory whose first entry's address is known: every later one is greater. -/
theorem Memory.wf_cons (a : Nat) (v : Byte) (m : Memory) :
    Memory.wf ((a, v) :: m) = true ↔ v ≠ 0 ∧ (∀ p ∈ m.head?, a < p.1) ∧ Memory.wf m = true := by
  cases m with
  | nil => simp [Memory.wf]
  | cons p t => obtain ⟨c, d⟩ := p; simp [Memory.wf, and_assoc]

theorem Memory.wf_rising {m : Memory} (h : m.wf = true) : m.Pairwise fun p q => p.1 < q.1 := by
  induction m with
  | nil => exact .nil
  | cons p m ih =>
    obtain ⟨a, v⟩ := p
    obtain ⟨-, h2, h3⟩ := (Memory.wf_cons a v m).mp h
    refine List.pairwise_cons.mpr ⟨fun q hq => ?_, ih h3⟩
    cases m with
    | nil => simp at hq
    | cons r t =>
      have hr := h2 r (by simp)
      rcases List.mem_cons.mp hq with rfl | hq
      · exact hr
      · exact Nat.lt_trans hr ((List.pairwise_cons.mp (ih h3)).1 q hq)

theorem Memory.wf_nonzero {m : Memory} (h : m.wf = true) : ∀ p ∈ m, p.2 ≠ 0 := by
  induction m with
  | nil => simp
  | cons p m ih =>
    obtain ⟨a, v⟩ := p
    obtain ⟨h1, -, h3⟩ := (Memory.wf_cons a v m).mp h
    simp only [List.mem_cons, forall_eq_or_imp]
    exact ⟨h1, ih h3⟩

theorem Memory.wf_of {m : Memory} (h : m.Pairwise fun p q => p.1 < q.1) (hz : ∀ p ∈ m, p.2 ≠ 0) : m.wf = true := by
  induction m with
  | nil => rfl
  | cons p m ih =>
    obtain ⟨a, v⟩ := p
    obtain ⟨h1, h2⟩ := List.pairwise_cons.mp h
    refine (Memory.wf_cons a v m).mpr ⟨hz (a, v) (by simp), fun q hq => h1 q (List.mem_of_mem_head? hq),
      ih h2 fun q hq => hz q (by simp [hq])⟩

theorem tput_mem {α : Type} {t : Tbl α} {k : Nat} {v : α} {p : Nat × α} (h : p ∈ tput t k v) : p = (k, v) ∨ p ∈ t := by
  induction t with
  | nil => simpa [tput] using h
  | cons q t ih =>
    obtain ⟨j, w⟩ := q
    unfold tput at h
    split at h
    · simpa using h
    · split at h
      · rcases List.mem_cons.mp h with h | h
        · exact .inl h
        · exact .inr (by simp [h])
      · rcases List.mem_cons.mp h with h | h
        · exact .inr (by simp [h])
        · rcases ih h with h | h
          · exact .inl h
          · exact .inr (by simp [h])

theorem tput_rising {α : Type} {t : Tbl α} (k : Nat) (v : α) (h : t.Pairwise fun p q => p.1 < q.1) :
    (tput t k v).Pairwise fun p q => p.1 < q.1 := by
  induction t with
  | nil => simp [tput]
  | cons q t ih =>
    obtain ⟨j, w⟩ := q
    obtain ⟨h1, h2⟩ := List.pairwise_cons.mp h
    unfold tput
    split
    · refine List.pairwise_cons.mpr ⟨fun p hp => ?_, h⟩
      rcases List.mem_cons.mp hp with rfl | hp
      · assumption
      · exact Nat.lt_trans ‹_› (h1 p hp)
    · split
      · subst_vars; exact List.pairwise_cons.mpr ⟨h1, h2⟩
      · refine List.pairwise_cons.mpr ⟨fun p hp => ?_, ih h2⟩
        rcases tput_mem hp with rfl | hp
        · simp; omega
        · exact h1 p hp

theorem Memory.set_wf {m : Memory} (a : Nat) (v : Byte) (h : m.wf = true) : (m.set a v).wf = true := by
  have hr := Memory.wf_rising h
  have hz := Memory.wf_nonzero h
  unfold Memory.set
  split
  · exact Memory.wf_of (hr.filter _) fun p hp => hz p ((List.mem_filter.mp hp).1)
  · refine Memory.wf_of (tput_rising a v hr) fun p hp => ?_
    rcases tput_mem hp with rfl | hp
    · assumption
    · exact hz p hp

theorem Memory.write_wf {m : Memory} (a : Nat) (l : List Byte) (h : m.wf = true) : (m.write a l).wf = true := by
  induction l generalizing m a with
  | nil => exact h
  | cons v l ih => exact ih (a + 1) (Memory.set_wf a v h)

/-- Part of a memory in canonical form is in canonical form. -/
theorem Memory.filter_wf {m : Memory} (p : Host.Cell → Bool) (h : m.wf = true) : Memory.wf (m.filter p) = true :=
  Memory.wf_of ((Memory.wf_rising h).filter _) fun q hq => Memory.wf_nonzero h q ((List.mem_filter.mp hq).1)

theorem Memory.clear_wf {m : Memory} (a n : Nat) (h : m.wf = true) : (m.clear a n).wf = true := Memory.filter_wf _ h

theorem Memory.copyTo_wf {m : Memory} (src dst n : Nat) (h : m.wf = true) : (m.copyTo src dst n).wf = true := by
  unfold Memory.copyTo
  generalize List.filter _ m = l
  have hc := Memory.clear_wf dst n h
  generalize Memory.clear m dst n = m' at hc
  induction l generalizing m' with
  | nil => exact hc
  | cons q l ih => exact ih _ (Memory.set_wf _ _ hc)

/-- The memory of the module at reset is in canonical form. -/
theorem State.reset_mem_wf : State.reset.mem.wf = true := rfl

theorem State.wrMem_wf {s : State} (k : Nat) (b : List Byte) (h : s.mem.wf = true) : (s.wrMem k b).mem.wf = true :=
  Memory.write_wf k b h

theorem State.wrWord_wf {s : State} (k : Nat) (w : Word) (h : s.mem.wf = true) : (s.wrWord k w).mem.wf = true :=
  Memory.write_wf k _ h

end Sys2Proof.Machine
end

