-- ==== Sys2Proof/Tests/Slice0.lean ====
section
/-! SUPPORT. Tests: words written out from the spec's encodings, ill-formed terms that the check refuses, and for every
statement that has hypotheses, clause by clause, a state and operands that meet them, with what the step then gives by the
spec's own numbers. -/
open Sys2Proof Sys2Proof.Machine

namespace Sys2Proof.Tests

set_option maxRecDepth 100000
set_option Elab.async false

/-- A context that is ready. -/
def ready : Ctx := { Ctx.free with st := .ready }

/-- A tile in service that holds rank k, with context x in slot c. -/
def tileOf (k c : Nat) (x : Ctx) : Tile := { (Tile.reset.setSlot c x) with life := .ranked, rank := some k, cycles := c }

/-- Tile 0 holds rank 0 and issues from slot c with context x; tile 9 holds rank 1 and runs a ready slot 0. -/
def base (c : Nat) (x : Ctx) : State :=
  { State.reset with tiles := [(0, tileOf 0 c x), (9, tileOf 1 0 ready)], rankTile := [(0, 0), (1, 9)], baseMap := [(0, 0), (1, 9)]
                     fields := [(0, { Field.reset with started := true, tick := 1000 })] }

/-- Registers of a context. -/
def xs (l : List (XReg × Word)) (c : Ctx) : Ctx := l.foldl (fun c p => c.setX p.1 p.2) c
def fs (l : List (FReg × Word)) (c : Ctx) : Ctx := l.foldl (fun c p => c.setF p.1 p.2) c

/-- The next state meets a test. -/
def nx (o : Out) (p : State → Bool) : Bool :=
  match o with
  | .next t => p t
  | _ => false

/-- The next state is the one given. -/
def isNext (o : Out) (t : State) : Bool := nx o fun u => u == t

/-- Registers, privileged registers and memory are as before. -/
def aside (s u : State) : Bool :=
  u.mem == s.mem && (s.tiles.all fun q => (u.tile q.1).priv == (s.tile q.1).priv && (List.range 16).all fun c =>
    ((u.tile q.1).slot c).th.x == ((s.tile q.1).slot c).th.x && ((u.tile q.1).slot c).th.f == ((s.tile q.1).slot c).th.f &&
    ((u.tile q.1).slot c).th.fcsr == ((s.tile q.1).slot c).th.fcsr)

/-- s with one message under way, from tile 9 unless said otherwise. -/
def withMsg (s : State) (dst : Node) (rank : Option Nat) (b : Body) (src : Node := .tile 9) : State :=
  { s with net := [⟨7, src, dst, rank, 0, [], 0, b⟩], nextId := 8 }

/-- The message arrives, at a tile that is no stand-in. -/
def arrives (s : State) (t : Nat) (b : Body) : Bool :=
  match s.arrive 7 with
  | some (r, _) => r.at_ == t && !r.stand && r.msg.body == b
  | none => false

/-- The bodies of the messages under way. -/
def bodies (s : State) : List Body := s.net.map (·.body)
def dests (s : State) : List Node := s.net.map (·.dst)
/-- Messages are under way, and the body of each meets a test. -/
def bodiesAre (s : State) (p : Body → Bool) : Bool := !s.net.isEmpty && s.net.all fun m => p m.body

/-! ### Well-formed instructions -/

theorem test_wf_rounding : (Instr.faddD 1 2 3 5).wf = false ∧ (Instr.fmaddS 1 2 3 4 6).wf = false ∧ (Instr.faddD 1 2 3 7).wf = true := by decide +kernel
theorem test_wf_gtopo : (Instr.gtopo 10 20).wf = false ∧ (Instr.gtopo 10 19).wf = true := by decide +kernel
theorem test_wf_event : (Instr.tickEdge 0).wf = false ∧ (encode (.tickEdge 0)) = none := by decide +kernel
theorem test_decode_rejects : (match decode 0#32 with | .ok _ => false | _ => true) = true ∧ decodeTableWord 32 0xFFFFFFFF = none := by decide +kernel
/-- A reserved register field that is not 0 does not decode (03_encoding.md). -/
theorem test_decode_reserved_field : (match decode 0x427302DB#32 with | .ok _ => false | _ => true) = true ∧ (Instr.vcvt 5 6 7 1).wf = false := by decide +kernel

/-! ### Words written out from the spec's encodings -/

theorem test_decode_lb_to_addi :
    decode 0xABC58503#32 = .ok (.lb 10 11 2748) ∧
    decode 0xABC59503#32 = .ok (.lh 10 11 2748) ∧
    decode 0xABC5A503#32 = .ok (.lw 10 11 2748) ∧
    decode 0xABC5B503#32 = .ok (.ld 10 11 2748) ∧
    decode 0xABC5C503#32 = .ok (.lbu 10 11 2748) ∧
    decode 0xABC5D503#32 = .ok (.lhu 10 11 2748) ∧
    decode 0xABC5E503#32 = .ok (.lwu 10 11 2748) ∧
    decode 0xAAC58E23#32 = .ok (.sb 11 12 2748) ∧
    decode 0xAAC59E23#32 = .ok (.sh 11 12 2748) ∧
    decode 0xAAC5AE23#32 = .ok (.sw 11 12 2748) ∧
    decode 0xAAC5BE23#32 = .ok (.sd 11 12 2748) ∧
    decode 0xABC58513#32 = .ok (.addi 10 11 2748) := by decide +kernel

theorem test_decode_slti_to_rev8 :
    decode 0xABC5A513#32 = .ok (.slti 10 11 2748) ∧
    decode 0xABC5B513#32 = .ok (.sltiu 10 11 2748) ∧
    decode 0xABC5C513#32 = .ok (.xori 10 11 2748) ∧
    decode 0xABC5E513#32 = .ok (.ori 10 11 2748) ∧
    decode 0xABC5F513#32 = .ok (.andi 10 11 2748) ∧
    decode 0x02B59513#32 = .ok (.slli 10 11 43) ∧
    decode 0x02B5D513#32 = .ok (.srli 10 11 43) ∧
    decode 0x42B5D513#32 = .ok (.srai 10 11 43) ∧
    decode 0x60059513#32 = .ok (.clz 10 11) ∧
    decode 0x60159513#32 = .ok (.ctz 10 11) ∧
    decode 0x60259513#32 = .ok (.cpop 10 11) ∧
    decode 0x6B85D513#32 = .ok (.rev8 10 11) := by decide +kernel

theorem test_decode_addiw_to_and :
    decode 0xABC5851B#32 = .ok (.addiw 10 11 2748) ∧
    decode 0x0155951B#32 = .ok (.slliw 10 11 21) ∧
    decode 0x0155D51B#32 = .ok (.srliw 10 11 21) ∧
    decode 0x4155D51B#32 = .ok (.sraiw 10 11 21) ∧
    decode 0x00C58533#32 = .ok (.add 10 11 12) ∧
    decode 0x00C59533#32 = .ok (.sll 10 11 12) ∧
    decode 0x00C5A533#32 = .ok (.slt 10 11 12) ∧
    decode 0x00C5B533#32 = .ok (.sltu 10 11 12) ∧
    decode 0x00C5C533#32 = .ok (.xor 10 11 12) ∧
    decode 0x00C5D533#32 = .ok (.srl 10 11 12) ∧
    decode 0x00C5E533#32 = .ok (.or 10 11 12) ∧
    decode 0x00C5F533#32 = .ok (.and 10 11 12) := by decide +kernel

theorem test_decode_sub_to_sh2add :
    decode 0x40C58533#32 = .ok (.sub 10 11 12) ∧
    decode 0x40C5D533#32 = .ok (.sra 10 11 12) ∧
    decode 0x02C58533#32 = .ok (.mul 10 11 12) ∧
    decode 0x02C59533#32 = .ok (.mulh 10 11 12) ∧
    decode 0x02C5A533#32 = .ok (.mulhsu 10 11 12) ∧
    decode 0x02C5B533#32 = .ok (.mulhu 10 11 12) ∧
    decode 0x02C5C533#32 = .ok (.div 10 11 12) ∧
    decode 0x02C5D533#32 = .ok (.divu 10 11 12) ∧
    decode 0x02C5E533#32 = .ok (.rem 10 11 12) ∧
    decode 0x02C5F533#32 = .ok (.remu 10 11 12) ∧
    decode 0x20C5A533#32 = .ok (.sh1add 10 11 12) ∧
    decode 0x20C5C533#32 = .ok (.sh2add 10 11 12) := by decide +kernel

theorem test_decode_sh3add_to_divw :
    decode 0x20C5E533#32 = .ok (.sh3add 10 11 12) ∧
    decode 0x0AC5C533#32 = .ok (.min 10 11 12) ∧
    decode 0x0AC5D533#32 = .ok (.minu 10 11 12) ∧
    decode 0x0AC5E533#32 = .ok (.max 10 11 12) ∧
    decode 0x0AC5F533#32 = .ok (.maxu 10 11 12) ∧
    decode 0x00C5853B#32 = .ok (.addw 10 11 12) ∧
    decode 0x00C5953B#32 = .ok (.sllw 10 11 12) ∧
    decode 0x00C5D53B#32 = .ok (.srlw 10 11 12) ∧
    decode 0x40C5853B#32 = .ok (.subw 10 11 12) ∧
    decode 0x40C5D53B#32 = .ok (.sraw 10 11 12) ∧
    decode 0x02C5853B#32 = .ok (.mulw 10 11 12) ∧
    decode 0x02C5C53B#32 = .ok (.divw 10 11 12) := by decide +kernel

theorem test_decode_divuw_to_lui :
    decode 0x02C5D53B#32 = .ok (.divuw 10 11 12) ∧
    decode 0x02C5E53B#32 = .ok (.remw 10 11 12) ∧
    decode 0x02C5F53B#32 = .ok (.remuw 10 11 12) ∧
    decode 0xCAC58C63#32 = .ok (.beq 11 12 2652) ∧
    decode 0xCAC59C63#32 = .ok (.bne 11 12 2652) ∧
    decode 0xCAC5CC63#32 = .ok (.blt 11 12 2652) ∧
    decode 0xCAC5DC63#32 = .ok (.bge 11 12 2652) ∧
    decode 0xCAC5EC63#32 = .ok (.bltu 11 12 2652) ∧
    decode 0xCAC5FC63#32 = .ok (.bgeu 11 12 2652) ∧
    decode 0x8634B56F#32 = .ok (.jal 10 678961) ∧
    decode 0xABC58567#32 = .ok (.jalr 10 11 2748) ∧
    decode 0xABCDE537#32 = .ok (.lui 10 703710) := by decide +kernel

theorem test_decode_auipc_to_csrrc :
    decode 0xABCDE517#32 = .ok (.auipc 10 703710) ∧
    decode 0x0C30000F#32 = .ok (.fence 0 12 3 0 0) ∧
    decode 0x0000100F#32 = .ok .fenceI ∧
    decode 0x00000073#32 = .ok .ecall ∧
    decode 0x00100073#32 = .ok .ebreak ∧
    decode 0x10200073#32 = .ok .sret ∧
    decode 0x30200073#32 = .ok .mret ∧
    decode 0x10500073#32 = .ok .wfi ∧
    decode 0x12C58073#32 = .ok (.sfenceVma 11 12) ∧
    decode 0x34059573#32 = .ok (.csrrw 10 832 11) ∧
    decode 0x3405A573#32 = .ok (.csrrs 10 832 11) ∧
    decode 0x3405B573#32 = .ok (.csrrc 10 832 11) := by decide +kernel

theorem test_decode_csrrwi_to_fnmsubS :
    decode 0x3409D573#32 = .ok (.csrrwi 10 832 19) ∧
    decode 0x3409E573#32 = .ok (.csrrsi 10 832 19) ∧
    decode 0x3409F573#32 = .ok (.csrrci 10 832 19) ∧
    decode 0xABC5A287#32 = .ok (.flw 5 11 2748) ∧
    decode 0xABC5B287#32 = .ok (.fld 5 11 2748) ∧
    decode 0xAA75AE27#32 = .ok (.fsw 11 7 2748) ∧
    decode 0xAA75BE27#32 = .ok (.fsd 11 7 2748) ∧
    decode 0x207322C3#32 = .ok (.fmaddS 5 6 7 4 2) ∧
    decode 0x227322C3#32 = .ok (.fmaddD 5 6 7 4 2) ∧
    decode 0x207322C7#32 = .ok (.fmsubS 5 6 7 4 2) ∧
    decode 0x227322C7#32 = .ok (.fmsubD 5 6 7 4 2) ∧
    decode 0x207322CB#32 = .ok (.fnmsubS 5 6 7 4 2) := by decide +kernel

theorem test_decode_fnmsubD_to_fsqrtS :
    decode 0x227322CB#32 = .ok (.fnmsubD 5 6 7 4 2) ∧
    decode 0x207322CF#32 = .ok (.fnmaddS 5 6 7 4 2) ∧
    decode 0x227322CF#32 = .ok (.fnmaddD 5 6 7 4 2) ∧
    decode 0x007322D3#32 = .ok (.faddS 5 6 7 2) ∧
    decode 0x027322D3#32 = .ok (.faddD 5 6 7 2) ∧
    decode 0x087322D3#32 = .ok (.fsubS 5 6 7 2) ∧
    decode 0x0A7322D3#32 = .ok (.fsubD 5 6 7 2) ∧
    decode 0x107322D3#32 = .ok (.fmulS 5 6 7 2) ∧
    decode 0x127322D3#32 = .ok (.fmulD 5 6 7 2) ∧
    decode 0x187322D3#32 = .ok (.fdivS 5 6 7 2) ∧
    decode 0x1A7322D3#32 = .ok (.fdivD 5 6 7 2) ∧
    decode 0x580322D3#32 = .ok (.fsqrtS 5 6 2) := by decide +kernel

theorem test_decode_fsqrtD_to_fleS :
    decode 0x5A0322D3#32 = .ok (.fsqrtD 5 6 2) ∧
    decode 0x207302D3#32 = .ok (.fsgnjS 5 6 7) ∧
    decode 0x227302D3#32 = .ok (.fsgnjD 5 6 7) ∧
    decode 0x207312D3#32 = .ok (.fsgnjnS 5 6 7) ∧
    decode 0x227312D3#32 = .ok (.fsgnjnD 5 6 7) ∧
    decode 0x207322D3#32 = .ok (.fsgnjxS 5 6 7) ∧
    decode 0x227322D3#32 = .ok (.fsgnjxD 5 6 7) ∧
    decode 0x287302D3#32 = .ok (.fminS 5 6 7) ∧
    decode 0x2A7302D3#32 = .ok (.fminD 5 6 7) ∧
    decode 0x287312D3#32 = .ok (.fmaxS 5 6 7) ∧
    decode 0x2A7312D3#32 = .ok (.fmaxD 5 6 7) ∧
    decode 0xA0730553#32 = .ok (.fleS 10 6 7) := by decide +kernel

theorem test_decode_fleD_to_fcvtDH :
    decode 0xA2730553#32 = .ok (.fleD 10 6 7) ∧
    decode 0xA0731553#32 = .ok (.fltS 10 6 7) ∧
    decode 0xA2731553#32 = .ok (.fltD 10 6 7) ∧
    decode 0xA0732553#32 = .ok (.feqS 10 6 7) ∧
    decode 0xA2732553#32 = .ok (.feqD 10 6 7) ∧
    decode 0x401322D3#32 = .ok (.fcvtSD 5 6 2) ∧
    decode 0x420322D3#32 = .ok (.fcvtDS 5 6 2) ∧
    decode 0x404322D3#32 = .ok (.fcvtSH 5 6 2) ∧
    decode 0x405322D3#32 = .ok (.fcvtSBf 5 6 2) ∧
    decode 0x406322D3#32 = .ok (.fcvtSE4 5 6 2) ∧
    decode 0x407322D3#32 = .ok (.fcvtSE5 5 6 2) ∧
    decode 0x424322D3#32 = .ok (.fcvtDH 5 6 2) := by decide +kernel

theorem test_decode_fcvtDBf_to_fcvtWS :
    decode 0x425322D3#32 = .ok (.fcvtDBf 5 6 2) ∧
    decode 0x426322D3#32 = .ok (.fcvtDE4 5 6 2) ∧
    decode 0x427322D3#32 = .ok (.fcvtDE5 5 6 2) ∧
    decode 0x450322D3#32 = .ok (.fcvtHS 5 6 2 true) ∧
    decode 0x451322D3#32 = .ok (.fcvtHD 5 6 2 true) ∧
    decode 0x454322D3#32 = .ok (.fcvtBfS 5 6 2 true) ∧
    decode 0x455322D3#32 = .ok (.fcvtBfD 5 6 2 true) ∧
    decode 0x458322D3#32 = .ok (.fcvtE4S 5 6 2 true) ∧
    decode 0x459322D3#32 = .ok (.fcvtE4D 5 6 2 true) ∧
    decode 0x45C322D3#32 = .ok (.fcvtE5S 5 6 2 true) ∧
    decode 0x45D322D3#32 = .ok (.fcvtE5D 5 6 2 true) ∧
    decode 0xC1032553#32 = .ok (.fcvtWS 10 6 2 true) := by decide +kernel

theorem test_decode_fcvtWuS_to_fcvtDW :
    decode 0xC1132553#32 = .ok (.fcvtWuS 10 6 2 true) ∧
    decode 0xC1232553#32 = .ok (.fcvtLS 10 6 2 true) ∧
    decode 0xC1332553#32 = .ok (.fcvtLuS 10 6 2 true) ∧
    decode 0xC3032553#32 = .ok (.fcvtWD 10 6 2 true) ∧
    decode 0xC3132553#32 = .ok (.fcvtWuD 10 6 2 true) ∧
    decode 0xC3232553#32 = .ok (.fcvtLD 10 6 2 true) ∧
    decode 0xC3332553#32 = .ok (.fcvtLuD 10 6 2 true) ∧
    decode 0xD005A2D3#32 = .ok (.fcvtSW 5 11 2) ∧
    decode 0xD015A2D3#32 = .ok (.fcvtSWu 5 11 2) ∧
    decode 0xD025A2D3#32 = .ok (.fcvtSL 5 11 2) ∧
    decode 0xD035A2D3#32 = .ok (.fcvtSLu 5 11 2) ∧
    decode 0xD205A2D3#32 = .ok (.fcvtDW 5 11 2) := by decide +kernel

theorem test_decode_fcvtDWu_to_frecipH :
    decode 0xD215A2D3#32 = .ok (.fcvtDWu 5 11 2) ∧
    decode 0xD225A2D3#32 = .ok (.fcvtDL 5 11 2) ∧
    decode 0xD235A2D3#32 = .ok (.fcvtDLu 5 11 2) ∧
    decode 0xE0030553#32 = .ok (.fmvXW 10 6) ∧
    decode 0xE2030553#32 = .ok (.fmvXD 10 6) ∧
    decode 0xE0031553#32 = .ok (.fclassS 10 6) ∧
    decode 0xE2031553#32 = .ok (.fclassD 10 6) ∧
    decode 0xF00582D3#32 = .ok (.fmvWX 5 11) ∧
    decode 0xF20582D3#32 = .ok (.fmvDX 5 11) ∧
    decode 0x700322D3#32 = .ok (.frecipS 5 6 2) ∧
    decode 0x720322D3#32 = .ok (.frecipD 5 6 2) ∧
    decode 0x740322D3#32 = .ok (.frecipH 5 6 2) := by decide +kernel

theorem test_decode_frecipBf_to_lwuW :
    decode 0x760322D3#32 = .ok (.frecipBf 5 6 2) ∧
    decode 0x701322D3#32 = .ok (.frsqrtS 5 6 2) ∧
    decode 0x721322D3#32 = .ok (.frsqrtD 5 6 2) ∧
    decode 0x741322D3#32 = .ok (.frsqrtH 5 6 2) ∧
    decode 0x761322D3#32 = .ok (.frsqrtBf 5 6 2) ∧
    decode 0x04C5850B#32 = .ok (.lbW 10 11 12 2) ∧
    decode 0x04C5950B#32 = .ok (.lhW 10 11 12 2) ∧
    decode 0x04C5A50B#32 = .ok (.lwW 10 11 12 2) ∧
    decode 0x04C5B50B#32 = .ok (.ldW 10 11 12 2) ∧
    decode 0x04C5C50B#32 = .ok (.lbuW 10 11 12 2) ∧
    decode 0x04C5D50B#32 = .ok (.lhuW 10 11 12 2) ∧
    decode 0x04C5E50B#32 = .ok (.lwuW 10 11 12 2) := by decide +kernel

theorem test_decode_sbW_to_wself :
    decode 0x0CC5850B#32 = .ok (.sbW 10 11 12 2) ∧
    decode 0x0CC5950B#32 = .ok (.shW 10 11 12 2) ∧
    decode 0x0CC5A50B#32 = .ok (.swW 10 11 12 2) ∧
    decode 0x0CC5B50B#32 = .ok (.sdW 10 11 12 2) ∧
    decode 0x1405850B#32 = .ok (.ldrem 10 11 2) ∧
    decode 0x1005900B#32 = .ok (.migrate 11) ∧
    decode 0x1005A50B#32 = .ok (.home 10 11) ∧
    decode 0x10C5B50B#32 = .ok (.padd 10 11 12) ∧
    decode 0x18C5850B#32 = .ok (.wjoin 10 11 12) ∧
    decode 0x1805900B#32 = .ok (.wwait 11) ∧
    decode 0x1805A50B#32 = .ok (.wtest 10 11) ∧
    decode 0x1800350B#32 = .ok (.wself 10) := by decide +kernel

theorem test_decode_wcoarsen_to_aadd :
    decode 0x1805C50B#32 = .ok (.wcoarsen 10 11) ∧
    decode 0x1C00500B#32 = .ok (.pfence 2) ∧
    decode 0x24C5850B#32 = .ok (.aaddP 10 11 12 2) ∧
    decode 0x24C5950B#32 = .ok (.aandP 10 11 12 2) ∧
    decode 0x24C5A50B#32 = .ok (.aorP 10 11 12 2) ∧
    decode 0x24C5B50B#32 = .ok (.axorP 10 11 12 2) ∧
    decode 0x24C5C50B#32 = .ok (.aminP 10 11 12 2) ∧
    decode 0x24C5D50B#32 = .ok (.amaxP 10 11 12 2) ∧
    decode 0x24C5E50B#32 = .ok (.aminuP 10 11 12 2) ∧
    decode 0x24C5F50B#32 = .ok (.amaxuP 10 11 12 2) ∧
    decode 0x2CC5850B#32 = .ok (.afaddP 10 11 12 2) ∧
    decode 0x34C5850B#32 = .ok (.aadd 10 11 12 2) := by decide +kernel

theorem test_decode_aswap_to_pin :
    decode 0x34C5950B#32 = .ok (.aswap 10 11 12 2) ∧
    decode 0x34C5A50B#32 = .ok (.acas 10 11 12 2) ∧
    decode 0x3C05850B#32 = .ok (.tdec 10 11 2) ∧
    decode 0x00C5802B#32 = .ok (.spawn 11 12) ∧
    decode 0x0205802B#32 = .ok (.join 11) ∧
    decode 0x0405802B#32 = .ok (.exit 11) ∧
    decode 0x0600002B#32 = .ok .yield ∧
    decode 0x08C5852B#32 = .ok (.tstart 10 11 12) ∧
    decode 0x0A05852B#32 = .ok (.treap 10 11) ∧
    decode 0x0C05802B#32 = .ok (.tkill 11) ∧
    decode 0x0EC5802B#32 = .ok (.tarm 11 12) ∧
    decode 0x1000002B#32 = .ok .pin := by decide +kernel

theorem test_decode_unpin_to_gleave :
    decode 0x1200002B#32 = .ok .unpin ∧
    decode 0x1530052B#32 = .ok (.gtopo 10 19) ∧
    decode 0x16C5802B#32 = .ok (.irqsend 11 12) ∧
    decode 0x1800002B#32 = .ok .uiret ∧
    decode 0x1B35802B#32 = .ok (.tracemark 11 19) ∧
    decode 0x0135952B#32 = .ok (.ctxread 10 11 19) ∧
    decode 0x02C599AB#32 = .ok (.ctxwrite 11 12 19) ∧
    decode 0x0400102B#32 = .ok .preempt ∧
    decode 0x0605902B#32 = .ok (.resume 11) ∧
    decode 0x0005A52B#32 = .ok (.gcreate 10 11) ∧
    decode 0x0205A02B#32 = .ok (.gjoin 11) ∧
    decode 0x0405A02B#32 = .ok (.gleave 11) := by decide +kernel

theorem test_decode_gsync_to_bget :
    decode 0x0605A02B#32 = .ok (.gsync 11) ∧
    decode 0x0805A52B#32 = .ok (.gcount 10 11) ∧
    decode 0x0A05A02B#32 = .ok (.gdissolve 11) ∧
    decode 0x00C5B02B#32 = .ok (.binit 11 12) ∧
    decode 0x0205B52B#32 = .ok (.barrive 10 11) ∧
    decode 0x04C5B02B#32 = .ok (.bwait 11 12) ∧
    decode 0x06C5B52B#32 = .ok (.btest 10 11 12) ∧
    decode 0x08C5B02B#32 = .ok (.bexpect 11 12) ∧
    decode 0x0AC5B02B#32 = .ok (.bcomplete 11 12) ∧
    decode 0x0C05B02B#32 = .ok (.bretire 11) ∧
    decode 0x0EC5B02B#32 = .ok (.gang 11 12) ∧
    decode 0x0090452B#32 = .ok (.bget 10 9) := by decide +kernel

theorem test_decode_bput_to_vcvt :
    decode 0x0205C4AB#32 = .ok (.bput 11 9) ∧
    decode 0x04C5C02B#32 = .ok (.furrow 11 12) ∧
    decode 0x0600402B#32 = .ok .unfurrow ∧
    decode 0x027302DB#32 = .ok (.vfadd 5 6 7 1) ∧
    decode 0x0A7302DB#32 = .ok (.vfsub 5 6 7 1) ∧
    decode 0x127302DB#32 = .ok (.vfmul 5 6 7 1) ∧
    decode 0x1A7302DB#32 = .ok (.vfma 5 6 7 1) ∧
    decode 0x227302DB#32 = .ok (.vfmin 5 6 7 1) ∧
    decode 0x2A7302DB#32 = .ok (.vfmax 5 6 7 1) ∧
    decode 0x327302DB#32 = .ok (.vfdiv 5 6 7 1) ∧
    decode 0x3A0302DB#32 = .ok (.vfsqrt 5 6 1) ∧
    decode 0x420302DB#32 = .ok (.vcvt 5 6 0 1) := by decide +kernel

theorem test_decode_vfill_to_spos :
    decode 0x4A0302DB#32 = .ok (.vfill 5 6 1) ∧
    decode 0x520302DB#32 = .ok (.vmov 5 6 1) ∧
    decode 0x5A7302DB#32 = .ok (.vaxpy 5 6 7 1) ∧
    decode 0x620302DB#32 = .ok (.vscal 5 6 1) ∧
    decode 0x6A7302DB#32 = .ok (.vdot 5 6 7 1) ∧
    decode 0x720302DB#32 = .ok (.vsum 5 6 1) ∧
    decode 0x7A0302DB#32 = .ok (.vmaxr 5 6 1) ∧
    decode 0x827302DB#32 = .ok (.viadd 5 6 7 1) ∧
    decode 0x8A7302DB#32 = .ok (.vgather 5 6 7 1) ∧
    decode 0x000592DB#32 = .ok (.scfg 5 11) ∧
    decode 0x080592DB#32 = .ok (.sen 5 11) ∧
    decode 0x1003155B#32 = .ok (.spos 10 6) := by decide +kernel

theorem test_decode_vwait_to_larm :
    decode 0x0000205B#32 = .ok .vwait ∧
    decode 0x0800255B#32 = .ok (.vstat 10) ∧
    decode 0x0005857B#32 = .ok (.mxop 10 11) ∧
    decode 0x0205857B#32 = .ok (.mxg 10 11) ∧
    decode 0x0405857B#32 = .ok (.mxstat 10 11) ∧
    decode 0x0605807B#32 = .ok (.mxcancel 11) ∧
    decode 0x0000157B#32 = .ok (.cpyq 10) ∧
    decode 0x0200157B#32 = .ok (.cpyqNb 10) ∧
    decode 0x0405957B#32 = .ok (.cwptr 10 11) ∧
    decode 0x0605907B#32 = .ok (.cwait 11) ∧
    decode 0x00C5A57B#32 = .ok (.lpost 10 11 12) ∧
    decode 0x02C5A57B#32 = .ok (.larm 10 11 12) := by decide +kernel

theorem test_decode_lcnt_to_hmint :
    decode 0x0405A57B#32 = .ok (.lcnt 10 11) ∧
    decode 0x0605A57B#32 = .ok (.kappend 10 11) ∧
    decode 0x08C5A07B#32 = .ok (.qwake 11 12) ∧
    decode 0x0005F57B#32 = .ok (.hld 10 11) ∧
    decode 0x02C5F07B#32 = .ok (.hst 11 12) ∧
    decode 0x04C5F57B#32 = .ok (.hnarrow 10 11 12) ∧
    decode 0x06C5F57B#32 = .ok (.hdrop 10 11 12) ∧
    decode 0x08C5F57B#32 = .ok (.hseek 10 11 12) ∧
    decode 0x0B35F57B#32 = .ok (.hlock 10 11 19) ∧
    decode 0x0D35F57B#32 = .ok (.hopen 10 11 19) ∧
    decode 0x0F35F57B#32 = .ok (.hinfo 10 11 19) ∧
    decode 0x10C5F57B#32 = .ok (.hmint 10 11 12) := by decide +kernel


/-! ### Integer instructions -/

theorem test_add : let s := base 0 (xs [(11, 5), (12, 0xFFFFFFFFFFFFFFFF#64)] ready)
    isAlu (.add 10 11 12) = true ∧ CanIssue (.add 10 11 12) s ∧
    nx (exec (.add 10 11 12) s) (fun t => t.cur.x 10 == 4 && t.cur.th.pc == 4) = true := by decide +kernel

theorem test_sraiw : let s := base 1 (xs [(11, 0x00000000F0000000#64)] ready)
    isAlu (.sraiw 10 11 4) = true ∧ CanIssue (.sraiw 10 11 4) s ∧
    nx (exec (.sraiw 10 11 4) s) (fun t => t.cur.x 10 == 0xFFFFFFFFFF000000#64) = true := by decide +kernel

theorem test_mulhsu : let s := base 0 (xs [(11, 0xFFFFFFFFFFFFFFFF#64), (12, 0xFFFFFFFFFFFFFFFF#64)] ready)
    CanIssue (.mulhsu 10 11 12) s ∧ nx (exec (.mulhsu 10 11 12) s) (fun t => t.cur.x 10 == 0xFFFFFFFFFFFFFFFF#64) = true := by
  decide +kernel

theorem test_x0_discards : let s := base 0 (xs [(11, 5)] ready)
    CanIssue (.add 0 11 11) s ∧ nx (exec (.add 0 11 11) s) (fun t => t.cur.x 0 == 0 && t.cur.th.pc == 4) = true := by
  decide +kernel

theorem test_div : let s := base 0 (xs [(11, 0xFFFFFFFFFFFFFFF9#64), (12, 2)] ready)
    divGives s.cur (.div 10 11 12) 10 40 0xFFFFFFFFFFFFFFFD#64 ∧ CanIssue (.div 10 11 12) s ∧
    nx (exec (.div 10 11 12) s) (fun t => t.cur.xEmpty 10 && t.cur.pend.map (·.kind) == [.divide 40 0xFFFFFFFFFFFFFFFD#64]) = true := by
  refine ⟨?_, ?_, ?_⟩
  · simp only [divGives]; decide +kernel
  all_goals decide +kernel

theorem test_divide_result : let p : Producer := ⟨3, .x 10, .all, 0, 0, .divide 40 7, 0⟩
    let s := (base 0 { ready with pend := [p] }).modTile 0 fun T => { T with cycles := 40 }
    (s.ctx (.tile 0) 0).pend = [p] ∧ 40 ≤ (s.tile 0).cycles ∧
    nx (exec (.divideResult 0 0) s) (fun t => (t.ctx (.tile 0) 0).x 10 == 7 && !(t.ctx (.tile 0) 0).xEmpty 10) = true := by
  decide +kernel

theorem test_branch_taken : let s := base 0 (xs [(11, 5), (12, 5)] ready)
    (branchGives s.cur (.beq 11 12 0xFFC) true 0xFFC) ∧ CanIssue (.beq 11 12 0xFFC) s ∧
    (pcPlus s.cur.th.pc (0xFFC#12).toInt).getLsbD 1 = false ∧
    nx (exec (.beq 11 12 0xFFC) s) (fun t => t.cur.th.pc == 0xFFFFFFFFFFFFFFF8#64) = true := by
  refine ⟨?_, ?_, ?_, ?_⟩
  · simp only [branchGives]; decide +kernel
  all_goals decide +kernel

theorem test_branch_not_taken : let s := base 0 (xs [(11, 5), (12, 6)] ready)
    (branchGives s.cur (.bge 11 12 0xFFC) false 0xFFC) ∧ CanIssue (.bge 11 12 0xFFC) s ∧
    nx (exec (.bge 11 12 0xFFC) s) (fun t => t.cur.th.pc == 4) = true := by
  refine ⟨?_, ?_, ?_⟩
  · simp only [branchGives]; decide +kernel
  all_goals decide +kernel

theorem test_branch_misaligned : let s := base 0 (xs [(11, 5), (12, 5)] ready)
    (branchGives s.cur (.beq 11 12 3) true 3) ∧ CanIssue (.beq 11 12 3) s ∧
    (pcPlus s.cur.th.pc (3#12).toInt).getLsbD 1 = true ∧ isNext (exec (.beq 11 12 3) s) (s.trap 0 6) = true := by
  refine ⟨?_, ?_, ?_, ?_⟩
  · simp only [branchGives]; decide +kernel
  all_goals decide +kernel

theorem test_jal : let s := base 0 ready
    CanIssue (.jal 1 0x1000) s ∧ (pcPlus s.cur.th.pc (0x1000#20).toInt).getLsbD 1 = false ∧
    nx (exec (.jal 1 0x1000) s) (fun t => t.cur.x 1 == 4 && t.cur.th.pc == 0x2000#64) = true := by decide +kernel

theorem test_jal_misaligned : let s := base 0 ready
    CanIssue (.jal 1 1) s ∧ (pcPlus s.cur.th.pc (1#20).toInt).getLsbD 1 = true ∧
    isNext (exec (.jal 1 1) s) (s.trap 0 2) = true := by decide +kernel

theorem test_jalr_same_register : let s := base 0 (xs [(11, 0x101)] ready)
    CanIssue (.jalr 11 11 0xFFF) s ∧ (0x100#64) = BitVec.ofInt 64 (((s.cur.x 11).toInt + (0xFFF#12).toInt) / 2 * 2) ∧
    nx (exec (.jalr 11 11 0xFFF) s) (fun t => t.cur.x 11 == 4 && t.cur.th.pc == 0x100#64) = true := by decide +kernel

theorem test_jalr_misaligned : let s := base 0 (xs [(11, 0x103)] ready)
    CanIssue (.jalr 10 11 0) s ∧ (0x102#64) = BitVec.ofInt 64 (((s.cur.x 11).toInt + (0#12).toInt) / 2 * 2) ∧
    isNext (exec (.jalr 10 11 0) s) (s.trap 0 0x102) = true := by decide +kernel

/-! ### Traps, returns, CSRs -/

theorem test_illegal_by_slot : let s := base 1 ready
    encoded .mret = true ∧ legalHere .mret s = false ∧ isNext (exec .mret s) (s.trap 2 0x30200073) = true := by decide +kernel

theorem test_illegal_word : let s := base 0 ready
    isNext (exec (.illegalInstruction 0) s) (s.trap 2 0) = true := by decide +kernel

theorem test_own_illegal : let s := base 0 ready
    encoded (.migrate 10) = true ∧ ownIllegal (.migrate 10) s = true ∧
    nx (exec (.migrate 10) s) (fun t => (t.priv (.tile 0)).mcause == 2 && (t.priv (.tile 0)).mtval == (Instr.migrate 10).word.zeroExtend 64) = true := by
  decide +kernel

def emptyX (r : XReg) (pol : Word) : State :=
  base 0 { ready with pend := [⟨1, .x r, .all, 0, 0, .divide 40 7, 0⟩], th := { ready.th with fepol := pol } }

theorem test_empty_policy_1 : let s := emptyX 11 0x800
    encoded (.add 10 11 12) = true ∧ legalHere (.add 10 11 12) s = true ∧ ownIllegal (.add 10 11 12) s = false ∧
    namesPort (usesOf (.add 10 11 12)) s.cur = false ∧ (∃ r ∈ (usesOf (.add 10 11 12)).xr, s.cur.xEmpty r = true ∧ s.cur.xPolicy r = true) ∧
    (∀ r ∈ (usesOf (.add 10 11 12)).xr, s.cur.xEmpty r = true → s.cur.xPolicy r = true) ∧
    isNext (exec (.add 10 11 12) s) (s.trap 24 11) = true := by decide +kernel

theorem test_empty_policy_0 : let s := emptyX 11 0
    (∃ r ∈ (usesOf (.add 10 11 12)).xr, s.cur.xEmpty r = true) ∧ (∀ r ∈ (usesOf (.add 10 11 12)).xr, s.cur.xPolicy r = false) ∧
    legalHere (.add 10 11 12) s = true ∧ namesPort (usesOf (.add 10 11 12)) s.cur = false ∧
    isNext (exec (.add 10 11 12) s) (s.modCur fun c => { c with st := .parkedReg, wait := .reg (.x 11) }) = true := by decide +kernel

theorem test_empty_float : let s := base 0 { ready with pend := [⟨1, .f 2, .all, 0, 0, .float 40 1 7 0, 0⟩], th := { ready.th with fepol := 0x400000000#64 } }
    let i := Instr.faddD 1 2 3 0
    encoded i = true ∧ legalHere i s = true ∧ ownIllegal i s = false ∧ namesPort (usesOf i) s.cur = false ∧
    (∀ r ∈ (usesOf i).xr, s.cur.xEmpty r = false) ∧
    (∃ r ∈ (usesOf i).fr, s.cur.fEmpty r = true ∧ s.cur.bound r = false ∧ s.cur.fPolicy r = true) ∧
    (∀ r ∈ (usesOf i).fr, s.cur.fEmpty r = true → s.cur.fPolicy r = true) ∧
    isNext (exec i s) (s.trap 24 34) = true := by decide +kernel

theorem test_empty_destination : let s := emptyX 10 0xFFFFFFFFFE
    let i := Instr.add 10 11 12
    encoded i = true ∧ legalHere i s = true ∧ ownIllegal i s = false ∧ namesPort (usesOf i) s.cur = false ∧
    (∀ r ∈ (usesOf i).xr, s.cur.xEmpty r = false) ∧ (∀ r ∈ (usesOf i).fr, s.cur.fEmpty r = false) ∧
    (∃ r ∈ (usesOf i).xw, r ≠ 0 ∧ s.cur.xEmpty r = true) ∧
    isNext (exec i s) (s.modCur fun c => { c with st := .parkedReg, wait := .reg (.x 10) }) = true := by decide +kernel

/-- Tile 0 with privileged registers p and slot 0 at pc. -/
def privAt (p : Priv) (pc : Word) : State :=
  (base 0 { ready with th := { ready.th with pc := pc } }).modTile 0 fun T => { T with priv := p }

theorem test_trap_to_m : let s := privAt { Priv.reset with mstatus := 0x8, mode := .u, mtvec := 0x4001 } 0x1230
    s.curSlot = 0 ∧ ((s.priv s.focus).mode = .m ∨ (s.priv s.focus).medeleg.getLsbD 5 = false) ∧
    (let t := s.trap 5 0x99
     let q := t.priv (.tile 0)
     q.mode = .m ∧ q.mepc = 0x1230 ∧ q.mcause = 5 ∧ q.mtval = 0x99 ∧ q.mstatus = 0x80 ∧ t.cur.th.pc = 0x4000) := by decide +kernel

theorem test_trap_to_s : let s := privAt { Priv.reset with mstatus := 0x2, mode := .s, medeleg := 0x20, stvec := 0x4000 } 0x1230
    s.curSlot = 0 ∧ ((s.priv s.focus).mode ≠ .m ∧ (s.priv s.focus).medeleg.getLsbD 5 = true) ∧
    (let t := s.trap 5 0x99
     let q := t.priv (.tile 0)
     q.mode = .s ∧ q.sepc = 0x1230 ∧ q.scause = 5 ∧ q.stval = 0x99 ∧ q.mstatus = 0x120 ∧ t.cur.th.pc = 0x4000) := by decide +kernel

theorem test_light_trap : let s := base 3 { ready with th := { ready.th with pc := 0x1230 } }
    s.curSlot ≠ 0 ∧ (s.trap 5 0x99).cur.st = .trapped ∧ (s.trap 5 0x99).cur.trap = ⟨false, 5, 0x99, 0x1230, 1000⟩ := by decide +kernel

theorem test_ecall : let s := privAt { Priv.reset with mode := .s } 0x40
    CanIssue .ecall s ∧ nx (exec .ecall s) (fun t => (t.priv (.tile 0)).mcause == 9 && (t.priv (.tile 0)).mepc == 0x40) = true := by
  decide +kernel

theorem test_ebreak : let s := base 2 { ready with th := { ready.th with pc := 0x1230 } }
    CanIssue .ebreak s ∧ nx (exec .ebreak s) (fun t => t.cur.trap.cause == 3 && t.cur.trap.tval == 0x1230) = true := by decide +kernel

theorem test_mret : let s := privAt { Priv.reset with mstatus := 0x20880#64, mepc := 0x500 } 0x40
    CanIssue .mret s ∧ nx (exec .mret s) (fun t => (t.priv (.tile 0)).mode == .s && (t.priv (.tile 0)).mstatus == 0x88 && t.cur.th.pc == 0x500) = true := by
  decide +kernel

theorem test_sret : let s := privAt { Priv.reset with mode := .s, mstatus := 0x20#64, sepc := 0x500 } 0x40
    CanIssue .sret s ∧ ownIllegal .sret s = false ∧
    nx (exec .sret s) (fun t => (t.priv (.tile 0)).mode == .u && (t.priv (.tile 0)).mstatus == 0x22 && t.cur.th.pc == 0x500) = true := by
  decide +kernel

theorem test_interrupt : let s := privAt { Priv.reset with mstatus := 0x8, mie := 0x80000, mip := 0x80000, mtvec := 0x4001 } 0x40
    (s.ctx (.tile 0) 0).st = .ready ∧ (s.ctx (.tile 0) 0).stage = .none ∧
    (let p := s.priv (.tile 0)
     let can (k : Nat) : Bool := (s.mip (.tile 0)).getLsbD k && (k == 21 || (p.mie.getLsbD k && !p.mideleg.getLsbD k &&
       (p.mode != .m || p.mstatus.getLsbD 3)))
     can 19 = true ∧ (∀ k ∈ [21, 20, 19, 18, 17, 16, 3, 1], 19 < k → can k = false) ∧ p.mideleg.getLsbD 21 = false) ∧
    nx (exec (.interruptTake 0) s) (fun t => (t.priv (.tile 0)).mcause == 0x8000000000000013#64 &&
      (t.ctx (.tile 0) 0).th.pc == 0x404C#64 && (t.priv (.tile 0)).mepc == 0x40) = true := by decide +kernel

theorem test_csr_read : let s := base 2 { ready with th := { ready.th with fcsr := 0xE5 } }
    csrForm s.cur (.csrrs 10 2 0) 10 2 false (fun old => old ||| s.cur.x 0) ∧ csrReads s 2 = some 7 ∧ s.csrLegal 2 false = true ∧
    s.cur.fcsrBusy = false ∧ CanIssue (.csrrs 10 2 0) s ∧ nx (exec (.csrrs 10 2 0) s) (fun t => t.cur.x 10 == 7) = true := by
  refine ⟨⟨rfl, rfl, by decide, rfl⟩, ?_⟩
  decide +kernel

theorem test_csr_write : let s := privAt { Priv.reset with mtval := 0x33, mideleg := 0 } 0
    let i := Instr.csrrwi 10 0x303 0x1F
    csrForm s.cur i 10 0x303 true (fun _ => (0x1F#5).zeroExtend 64) ∧ csrReads s 0x303 = some 0 ∧
    csrWrites (s.priv s.focus) 0x303 0x1F = some { s.priv s.focus with mideleg := 2 } ∧ s.csrLegal 0x303 true = true ∧ CanIssue i s ∧
    nx (exec i s) (fun t => (t.priv (.tile 0)).mideleg == 2 && t.cur.x 10 == 0) = true := by
  refine ⟨⟨rfl, rfl, rfl, rfl⟩, ?_⟩
  decide +kernel

theorem test_csr_set_mstatus : let s := privAt { Priv.reset with mstatus := 0 } 0
    let i := Instr.csrrs 10 0x300 11
    let s := s.modCur (xs [(11, 0xFFFFFFFFFFFFFFFF#64)])
    csrForm s.cur i 10 0x300 true (fun old => old ||| s.cur.x 11) ∧ csrReads s 0x300 = some 0x8000000A00006000#64 ∧ CanIssue i s ∧
    s.csrLegal 0x300 true = true ∧ nx (exec i s) (fun t => (t.priv (.tile 0)).mstatus == 0x7E19AA#64) = true := by
  refine ⟨⟨rfl, rfl, by decide, rfl⟩, ?_⟩
  decide +kernel

theorem test_frm_write : let s := base 2 (xs [(11, 3)] { ready with th := { ready.th with fcsr := 0x15 } })
    let i := Instr.csrrw 10 2 11
    csrForm s.cur i 10 2 true (fun _ => s.cur.x 11) ∧ csrReads s 2 = some 0 ∧ CanIssue i s ∧ s.csrLegal 2 true = true ∧
    s.cur.fcsrBusy = false ∧ nx (exec i s) (fun t => t.cur.th.fcsr == 0x75) = true := by
  refine ⟨⟨rfl, rfl, rfl, rfl⟩, ?_⟩
  decide +kernel

theorem test_mip_write : let s := privAt { Priv.reset with mip := 0x2 } 0
    (s.priv (.tile 0)).mode = .m ∧ nx (exec (.mipWrite 0 0xFFFFFFFFFFFFFFFF#64) s) (fun t => (t.priv (.tile 0)).mip == 0x1C000A) = true := by
  decide +kernel

theorem test_satp_write : let s := privAt { Priv.reset with mode := .s } 0
    (s.priv (.tile 0)).mode = .s ∧ (s.priv (.tile 0)).mstatus.getLsbD 20 = false ∧
    nx (exec (.satpWrite 0 0x9000000012345678#64) s) (fun t => (t.priv (.tile 0)).satp == 0x9000000002345678#64) = true := by decide +kernel

theorem test_arrcfg_write : let s := privAt { Priv.reset with mode := .s } 0
    (s.priv (.tile 0)).mode ≠ .u ∧ nx (exec (.arrcfgWrite 0 0x73F) s) (fun t => (t.tile 0).pth0 == 7 && (t.tile 0).adepth == 32) = true := by
  decide +kernel

theorem test_fcsr_access : let s := base 2 ready
    (s.ctx (.tile 0) 2).fcsrBusy = false ∧ nx (exec (.fcsrAccess 0 2 0x1FF) s) (fun t => (t.ctx (.tile 0) 2).th.fcsr == 0xFF) = true := by
  decide +kernel

/-! ### Decode, step, floating point -/

theorem test_ill_formed_rounding : (Instr.faddD 1 2 3 5).wf = false ∧ (Instr.faddD 1 2 3 6).wf = false ∧
    decode (Instr.faddD 1 2 3 5).word = .reject .roundingMode := by decide +kernel
theorem test_ill_formed_selector : (Instr.gtopo 10 20).wf = false ∧ (Instr.gtopo 10 19).wf = true := by decide +kernel
theorem test_ill_formed_event : (Instr.interruptTake 0).wf = false ∧ (Instr.lftWrite 0 []).wf = false ∧
    encode (.interruptTake 0) = none := by decide +kernel
theorem test_round_trip : (Instr.jal 1 0xA5C31).wf = true ∧ encode (.jal 1 0xA5C31) = some (Instr.jal 1 0xA5C31).word := by decide +kernel
theorem test_decode_inverse : decode 0x01450533#32 = .ok (.add 10 10 20) := by decide +kernel

/-- addi x10, x0, 5 at the PC of tile 0, its line present. -/
def addiAt : State :=
  { (base 0 ready).modTile 0 (fun T => { T with lines := [0] }) with
    mem := [(0, 0x13), (1, 0x05), (2, 0x50)], agenda := [.turn (.tile 0)] }

theorem test_step : let s0 : State := { addiAt with agenda := [], focus := .tile 0 }
    addiAt.agenda = [.turn (.tile 0)] ∧ s0.between = s0 ∧ s0.mayIssue = true ∧ s0.cur.pref = none ∧ s0.xlatMode true = none ∧
    ptrSpace s0.cur.th.pc = 0 ∧ ptrAddr s0.cur.th.pc < 2 ^ 33 ∧ ptrAddr s0.cur.th.pc % 4 = 0 ∧ s0.poison 0 0 = 0 ∧ s0.awaiting 0 0 = false ∧
    lineOf (ptrAddr s0.cur.th.pc) ∈ (addiAt.tile 0).lines ∧ decodeBytes (addiAt.rdMem (dramKey 0 0) 4) = .ok (.addi 10 0 5) ∧
    nx (step addiAt) (fun t => (t.ctx (.tile 0) 0).x 10 == 5 && (t.ctx (.tile 0) 0).th.pc == 4) = true := by decide +kernel

theorem test_step_event : let s : State := { base 0 ready with agenda := [.event (.illegalInstruction 0)] }
    s.agenda = [.event (.illegalInstruction 0)] ∧ nx (step s) (fun t => (t.priv (.tile 0)).mcause == 2) = true := by decide +kernel

theorem test_step_word : (match State.beginTurn { addiAt with agenda := [] } (.tile 0) with
    | .word w _ => w == 0x00500513#32
    | _ => false) = true ∧ decode 0x00500513#32 = .ok (.addi 10 0 5) := by decide +kernel

theorem test_step_reject : (match State.beginTurn { addiAt with agenda := [], mem := [] } (.tile 0) with
    | .word w _ => w == 0
    | _ => false) = true ∧ decode 0#32 = .reject .majorOpcode ∧
    nx (step { addiAt with mem := [] }) (fun t => (t.priv (.tile 0)).mcause == 2) = true := by decide +kernel

theorem test_reset_canonical : State.reset.Inv ∧ nx (step addiAt) (fun t => t.mem.wf) = true ∧ addiAt.Inv := by
  unfold State.Inv; decide +kernel

theorem test_x0 : (0#5 : XReg) ≠ 1 ∧ (Ctx.free.setX 1 7).x 1 = 7 ∧ (Ctx.free.setX 0 7) = Ctx.free := by decide +kernel

theorem test_fadd_s : let s := base 1 (fs [(1, 0xFFFFFFFF3F800000#64), (2, 0xFFFFFFFF33800000#64)] ready)
    floatGives s.cur (.faddS 3 1 2 3) = some (3, 2, 0x3F800001, 1#5) ∧ CanIssue (.faddS 3 1 2 3) s ∧
    nx (exec (.faddS 3 1 2 3) s) (fun t => t.cur.f 3 == 0xFFFFFFFF3F800001#64 && t.cur.th.fcsr == 1) = true := by decide +kernel

theorem test_unboxed_operand : let s := base 1 (fs [(1, 0x3F800000#64), (2, 0xFFFFFFFF3F800000#64)] ready)
    CanIssue (.fmulS 3 1 2 0) s ∧ nx (exec (.fmulS 3 1 2 0) s) (fun t => t.cur.f 3 == 0xFFFFFFFF7FC00000#64 && t.cur.th.fcsr == 0) = true := by
  decide +kernel

theorem test_fcvt_w_d : let s := base 1 (fs [(1, 0xC004000000000000#64)] ready)
    floatGivesX s.cur (.fcvtWD 10 1 1 false) = some (10, 0xFFFFFFFFFFFFFFFE#64, 1#5) ∧ CanIssue (.fcvtWD 10 1 1 false) s ∧
    nx (exec (.fcvtWD 10 1 1 false) s) (fun t => t.cur.x 10 == 0xFFFFFFFFFFFFFFFE#64 && t.cur.th.fcsr == 1) = true := by decide +kernel

theorem test_feq_nan : let s := base 1 (fs [(1, 0x7FF8000000000000#64)] ready)
    floatGivesX s.cur (.fltD 10 1 1) = some (10, 0, 16#5) ∧ CanIssue (.fltD 10 1 1) s ∧
    nx (exec (.fltD 10 1 1) s) (fun t => t.cur.x 10 == 0 && t.cur.th.fcsr == 16) = true := by decide +kernel

theorem test_fdiv : let s := base 1 (fs [(1, 0x3FF0000000000000#64), (2, 0)] ready)
    floatLate s.cur (.fdivD 3 1 2 0) = some (3, 1, 72, 0x7FF0000000000000, 8#5) ∧ CanIssue (.fdivD 3 1 2 0) s ∧
    nx (exec (.fdivD 3 1 2 0) s) (fun t => t.cur.fEmpty 3 && t.cur.pend.map (·.kind) == [.float 73 1 0x7FF0000000000000#64 8]) = true := by
  decide +kernel

theorem test_fdiv_result : let p : Producer := ⟨3, .f 2, .all, 0, 0, .float 40 2 0x3F800000 1, 0⟩
    let s := (base 0 { ready with pend := [p] }).modTile 0 fun T => { T with cycles := 40 }
    (s.ctx (.tile 0) 0).pend = [p] ∧ 40 ≤ (s.tile 0).cycles ∧ nx (exec (.fdivFsqrtResult 0 0) s) (fun t =>
      (t.ctx (.tile 0) 0).f 2 == 0xFFFFFFFF3F800000#64 && !(t.ctx (.tile 0) 0).fEmpty 2 && (t.ctx (.tile 0) 0).th.fcsr == 1) = true := by
  decide +kernel

theorem test_representable : fp16 ∈ [fp64, fp32, fp16, bf16, e4m3, e5m2] ∧ 1 < 2 ^ fp16.width ∧
    (match fp16.value 1 with
     | .fin _ _ _ => true
     | _ => false) = true ∧ fp16.ofValue .rne false (fp16.value 1) = (1, 0#5) := by decide +kernel

theorem test_nan : fp32 ∈ [fp64, fp32] ∧ (fp32.value 0x7F800001).isNan = true ∧ fp32.add .rne 0x7F800001 0 = (0x7FC00000, 16#5) ∧
    fp32.mul .rne 0x7FC00001 0 = (0x7FC00000, 0#5) := by decide +kernel

/-! ### Loads, stores and atomics -/

/-- A scratchpad pointer, and the mode fields of a context. -/
def sp (off : Nat) : Word := BitVec.ofNat 64 (2 ^ 60 + off)

def spadLoad : State := { base 1 (xs [(11, sp 0x10010)] ready) with mem := [(spadKey 0 0x10011, 0x80)] }

theorem test_load_scratchpad : let s := spadLoad
    s.focus = .tile 0 ∧ loadForm s.cur (.lh 10 11 0) = some (.x 10, .s16, sp 0x10010, 0, 0) ∧ CanIssue (.lh 10 11 0) s ∧
    SpadOk (sp 0x10010) 2 s ∧ ptrAddr (sp 0x10010) / 64 ∉ (s.tile 0).badLines ∧ NoWait 0 s ∧ s.checkCur 0 = .satisfied ∧
    nx (exec (.lh 10 11 0) s) (fun t => t.cur.x 10 == 0xFFFFFFFFFFFF8000#64 && t.cur.th.pc == 4) = true := by decide +kernel

theorem test_load_top_of_scratchpad : let s : State := { base 0 (xs [(11, sp 0x7FFFF8)] ready) with mem := [(spadKey 0 0x7FFFFF, 0x3F)] }
    SpadOk (sp 0x7FFFF8) 8 s ∧ CanIssue (.fld 2 11 0) s ∧ nx (exec (.fld 2 11 0) s) (fun t => t.cur.f 2 == 0x3F00000000000000#64) = true := by
  decide +kernel

theorem test_load_own_rank : let s : State := { (base 1 (xs [(11, 0x2000)] ready)).modTile 0 (fun T => { T with lines := [0x80] }) with mem := [(0x2007, 0xAA)] }
    loadForm s.cur (.ldW 10 11 0 3) = some (.x 10, .d64, 0x2000, 0, 3) ∧ CanIssue (.ldW 10 11 0 3) s ∧
    s.xlatOnce akLoad 0x2000 = .ok (.dram 0 0x2000 false false) ∧ 0 = s.rankOf 0 ∧ OwnOk 0x2000 0 s ∧ lineOf 0x2000 ∈ (s.tile 0).lines ∧
    NoWait 3 s ∧ s.checkCur 0 = .satisfied ∧
    nx (exec (.ldW 10 11 0 3) s) (fun t => t.cur.x 10 == 0xAA00000000000000#64) = true := by decide +kernel

theorem test_load_migrates : let s := base 1 (xs [(11, 0x200000000#64)] ready)
    s.focus = .tile 0 ∧ loadForm s.cur (.ld 10 11 8) = some (.x 10, .d64, 0x200000008#64, 0, 0) ∧ CanIssue (.ld 10 11 8) s ∧
    s.xlatOnce akLoad 0x200000008#64 = .ok (.dram 1 8 false false) ∧ 1 ≠ s.rankOf 0 ∧ s.full = false ∧ s.cur.th.pinned = false ∧
    s.cur.th.furrow = false ∧ s.cur.proxyNext = false ∧ s.tied = false ∧ witKind 0 ≠ 3 ∧
    nx (exec (.ld 10 11 8) s) (fun t => t.cur.st == .departing && t.cur.target == 1 && t.cur.th.pc == 0) = true := by decide +kernel

theorem test_load_proxied : let s := base 0 (xs [(11, 0x200000000#64)] ready)
    CanIssue (.ld 10 11 8) s ∧ s.xlatOnce akLoad 0x200000008#64 = .ok (.dram 1 8 false false) ∧ s.full = true ∧ s.cur.th.ownOver = 0 ∧
    s.mapOf 0 1 = some 9 ∧ nx (exec (.ld 10 11 8) s) (fun t => t.cur.xEmpty 10 && t.cur.th.pc == 4 && (t.net.map (·.dst)) == [.tile 9]) = true := by
  decide +kernel

theorem test_load_host : let s := (base 0 (xs [(11, 0x2000000000000100#64)] ready))
    loadForm s.cur (.lw 10 11 0) = some (.x 10, .s32, 0x2000000000000100#64, 0, 0) ∧ CanIssue (.lw 10 11 0) s ∧
    s.xlatOnce akLoad 0x2000000000000100#64 = .ok (.host 0x100) ∧ s.cur.c3 = 0 ∧ s.cur.th.ownOver = 0 ∧ s.checkCur 0 = .satisfied ∧
    nx (exec (.lw 10 11 0) s) (fun t => t.cur.pend.map (·.kind) == [.host 0x100 4 .s32] && t.cur.xEmpty 10) = true := by decide +kernel

theorem test_load_peer : let p : Word := 0x3000001400000040#64
    let s := (base 0 (xs [(11, p)] ready))
    CanIssue (.ld 10 11 0) s ∧ s.xlatOnce akLoad p = .ok (.peer p) ∧ peerEp p = 5 ∧
    nx (exec (.ld 10 11 0) s) (fun t => t.net.map (·.dst) == [.bridge 1] && t.cur.xEmpty 10) = true := by decide +kernel

theorem test_host_reply : let p : Producer := ⟨3, .x 10, .all, 0, 0, .host 0x100 4 .s32, 0⟩
    let s := base 0 { ready with pend := [p] }
    (s.ctx (.tile 0) 0).pend = [p] ∧
    nx (exec (.hostReadReply 0 0 0x80000000#64) s) (fun t => (t.ctx (.tile 0) 0).x 10 == 0xFFFFFFFF80000000#64) = true := by decide +kernel

theorem test_misaligned_load : let s := base 0 (xs [(11, sp 0x10001)] ready)
    CanIssue (.lw 10 11 0) s ∧ loadForm s.cur (.lw 10 11 0) = some (.x 10, .s32, sp 0x10001, 0, 0) ∧ ptrAddr (sp 0x10001) % 4 ≠ 0 ∧
    isNext (exec (.lw 10 11 0) s) (s.trap 4 (sp 0x10001)) = true := by decide +kernel

theorem test_reserved_scratchpad : let s := base 1 (xs [(11, sp 0xFFF8)] ready)
    CanIssue (.ld 10 11 0) s ∧ (ptrSpace (sp 0xFFF8) = 1 ∧ s.mode = .u ∧ ptrAddr (sp 0xFFF8) < 0x10000) ∧
    isNext (exec (.ld 10 11 0) s) (s.trap 5 (sp 0xFFF8)) = true := by decide +kernel

theorem test_store_space_4 : let p : Word := 0x4000000000000000#64
    let s := base 1 (xs [(11, p)] ready)
    CanIssue (.sb 11 12 0) s ∧ storeForm s.cur (.sb 11 12 0) = some (0, leBytes 1 0, p, 0) ∧ 4 ≤ ptrSpace p ∧
    isNext (exec (.sb 11 12 0) s) (s.trap 7 p) = true := by decide +kernel

theorem test_misaligned_store : let s := base 1 (xs [(11, sp 0x10004)] ready)
    CanIssue (.sdW 10 11 12 0) s ∧ ptrAddr (sp 0x10004) % (leBytes 8 0).length ≠ 0 ∧
    isNext (exec (.sdW 10 11 12 0) s) (s.trap 6 (sp 0x10004)) = true := by decide +kernel

theorem test_misaligned_returning : let s := base 1 (xs [(11, sp 0x10004)] ready)
    CanIssue (.aadd 10 11 12 1) s ∧ (returningForm s.cur (.aadd 10 11 12 1)).isSome ∧ isNext (exec (.aadd 10 11 12 1) s) (s.trap 4 (sp 0x10004)) = true := by
  decide +kernel

theorem test_misaligned_posted : let s := base 1 (xs [(11, sp 0x10004)] ready)
    CanIssue (.aaddP 10 11 12 0) s ∧ isNext (exec (.aaddP 10 11 12 0) s) (s.trap 6 (sp 0x10004)) = true := by decide +kernel

theorem test_misaligned_tdec : let s := base 1 (xs [(11, sp 0x10008)] ready)
    CanIssue (.tdec 10 11 0) s ∧ isNext (exec (.tdec 10 11 0) s) (s.trap 6 (sp 0x10008)) = true := by decide +kernel

theorem test_store_scratchpad : let s := base 1 (xs [(11, sp 0x10010), (12, 0x1122334455667788#64)] ready)
    CanIssue (.sw 11 12 4) s ∧ storeForm s.cur (.sw 11 12 4) = some (0, [0x88, 0x77, 0x66, 0x55], sp 0x10014, 0) ∧ SpadOk (sp 0x10014) 4 s ∧ NoWait 0 s ∧
    nx (exec (.sw 11 12 4) s) (fun t => t.mem == [(spadKey 0 0x10014, 0x88), (spadKey 0 0x10015, 0x77), (spadKey 0 0x10016, 0x66), (spadKey 0 0x10017, 0x55)]) = true := by
  decide +kernel

theorem test_posted_atomic_scratchpad : let s : State := { base 1 (xs [(11, sp 0x10010), (12, 0xFFFFFFFFFFFFFFFF#64)] ready) with mem := [(spadKey 0 0x10010, 5)] }
    CanIssue (.aminuP 10 11 12 0) s ∧ (atomicForm s.cur (.amaxP 10 11 12 0)).isSome ∧ SpadOk (sp 0x10010) 8 s ∧
    nx (exec (.aminuP 10 11 12 0) s) (fun t => t.mem.word (spadKey 0 0x10010) == 5 && t.cur.x 10 == 0) = true ∧
    nx (exec (.aminP 10 11 12 0) s) (fun t => t.mem.word (spadKey 0 0x10010) == 0xFFFFFFFFFFFFFFFF#64) = true := by decide +kernel

theorem test_store_own_rank : let s := base 1 (xs [(11, 0x2000), (12, 0x55)] ready)
    CanIssue (.sdW 10 11 12 0) s ∧ (s.tile 0).obs.watches = [] ∧ (s.tile 0).rank = some 0 ∧ s.xlatOnce akStore 0x2000 = .ok (.dram 0 0x2000 false false) ∧ OwnOk 0x2000 0 s ∧
    s.kernelOf = none ∧ (s.tile 0).held = [] ∧ storeForm s.cur (.sdW 10 11 12 0) = some (10, [0x55, 0, 0, 0, 0, 0, 0, 0], 0x2000, 0) ∧
    nx (exec (.sdW 10 11 12 0) s) (fun t => t.cur.x 10 == pairWit 0 0 1 && t.mem == [(0x2000, 0x55)] && (t.tile 0).journal == [] &&
      tget (t.tile 0).box.settled 0 == some 1) = true := by decide +kernel

theorem test_atomic_own_rank : let s : State := { base 1 (xs [(11, 0x2000), (12, 0x55)] ready) with mem := [(0x2000, 1)] }
    CanIssue (.aaddP 10 11 12 0) s ∧ nx (exec (.aaddP 10 11 12 0) s) (fun t => t.cur.x 10 == pairWit 0 0 1 && t.mem == [(0x2000, 0x56)]) = true := by
  decide +kernel

theorem test_store_posted : let s := base 1 (xs [(11, 0x200000010#64), (12, 0x55)] ready)
    CanIssue (.sd 11 12 0) s ∧ s.xlatOnce akStore 0x200000010#64 = .ok (.dram 1 16 false false) ∧ s.mapOf 0 1 = some 9 ∧ s.kernelOf = none ∧
    nx (exec (.sd 11 12 0) s) (fun t => (t.net.map (·.dst)) == [.tile 9] && t.mem == [] && tget (t.tile 0).box.issue 1 == some 1 &&
      t.cur.th.own.toList.contains (pairWit 0 1 1) && t.cur.c1 + t.cur.c2 == 1 && (t.cur.c1 == 1) == (fieldOf 9 == fieldOf 0)) = true := by decide +kernel

theorem test_tdec_posted : let s := base 1 (xs [(11, 0x200000010#64)] ready)
    CanIssue (.tdec 10 11 0) s ∧ ptrAddr (effPtr (s.cur.x 11) 0) % 16 = 0 ∧
    nx (exec (.tdec 10 11 0) s) (fun t => t.cur.x 10 == pairWit 0 1 1 && (t.net.map fun m => match m.body with
      | .posted p => p.op == .tdec
      | _ => false) == [true]) = true := by decide +kernel

theorem test_atomic_posted : let s := base 1 (xs [(11, 0x200000010#64), (12, 7)] ready)
    CanIssue (.afaddP 10 11 12 0) s ∧ nx (exec (.afaddP 10 11 12 0) s) (fun t => t.cur.x 10 == pairWit 0 1 1 && (t.net.map fun m => match m.body with
      | .posted p => p.op == .atomic .fadd 7
      | _ => false) == [true]) = true := by decide +kernel

theorem test_store_host : let p : Word := 0x2000000000000100#64
    let s := base 0 (xs [(11, p), (12, 0x55)] ready)
    CanIssue (.sb 11 12 0) s ∧ s.xlatOnce akStore p = .ok (.host 0x100) ∧
    nx (exec (.sbW 10 11 12 0) s) (fun t => t.cur.c3 == 1 && t.hostWrites.map (·.2.2) == [(0x100, [0x55])] && t.cur.x 10 == tickWit 1001 &&
      (t.tile 0).journal.length == 1) = true := by decide +kernel

theorem test_store_peer : let p : Word := 0x3000001400000040#64
    let s := base 0 (xs [(11, p), (12, 0x55)] ready)
    CanIssue (.sb 11 12 0) s ∧ s.xlatOnce akStore p = .ok (.peer p) ∧
    nx (exec (.sb 11 12 0) s) (fun t => t.cur.c3 == 1 && t.net.map (·.dst) == [.bridge 1]) = true := by decide +kernel

theorem test_host_write_completion : let e : JEntry := ⟨4, .host, 0, 1000, some 2, 3, 0, false, none, 0⟩
    let s : State := { (base 2 { ready with c3 := 1 }).modTile 0 (fun T => { T with journal := [e] }) with hostWrites := [(0, 4, 0x100, [1])] }
    s.hostWrites = [(0, 4, 0x100, [1])] ∧ (s.tile 0).journal = [e] ∧
    nx (exec (.hostWriteCompletion 0) s) (fun t => t.hostWrites == [] && (t.tile 0).journal == [] && (t.ctx (.tile 0) 2).c3 == 0) = true := by
  decide +kernel

theorem test_cas_scratchpad : let s : State := { base 1 (xs [(10, 5), (11, sp 0x10010), (12, 9)] ready) with mem := [(spadKey 0 0x10010, 5)] }
    CanIssue (.acas 10 11 12 0) s ∧ (returningForm s.cur (.acas 10 11 12 0)).isSome ∧ SpadOk (sp 0x10010) 8 s ∧
    nx (exec (.acas 10 11 12 0) s) (fun t => t.mem.word (spadKey 0 0x10010) == 9 && t.cur.xEmpty 10 && (t.net.map fun m => match m.body with
      | .proxyRep _ _ v => v == .value 5
      | _ => false) == [true]) = true := by decide +kernel

theorem test_tdec_scratchpad : let s : State := { base 1 (xs [(11, sp 0x10010)] ready) with mem := [(spadKey 0 0x10014, 2)] }
    CanIssue (.tdec 10 11 0) s ∧ SpadOk (sp 0x10010) 16 s ∧ (s.mem.word (spadKey 0 0x10010)).extractLsb' 32 32 ≠ 1#32 ∧
    nx (exec (.tdec 10 11 0) s) (fun t => t.mem == [(spadKey 0 0x10014, 1)] && t.cur.th.pc == 4) = true := by decide +kernel

theorem test_tdec_fires : let s : State := { base 1 (xs [(11, sp 0x10010)] ready) with
      mem := [(spadKey 0 0x10013, 0x80), (spadKey 0 0x10014, 1), (spadKey 0 0x10018, 0x40)] }
    CanIssue (.tdec 10 11 0) s ∧ (s.tile 0).runList.length < 128 ∧ (s.mem.word (spadKey 0 0x10010)).extractLsb' 32 32 = 1#32 ∧ (s.mem.word (spadKey 0 0x10010)).getLsbD 31 = true ∧
    nx (exec (.tdec 10 11 0) s) (fun t => t.mem == [(spadKey 0 0x10018, 0x40)] && (t.tile 0).runList == [descOf 0x40]) = true := by decide +kernel

theorem test_returning_own_rank : let s : State := { base 1 (xs [(11, 0x2000), (12, 9)] ready) with mem := [(0x2000, 5)] }
    CanIssue (.aadd 10 11 12 0) s ∧ s.xlatOnce akRet 0x2000 = .ok (.dram 0 0x2000 false false) ∧ OwnOk 0x2000 0 s ∧ s.kernelOf = none ∧
    nx (exec (.aadd 10 11 12 0) s) (fun t => t.mem == [(0x2000, 14)] && t.cur.xEmpty 10 && bodiesAre t fun b => match b with
      | .proxyRep _ _ v => v == .value 5
      | _ => false) = true := by decide +kernel

theorem test_returning_elsewhere : let s := base 0 (xs [(11, 0x200000010#64), (12, 9)] ready)
    CanIssue (.aswap 10 11 12 0) s ∧ s.xlatOnce akRet 0x200000010#64 = .ok (.dram 1 16 false false) ∧ s.full = true ∧ s.cur.th.ownOver = 0 ∧
    s.mapOf 0 1 = some 9 ∧ nx (exec (.aswap 10 11 12 0) s) (fun t => t.cur.xEmpty 10 && dests t == [.tile 9] && bodiesAre t fun b => match b with
      | .proxyReq r => r.op == .ret .swap 9 0 && r.off == 16
      | _ => false) = true := by decide +kernel

theorem test_ldrem : let s := base 1 (xs [(11, 0x200000010#64)] ready)
    CanIssue (.ldrem 10 11 0) s ∧ s.full = false ∧ s.xlatOnce akLoad 0x200000010#64 = .ok (.dram 1 16 false false) ∧
    nx (exec (.ldrem 10 11 0) s) (fun t => t.cur.st == .ready && t.cur.xEmpty 10 && dests t == [.tile 9]) = true := by decide +kernel

theorem test_returning_departs : let s := base 1 (xs [(11, 0x200000010#64)] ready)
    CanIssue (.acas 10 11 12 0) s ∧ s.full = false ∧ s.cur.th.pinned = false ∧ s.cur.th.furrow = false ∧ s.cur.proxyNext = false ∧
    s.tied = false ∧ nx (exec (.acas 10 11 12 0) s) (fun t => t.cur.st == .departing && t.cur.target == 1 && t.cur.th.pc == 0) = true := by
  decide +kernel

theorem test_returning_host : let p : Word := 0x2000000000000100#64
    let s := base 0 (xs [(11, p)] ready)
    CanIssue (.aadd 10 11 12 0) s ∧ s.xlatMode false = none ∧ s.xlatOnce akRet p = .ok (.host 0x100) ∧
    isNext (exec (.aadd 10 11 12 0) s) (s.trap 5 p) = true := by decide +kernel

theorem test_migrate : let s := base 1 (xs [(11, 0x200000000#64)] ready)
    CanIssue (.migrate 11) s ∧ ownIllegal (.migrate 11) s = false ∧ s.xlatOnce akLoad (effPtr (s.cur.x 11) 0) = .ok (.dram 1 0 false false) ∧
    nx (exec (.migrate 11) s) (fun t => t.cur.st == .departing && t.cur.explicit && t.cur.target == 1) = true := by decide +kernel

theorem test_migrate_home : let s := base 1 (xs [(11, 0x40)] ready)
    CanIssue (.migrate 11) s ∧ nx (exec (.migrate 11) s) (fun t => t.cur.st == .ready && t.cur.th.pc == 4) = true := by decide +kernel

theorem test_home : let s := base 1 (xs [(11, sp 0x10000), (12, 0x200000340#64), (13, 0x4000000000000000#64)] ready)
    CanIssue (.home 10 11) s ∧ (ptrSpace (s.cur.x 11) = 1 ∧ ptrAddr (s.cur.x 11) < 2 ^ 23) ∧
    nx (exec (.home 10 11) s) (fun t => t.cur.x 10 == 0x1000000000000001#64) = true ∧
    s.xlat akLoad (s.cur.x 12) = .ok (.dram 1 0x340 false false) ∧
    nx (exec (.home 10 12) s) (fun t => t.cur.x 10 == BitVec.ofNat 64 (s.classOf 0 1 * 2 ^ 62 + 0x13001)) = true ∧
    s.xlat akLoad 0x2000000000000100#64 = .ok (.host 0x100) ∧ 4 ≤ ptrSpace (s.cur.x 13) ∧
    nx (exec (.home 10 13) s) (fun t => t.cur.x 10 == 0 && t.cur.th.pc == 4) = true := by decide +kernel

/-! ### Witnesses and the system instructions -/

/-- Pair witness of source 1, destination 0, sequence q; and a tick witness. -/
def pw (src dst q : Nat) : Word := pairWit src dst q

theorem test_wjoin_same_pair : let s := base 1 (xs [(11, pw 1 0 5), (12, pw 1 0 9)] ready)
    CanIssue (.wjoin 10 11 12) s ∧ witWf s.grade (s.cur.x 11) = true ∧ witWf s.grade (s.cur.x 12) = true ∧
    nx (exec (.wjoin 10 11 12) s) (fun t => t.cur.x 10 == pw 1 0 9) = true := by decide +kernel

theorem test_wjoin_mixed : let s := base 1 (xs [(11, pw 1 0 5), (12, pw 1 2 9)] ready)
    CanIssue (.wjoin 10 11 12) s ∧ nx (exec (.wjoin 10 11 12) s) (fun t => t.cur.x 10 == tickWit 1001) = true := by decide +kernel

theorem test_wjoin_malformed : let s := base 1 (xs [(11, 1), (12, 0)] ready)
    CanIssue (.wjoin 10 11 12) s ∧ witWf s.grade (s.cur.x 11) = false ∧ isNext (exec (.wjoin 10 11 12) s) (s.trap 25 1) = true := by
  decide +kernel

theorem test_wjoin_second_malformed : let s := base 1 (xs [(11, 0), (12, 1)] ready)
    CanIssue (.wjoin 10 11 12) s ∧ witWf s.grade (s.cur.x 11) = true ∧ witWf s.grade (s.cur.x 12) = false ∧
    isNext (exec (.wjoin 10 11 12) s) (s.trap 25 1) = true := by decide +kernel

theorem test_wcoarsen_and_wtest_malformed : let s := base 1 (xs [(11, 1)] ready)
    CanIssue (.wcoarsen 10 11) s ∧ CanIssue (.wtest 10 11) s ∧ witWf s.grade (s.cur.x 11) = false ∧
    isNext (exec (.wcoarsen 10 11) s) (s.trap 25 1) = true ∧ isNext (exec (.wtest 10 11) s) (s.trap 25 1) = true := by decide +kernel

theorem test_wcoarsen : let s := base 1 (xs [(11, pw 1 0 5)] ready)
    CanIssue (.wcoarsen 10 11) s ∧ witWf s.grade (s.cur.x 11) = true ∧
    nx (exec (.wcoarsen 10 11) s) (fun t => t.cur.x 10 == tickWit 1001) = true := by decide +kernel

theorem test_wself : let s := base 1 { ready with th := { ready.th with own := #v[pw 0 1 3, 0, 0, 0] } }
    CanIssue (.wself 10) s ∧ nx (exec (.wself 10) s) (fun t => t.cur.x 10 == pw 0 1 3) = true := by decide +kernel

def witTile (settled : Nat) (marks : Tbl Mark) (c : Ctx) : State :=
  (base 1 c).modTile 0 fun T => { T with box := { T.box with settled := [(1, settled)], marks := marks } }

theorem test_wwait_satisfied : let s := witTile 5 [] (xs [(11, pw 1 0 5)] ready)
    CanIssue (.wwait 11) s ∧ witWf s.grade (s.cur.x 11) = true ∧ witState s (s.cur.x 11) = some 1 ∧
    nx (exec (.wwait 11) s) (fun t => t.cur.th.pc == 4) = true := by decide +kernel

theorem test_wwait_outstanding : let s := witTile 4 [] (xs [(11, pw 1 0 5)] ready)
    CanIssue (.wwait 11) s ∧ witState s (s.cur.x 11) = some 0 ∧
    isNext (exec (.wwait 11) s) (s.modCur fun c => { c with st := .parkedWit, wait := .wit (pw 1 0 5) }) = true := by decide +kernel

theorem test_wwait_poison : let s := witTile 5 [(1, ⟨5, 0, 5⟩)] (xs [(11, pw 1 0 5)] ready)
    CanIssue (.wwait 11) s ∧ witState s (s.cur.x 11) = some 2 ∧ isNext (exec (.wwait 11) s) (s.trap 26 (pw 1 0 5)) = true := by decide +kernel

theorem test_wwait_malformed : let s := base 1 (xs [(11, 1)] ready)
    CanIssue (.wwait 11) s ∧ witWf s.grade (s.cur.x 11) = false ∧ isNext (exec (.wwait 11) s) (s.trap 25 1) = true := by decide +kernel

theorem test_wwait_probes : let s := base 1 (xs [(11, pw 0 1 5)] ready)
    CanIssue (.wwait 11) s ∧ witState s (s.cur.x 11) = none ∧ s.cur.probes = [] ∧ s.mapOf s.curTile 1 = some 9 ∧
    nx (exec (.wwait 11) s) (fun t => t.cur.st == .parkedWit && dests t == [.tile 9] && bodies t == [.probe ⟨.tile 0, 1, 0⟩ (.wit (pw 0 1 5)) true]) = true := by
  decide +kernel

theorem test_wtest : let s := witTile 4 [] (xs [(11, pw 1 0 5)] ready)
    CanIssue (.wtest 10 11) s ∧ witState s (s.cur.x 11) = some 0 ∧ nx (exec (.wtest 10 11) s) (fun t => t.cur.x 10 == 0 && t.cur.th.pc == 4) = true := by
  decide +kernel

theorem test_wtest_probes : let s := base 1 (xs [(11, pw 0 1 5)] ready)
    CanIssue (.wtest 10 11) s ∧ witState s (s.cur.x 11) = none ∧ s.mapOf 0 1 = some 9 ∧
    nx (exec (.wtest 10 11) s) (fun t => t.cur.xEmpty 10 && t.cur.th.pc == 4 && bodies t == [.probe ⟨.tile 0, 1, 0⟩ (.wit (pw 0 1 5)) false]) = true := by
  decide +kernel

theorem test_pfence : let s := base 1 ready
    CanIssue (.pfence 3) s ∧ NoWait 3 s ∧ nx (exec (.pfence 3) s) (fun t => t.cur.th.pc == 4) = true ∧
    CanIssue (.fence 0 12 3 0 0) s ∧ nx (exec (.fence 0 12 3 0 0) s) (fun t => t.cur.th.pc == 4) = true := by decide +kernel

theorem test_pfence_waits : let s := base 1 { ready with c1 := 1 }
    CanIssue (.pfence 1) s ∧ s.cur.countsClear 1 = false ∧
    isNext (exec (.pfence 1) s) (s.modCur fun c => { c with st := .parkedWit, wait := .counts 1 }) = true := by decide +kernel

theorem test_wfi : let s := privAt { Priv.reset with mie := 0x80000 } 0
    CanIssue .wfi s ∧ ownIllegal .wfi s = false ∧ s.mip s.focus &&& (s.priv s.focus).mie = 0 ∧
    nx (exec .wfi s) (fun t => t.cur.stage == .wfi && t.cur.th.pc == 0) = true := by decide +kernel

theorem test_wfi_pending : let s := privAt { Priv.reset with mie := 0x80000, mip := 0x80000 } 0
    CanIssue .wfi s ∧ s.mip s.focus &&& (s.priv s.focus).mie ≠ 0 ∧ nx (exec .wfi s) (fun t => t.cur.th.pc == 4) = true := by decide +kernel

theorem test_fence_i : let s := base 0 { ready with pref := some (0, []) }
    CanIssue .fenceI s ∧ (∀ e ∈ (s.tile 0).journal, ¬ (e.slot = some 0 ∧ e.cls = 0)) ∧
    nx (exec .fenceI s) (fun t => t.cur.pref == none && t.cur.th.pc == 4) = true := by decide +kernel

/-- Partition 1 holds ranks 0 and 1 in fields 0; rings and window as given. -/
def winReset : Window := ⟨0, 0, List.replicate 16 0, 0, 0, 0, [], [], [], [], [], [], [], [], [], 0, false, 0, [], 0, 0, 0, 0, 0, [], none, 0⟩
def part0 : Part := ⟨[0], [0, 1], 0, 0, 0x10000, 16, 0, 0, 0x20000, 16, 0, 0x30000, none, ⟨0, [], []⟩, winReset⟩
def inPart (s : State) : State := { s with parts := [(1, part0)] }

theorem test_gtopo : let s := inPart (base 0 ready)
    CanIssue (.gtopo 10 8) s ∧ (8#5).toNat < 20 ∧ topoGives s 8 = some 2 ∧
    nx (exec (.gtopo 10 8) s) (fun t => t.cur.x 10 == 2) = true ∧ nx (exec (.gtopo 10 0) s) (fun t => t.cur.x 10 == 900) = true ∧
    topoGives (base 0 ready) 7 = none ∧ nx (exec (.gtopo 10 7) (base 0 ready)) (fun t => t.cur.x 10 == -1) = true := by decide +kernel

/-- R116's example word, and an unassigned selector. -/
theorem test_gtopo_selector : decode 0x1420052B = .ok (.gtopo 10 2) ∧
    isNext (exec (.gtopo 10 20) (base 2 ready)) ((base 2 ready).trap 2 0x1540052B) = true := by decide +kernel

theorem test_pin_furrow : let s := base 2 { ready with th := { ready.th with furrow := true, pinned := true } }
    s.cur.th.furrow = true ∧ CanIssue .pin s ∧ nx (exec .pin s) (fun t => t.cur.th.pinned && t.cur.th.pc == 4) = true ∧
    CanIssue .unpin s ∧ nx (exec .unpin s) (fun t => t.cur.th.pinned && t.cur.th.pc == 4) = true := by decide +kernel

theorem test_pin : let s := base 2 ready
    s.cur.th.furrow = false ∧ CanIssue .pin s ∧ nx (exec .pin s) (fun t => t.cur.th.pinned && t.cur.th.pc == 4) = true ∧
    CanIssue .unpin s ∧ nx (exec .unpin s) (fun t => !t.cur.th.pinned) = true := by decide +kernel

theorem test_tracemark : let s := inPart (base 2 (xs [(11, 0x77)] ready))
    CanIssue (.tracemark 11 3) s ∧ (s.tile 0).traceFlight < 16 ∧ s.partOf (s.rankOf 0) = some 1 ∧ tget s.rankTile part0.traceRank = some 0 ∧
    nx (exec (.tracemark 11 3) s) (fun t => dests t == [.tile 0] && (bodies t).map (fun b => match b with
      | .traceRec p tl w => p == 1 && tl == 0 && w.length == 6 && w.getD 5 0 == 0x77 && fld (w.getD 1 0) 63 32 == 3
      | _ => false) == [true]) = true := by decide +kernel

theorem test_uiret : let s := base 2 { ready with handler := true, uiepc := 0x50 }
    CanIssue .uiret s ∧ s.cur.handler = true ∧ nx (exec .uiret s) (fun t => t.cur.th.pc == 0x50 && !t.cur.handler) = true := by decide +kernel

theorem test_wfi_wake : let s := (base 0 { ready with stage := .wfi }).modTile 0 fun T => { T with priv := { T.priv with mie := 8, mip := 8 } }
    (s.ctx (.tile 0) 0).stage = .wfi ∧ s.mip (.tile 0) &&& (s.priv (.tile 0)).mie ≠ 0 ∧
    nx (exec (.wfiWake 0) s) (fun t => (t.ctx (.tile 0) 0).st == .ready && (t.ctx (.tile 0) 0).th.pc == 4) = true := by decide +kernel

theorem test_copy_interrupt : let s := (base 2 { ready with th := { ready.th with gtid := 5, pc := 0x40 } }).modTile 0 fun T => { T with copyIrqs := [⟨5, 0x900, 3⟩] }
    (s.ctx (.tile 0) 2).st = .ready ∧ (s.ctx (.tile 0) 2).handler = false ∧ (s.tile 0).copyIrqs = [⟨5, 0x900, 3⟩] ∧
    nx (exec (.copyCompletionInterrupt 0 2) s) (fun t => (t.ctx (.tile 0) 2).uiepc == 0x40 && (t.ctx (.tile 0) 2).th.pc == 0x900 &&
      (t.ctx (.tile 0) 2).uixid == 3) = true := by decide +kernel

theorem test_sfence : let s := base 0 ready
    CanIssue (.sfenceVma 0 0) s ∧ ownIllegal (.sfenceVma 0 0) s = false ∧ s.cur.stage = .none ∧ NoWait 3 s ∧ s.curPart = none ∧
    nx (exec (.sfenceVma 0 0) s) (fun t => t.cur.stage == .sfence [0] [0] && t.net.length == 2) = true := by decide +kernel

theorem test_sfence_partition : let s := inPart (base 0 ready)
    CanIssue (.sfenceVma 0 0) s ∧ s.curPart = some 1 ∧ s.tilesOf 1 = [0, 9] ∧ part0.fields = [0] ∧ fieldOf 0 = 0 ∧ fieldOf 9 ≠ 0 ∧
    nx (exec (.sfenceVma 0 0) s) (fun t => t.cur.stage == .sfence [0, 9] [0, fieldOf 9] && t.net.length == 4) = true := by decide +kernel

theorem test_sfence_done : let s := base 0 { ready with stage := .sfence [] [] }
    CanIssue (.sfenceVma 0 0) s ∧ nx (exec (.sfenceVma 0 0) s) (fun t => t.cur.th.pc == 4) = true := by decide +kernel

theorem test_sfence_selection : let s := withMsg ((base 0 ready).modTile 0 fun T => { T with tlb := [⟨0x10000, 16, false, 3, 0⟩] }) (.tile 0) none (.sfence 9 none none (some 3))
    (s.takeMsg 7).isSome = true ∧ nx (exec (.sfenceSelection 7) s) (fun t => (t.tile 0).tlb == []) = true := by decide +kernel

theorem test_sfence_selection_field : let s := withMsg (base 0 ready) (.tile 0) none (.sfence 9 (some 0) none none)
    (s.takeMsg 7).isSome = true ∧ nx (exec (.sfenceSelection 7) s) (fun t => (t.field 0).tlb == []) = true := by decide +kernel

theorem test_sfence_drain : let s := withMsg (base 0 ready) (.tile 0) none (.sfenceDrain 9 none [] [] [] [] [])
    (s.takeMsg 7).isSome = true ∧ nx (exec (.sfenceSelection 7) s) (fun t => dests t == [.tile 9] && bodies t == [.sfenceAck 0 none]) = true := by
  decide +kernel

theorem test_sfence_ack : let s := withMsg (base 0 { ready with stage := .sfence [0, 9] [4] }) (.tile 0) none (.sfenceAck 9 none)
    (s.takeMsg 7).isSome = true ∧ nx (exec (.sfenceAck 7) s) (fun t => (t.ctx (.tile 0) 0).stage == .sfence [0] [4]) = true := by decide +kernel

theorem test_sfence_ack_field : let s := withMsg (base 0 { ready with stage := .sfence [0] [4] }) (.tile 0) none (.sfenceAck 9 (some 4))
    (s.takeMsg 7).isSome = true ∧ nx (exec (.sfenceAck 7) s) (fun t => (t.ctx (.tile 0) 0).stage == .sfence [0] []) = true := by decide +kernel

theorem test_irqsend : let s := inPart (base 0 (xs [(11, 1), (12, 1)] ready))
    CanIssue (.irqsend 11 12) s ∧ s.curPart = some 1 ∧ s.partOf 1 = some 1 ∧ NoWait 3 s ∧ s.mapOf 0 1 = some 9 ∧
    nx (exec (.irqsend 11 12) s) (fun t => dests t == [.tile 9] && bodies t == [.irq 1 1]) = true := by decide +kernel

theorem test_irqsend_foreign : let s := inPart (base 0 (xs [(11, 2), (12, 1)] ready))
    CanIssue (.irqsend 11 12) s ∧ s.partOf 2 ≠ s.curPart ∧ isNext (exec (.irqsend 11 12) s) (s.trap 7 2) = true := by decide +kernel

theorem test_irq_arrives : let s := withMsg (base 0 ready) (.tile 0) (some 0) (.irq 0 3)
    arrives s 0 (.irq 0 3) = true ∧ nx (exec (.irqMessageArrival 7) s) (fun t => (t.priv (.tile 0)).mip == 8) = true := by decide +kernel

/-! ### Slot 0's view of contexts -/

/-- Slot 0 issues with registers l; slot 3 holds context x. -/
def two (l : List (XReg × Word)) (x : Ctx) : State := (base 0 (xs l ready)).modTile 0 fun T => T.setSlot 3 x
def trapped : Ctx := { xs [(5, 0x55)] ready with st := .trapped, trap := ⟨false, 4, 0x77, 0x40, 9⟩ }

theorem test_ctxread : let s := two [(11, 3), (12, 0x13), (13, 0x20), (14, 0x30)] trapped
    CanIssue (.ctxread 10 11 7) s ∧ fld (s.cur.x 11) 63 4 = 0 ∧ packetWord (s.ctx (.tile 0) 3) 7 = some 0x55 ∧
    nx (exec (.ctxread 10 11 7) s) (fun t => t.cur.x 10 == 0x55) = true ∧
    fld (s.cur.x 12) 5 4 = 1 ∧ nx (exec (.ctxread 10 12 1) s) (fun t => t.cur.x 10 == 0x77) = true ∧
    nx (exec (.ctxread 10 12 0) s) (fun t => t.cur.x 10 == 0x9000000000000004#64) = true ∧
    fld (s.cur.x 13) 5 4 = 2 ∧ nx (exec (.ctxread 10 13 0) s) (fun t => t.cur.x 10 == 0) = true ∧
    fld (s.cur.x 14) 5 4 = 3 ∧ nx (exec (.ctxread 10 14 0) s) (fun t => t.cur.x 10 == -1) = true := by decide +kernel

theorem test_ctxwrite : let s := two [(11, 3), (12, 0x99)] trapped
    CanIssue (.ctxwrite 11 12 1) s ∧ (s.ctx (.tile 0) 3).st = .trapped ∧ (∀ p ∈ (s.ctx (.tile 0) 3).pend, p.dest = .none) ∧
    nx (exec (.ctxwrite 11 12 1) s) (fun t => (t.ctx (.tile 0) 3).th.pc == 0x98) = true ∧
    nx (exec (.ctxwrite 11 12 3) s) (fun t => (t.ctx (.tile 0) 3).x 1 == 0x99) = true := by decide +kernel

theorem test_ctxwrite_nothing : let s := two [(11, 0x13), (12, 0x99)] trapped
    CanIssue (.ctxwrite 11 12 1) s ∧ fld (s.cur.x 11) 5 4 = 1 ∧
    nx (exec (.ctxwrite 11 12 1) s) (fun t => t.ctx (.tile 0) 3 == trapped && t.cur.th.pc == 4) = true := by decide +kernel

theorem test_ctxwrite_ack : let e : RefEntry := ⟨true, false, 4, 1, 1, 5, 5, 0, 0, 0, (0, 0, 1)⟩
    let s := (two [(11, 0x20)] trapped).modTile 0 fun T => { T with refusals := T.refusals.set 0 e }
    CanIssue (.ctxwrite 11 12 0) s ∧ fld (s.cur.x 11) 5 4 = 2 ∧ (s.tile 0).refusals.toList.getD 0 RefEntry.empty = e ∧ s.mapOf 0 e.dst = some 9 ∧
    nx (exec (.ctxwrite 11 12 0) s) (fun t => bodies t == [.refAck 0 1 5] && ((t.tile 0).refusals.toList.getD 0 RefEntry.empty).ackpend) = true := by
  decide +kernel

theorem test_ctxwrite_ack_no_rank : let e : RefEntry := ⟨true, false, 4, 4095, 1, 5, 5, 0, 0, 0, (0, 0, 1)⟩
    let s := (two [(11, 0x20)] trapped).modTile 0 fun T => { T with refusals := T.refusals.set 0 e }
    CanIssue (.ctxwrite 11 12 0) s ∧ (s.tile 0).refusals.toList.getD 0 RefEntry.empty = e ∧
    nx (exec (.ctxwrite 11 12 0) s) (fun t => t.net == [] && (t.tile 0).refusals.toList.getD 0 RefEntry.empty == RefEntry.empty) = true := by
  decide +kernel

theorem test_preempt : let s := two [] { ready with th := { ready.th with gtid := 0x1234, pc := 0x40 } }
    CanIssue .preempt s ∧ ownIllegal .preempt s = false ∧ MayPack (s.ctx (.tile 0) 3) ∧ (s.ctx (.tile 0) 3).stage = .none ∧
    nx (exec .preempt s) (fun t => !(t.tile 0).gate && (t.ctx (.tile 0) 3).st == .free && t.mem.word (spadKey 0 0x1300) == 0x1234 &&
      t.mem.word (spadKey 0 0x1308) == 0x40 && (t.mem.word (spadKey 0 0x1000)).getLsbD 0 && (t.mem.word (spadKey 0 0x1000)).getLsbD 35 && t.cur.th.pc == 4) = true := by
  decide +kernel

theorem test_preempt_waits_for_replies : let s := two [] { ready with pend := [⟨3, .none, .all, 0, 0, .access .d64, 1⟩] }
    CanIssue .preempt s ∧ (s.ctx (.tile 0) 3).memBusy = true ∧ nx (exec .preempt s) (fun t => t.cur.stage == .preempt && t.mem == []) = true := by
  decide +kernel

theorem test_preempt_waits : let s := two [] { ready with st := .inFlight }
    CanIssue .preempt s ∧ (s.ctx (.tile 0) 3).st = .inFlight ∧
    nx (exec .preempt s) (fun t => !(t.tile 0).gate && t.cur.stage == .preempt && t.cur.th.pc == 0 && t.mem == []) = true := by decide +kernel

theorem test_resume : let s := two [(11, 3)] trapped
    CanIssue (.resume 11) s ∧ (s.ctx (.tile 0) 3).st = .trapped ∧ ((s.ctx (.tile 0) 3).th.own.toList.all fun e => e == 0) = true ∧
    (s.ctx (.tile 0) 3).th.ownOver = 0 ∧ nx (exec (.resume 11) s) (fun t => (t.ctx (.tile 0) 3).st == .ready) = true := by decide +kernel

theorem test_resume_forward : let s := inPart (two [(11, 0x10013)] trapped)
    CanIssue (.resume 11) s ∧ s.curPart ≠ none ∧ s.partOf 1 = s.curPart ∧
    nx (exec (.resume 11) s) (fun t => (t.ctx (.tile 0) 3).st == .departing && (t.ctx (.tile 0) 3).target == 1) = true := by decide +kernel

theorem test_resume_nothing : let s := two [(11, 0x23)] trapped
    CanIssue (.resume 11) s ∧ s.cur.x 11 ≠ 0 ∧ 2 ≤ fld (s.cur.x 11) 5 4 ∧
    nx (exec (.resume 11) s) (fun t => t.ctx (.tile 0) 3 == trapped && t.cur.th.pc == 4) = true := by decide +kernel

theorem test_resume_all : let s : State := { base 0 ready with mem := [(spadKey 0 0x1000, 1), (spadKey 0 0x1004, 8), (spadKey 0 0x1300, 0x34)] }
    CanIssue (.resume 11) s ∧ s.cur.x 11 = 0 ∧ (∀ d, d < 16 → 1 ≤ d → (s.tile 0).freeSlot d = true) ∧
    (s.mem.word (spadKey 0 0x1000)).getLsbD 0 = true ∧
    nx (exec (.resume 11) s) (fun t => (t.ctx (.tile 0) 3).st != .free && (t.ctx (.tile 0) 3).th.gtid == 0x34 &&
      !(t.mem.word (spadKey 0 0x1000)).getLsbD 0) = true := by decide +kernel

theorem test_resume_illegal : let s := base 0 ready
    CanIssue (.resume 11) s ∧ s.cur.x 11 = 0 ∧ (s.mem.word (spadKey 0 0x1000)).getLsbD 0 = false ∧
    isNext (exec (.resume 11) s) (s.trap 2 ((Instr.resume 11).word.zeroExtend 64)) = true := by decide +kernel

/-! ### Frames, task counters, threads, groups and barriers -/

/-- A word in memory, as bytes that are not zero. -/
def wordAt (k : Nat) (w : Word) : Memory := ((List.range 8).zip (leBytes 8 w.toNat)).filterMap fun p => if p.2 = 0 then none else some (k + p.1, p.2)

theorem test_spawn : let s := base 2 (xs [(2, 0x22), (9, 0x8003), (10, 0x4000)] { ready with th := { ready.th with gtid := 0x99 } })
    CanIssue (.spawn 9 10) s ∧ NoPorts s.cur ∧ MayPack s.cur ∧ s.cur.stage = .none ∧ OwnRecord s 0 0 0x4000 16 0x4000 akStore ∧ s.full = false ∧
    nx (exec (.spawn 9 10) s) (fun t => t.cur.th.pc == 0x8000 && t.cur.x 10 == 0x4000 && t.cur.x 2 == 0x22 && t.cur.x 9 == 0 &&
      t.mem.word 0x4000 == 1 && t.mem.word (spadKey 0 0) == 4 && t.mem.word (spadKey 0 16) == 0x99 && (t.tile 0).dqCount == 1) = true := by decide +kernel

theorem test_spawn_full_deque : let s := (base 2 (xs [(9, 0x8003), (10, 0x4000)] ready)).modTile 0 fun T => { T with dqCount := 64 }
    CanIssue (.spawn 9 10) s ∧ (s.tile 0).dqCount = 64 ∧ nx (exec (.spawn 9 10) s) (fun t => t.cur.trap.cause == 51 && t.cur.trap.tval == 0x4000) = true := by
  decide +kernel

theorem test_spawn_slot_0 : let s := base 0 (xs [(9, 0x8000), (10, 0x4000)] ready)
    CanIssue (.spawn 9 10) s ∧ s.full = true ∧ (slotsLeft (s.tile 0)).head? = some 1 ∧
    nx (exec (.spawn 9 10) s) (fun t => (t.ctx (.tile 0) 1).th.pc == 0x8000 && (t.ctx (.tile 0) 1).st == .ready && t.cur.th.pc == 4 && t.mem.word 0x4000 == 1) = true := by
  decide +kernel

theorem test_exit : let s : State := { base 2 (xs [(10, 0x4000)] { ready with th := { ready.th with own := #v[pw 0 1 3, 0, 0, 0] } }) with mem := wordAt 0x4000 3 }
    CanIssue (.exit 10) s ∧ NoPorts s.cur ∧ MayPack s.cur ∧ s.full = false ∧ (s.tile 0).dqCount = 0 ∧
    nx (exec (.exit 10) s) (fun t => t.cur.st == .free && t.mem.word 0x4000 == 2 && t.mem.word 0x4008 == pw 0 1 3) = true := by decide +kernel

/-- One packet claims one slot: the child takes the next. -/
theorem test_spawn_slot_0_claimed : let s := (base 0 (xs [(9, 0x8000), (10, 0x4000)] ready)).modTile 0 fun T => { T with arrivals := [⟨Thread.reset, true, false, none⟩] }
    CanIssue (.spawn 9 10) s ∧ (slotsLeft (s.tile 0)).head? = some 2 ∧
    nx (exec (.spawn 9 10) s) (fun t => (t.ctx (.tile 0) 2).th.pc == 0x8000 && t.cur.th.pc == 4) = true := by decide +kernel

theorem test_exit_zero : let s := base 2 ready
    CanIssue (.exit 0) s ∧ nx (exec (.exit 0) s) (fun t => t.cur.st == .free && t.mem == []) = true := by decide +kernel

theorem test_exit_slot_0 : let s := base 0 ready
    CanIssue (.exit 0) s ∧ s.full = true ∧ nx (exec (.exit 0) s) (fun t => t.cur.th.pc == 4) = true := by decide +kernel

theorem test_join : let s : State := base 2 (xs [(10, 0x4000)] ready)
    CanIssue (.join 10) s ∧ s.cur.stage = .none ∧ s.xlatOnce akRetS 0x4000 = .ok (.dram 0 0x4000 false false) ∧ 0 = s.rankOf 0 ∧ OwnOk 0x4000 0 s ∧
    witWf s.grade (s.mem.word 0x4008) = true ∧ witState s (s.mem.word 0x4008) = some 1 ∧ nx (exec (.join 10) s) (fun t => t.cur.th.pc == 4) = true := by decide +kernel

theorem test_join_parks : let s : State := { base 2 (xs [(10, 0x4000)] ready) with mem := wordAt 0x4000 1 }
    CanIssue (.join 10) s ∧ s.mem.word 0x4000 ≠ 0 ∧ nx (exec (.join 10) s) (fun t => t.cur.st == .parkedJoin && t.cur.th.pc == 0) = true := by decide +kernel

theorem test_join_departs : let s : State := base 2 (xs [(10, 0x200004000#64)] ready)
    CanIssue (.join 10) s ∧ s.xlatOnce akRetS 0x200004000#64 = .ok (.dram 1 0x4000 false false) ∧ 1 ≠ s.rankOf 0 ∧ s.tied = false ∧
    nx (exec (.join 10) s) (fun t => t.cur.st == .departing && t.cur.target == 1) = true := by decide +kernel

theorem test_yield_alone : let s := base 2 ready
    CanIssue .yield s ∧ ownIllegal .yield s = false ∧ (s.tile 0).arrivals = [] ∧ (s.tile 0).runList = [] ∧
    nx (exec .yield s) (fun t => t.cur.th.pc == 4) = true := by decide +kernel

theorem test_yield : let s := (base 2 { ready with th := { ready.th with gtid := 7 } }).modTile 0 fun T => { T with runList := [⟨0x100, 3⟩] }
    CanIssue .yield s ∧ NoPorts s.cur ∧ MayPack s.cur ∧ (s.tile 0).arrivals.length < (s.tile 0).adepth ∧
    nx (exec .yield s) (fun t => t.cur.st == .free && (t.tile 0).arrivals.map (fun q => (q.th.pc, q.th.gtid, q.yielded)) == [(4, 7, true)]) = true := by
  decide +kernel

theorem test_tarm : let s : State := { base 2 (xs [(10, 0x4000), (11, 2)] ready) with mem := wordAt 0x4000 0x0000000100000005#64 }
    CanIssue (.tarm 10 11) s ∧ s.cur.inherited = false ∧ OwnRecord s 0 0 0x4000 16 0x4000 akRetS ∧
    nx (exec (.tarm 10 11) s) (fun t => t.mem.word 0x4000 == 0x0000000380000005#64 && t.cur.th.pc == 4) = true := by decide +kernel

theorem test_tarm_fires : let s : State := { base 2 (xs [(10, 0x4000), (11, 1)] ready) with
      mem := wordAt 0x4000 0xFFFFFFFF00000000#64 ++ wordAt 0x4008 0x0030000000000800#64 }
    CanIssue (.tarm 10 11) s ∧ nx (exec (.tarm 10 11) s) (fun t => t.mem.word 0x4000 == 0 && (t.tile 0).runList == [⟨0x800, 3⟩]) = true := by decide +kernel

theorem test_tarm_elsewhere : let s := base 0 (xs [(10, 0x200004000#64), (11, 2)] ready)
    CanIssue (.tarm 10 11) s ∧ s.xlatOnce akRetS 0x200004000#64 = .ok (.dram 1 0x4000 false false) ∧ s.kernelOf = none ∧ s.full = true ∧
    s.cur.th.ownOver = 0 ∧ s.mapOf 0 1 = some 9 ∧ nx (exec (.tarm 10 11) s) (fun t => t.cur.th.pc == 4 && dests t == [.tile 9] && bodiesAre t fun b => match b with
      | .proxyReq q => q.op == .tarm 2 && q.rank == 1 && q.off == 0x4000
      | _ => false) = true := by decide +kernel

theorem test_tarm_departs : let s := base 2 (xs [(10, 0x200004000#64), (11, 2)] ready)
    CanIssue (.tarm 10 11) s ∧ s.kernelOf = none ∧ s.full = false ∧ s.cur.th.pinned = false ∧ s.cur.th.furrow = false ∧
    s.cur.proxyNext = false ∧ s.tied = false ∧ nx (exec (.tarm 10 11) s) (fun t => t.cur.st == .departing && t.cur.target == 1) = true := by
  decide +kernel

theorem test_treap : let s := base 0 (xs [(10, 0x200004000#64)] ready)
    CanIssue (.treap 12 10) s ∧ s.cur.th.ownOver = 0 ∧ s.xlatOnce akRetS 0x200004000#64 = .ok (.dram 1 0x4000 false false) ∧ s.mapOf 0 1 = some 9 ∧
    nx (exec (.treap 12 10) s) (fun t => t.cur.xEmpty 12 && dests t == [.tile 9] && (bodies t).map (fun b => match b with
      | .proxyReq q => q.op == .treap && q.rank == 1 && q.off == 0x4000
      | _ => false) == [true]) = true := by decide +kernel

theorem test_tstart : let s : State := { base 0 (xs [(10, sp 0x20000), (11, 5)] ready) with
      mem := wordAt (spadKey 0 0x20000) 0x803 ++ wordAt (spadKey 0 0x20008) 0x77 ++ wordAt (spadKey 0 0x20010) 0xA2 ++ wordAt (spadKey 0 0x20030) 0xE0 }
    CanIssue (.tstart 12 10 11) s ∧ SpadOk (sp 0x20000) 64 s ∧ fld (s.mem.word (spadKey 0 0x20030)) 63 8 = 0 ∧ 5 ∈ slotsLeft (s.tile 0) ∧
    nx (exec (.tstart 12 10 11) s) (fun t => t.cur.x 12 == 5 && (t.ctx (.tile 0) 5).th.pc == 0x800 && (t.ctx (.tile 0) 5).x 10 == 0xA2 &&
      (t.ctx (.tile 0) 5).th.fcsr == 0xE0 && (t.ctx (.tile 0) 5).th.gtid == 0x77 && (t.ctx (.tile 0) 5).st == .ready) = true := by decide +kernel

theorem test_tstart_refused : let s := base 0 (xs [(10, sp 0x20000), (11, 16)] ready)
    CanIssue (.tstart 12 10 11) s ∧ SpadOk (sp 0x20000) 64 s ∧ (s.cur.x 11).toNat ∉ slotsLeft (s.tile 0) ∧
    nx (exec (.tstart 12 10 11) s) (fun t => t.cur.x 12 == 0 && t.cur.th.pc == 4) = true := by decide +kernel

theorem test_tkill : let s := two [(11, 3)] ready
    CanIssue (.tkill 11) s ∧ (s.ctx (.tile 0) 3).st ≠ .inFlight ∧ NoPorts (s.ctx (.tile 0) 3) ∧
    nx (exec (.tkill 11) s) (fun t => (t.ctx (.tile 0) 3).st == .free && t.cur.th.pc == 4) = true ∧
    nx (exec (.tkill 11) (two [(11, 3)] { ready with st := .inFlight })) (fun t => (t.ctx (.tile 0) 3).killed) = true ∧
    nx (exec (.tkill 11) (two [(11, 16)] ready)) (fun t => (t.ctx (.tile 0) 3).st == .ready && t.cur.th.pc == 4) = true ∧
    nx (exec (.tkill 11) (two [(11, 3)] { ready with st := .departing, forwarded := true })) (fun t => (t.ctx (.tile 0) 3).st == .departing) = true := by decide +kernel

theorem test_slot_assign : let q : Queued := ⟨{ Thread.reset with pc := 0x60 }, false, false, none⟩
    let s := (base 0 ready).modTile 0 fun T => { T with arrivals := [q] }
    (s.tile 0).runs = true ∧ (s.ctx (.tile 0) 0).stage ≠ .preempt ∧ (s.tile 0).freeSlot 4 = true ∧ (s.tile 0).arrivals = [q] ∧
    nx (exec (.slotAssign 0 4) s) (fun t => (t.tile 0).arrivals == [] && (t.ctx (.tile 0) 4).th == q.th && (t.ctx (.tile 0) 4).st == .admitted) = true := by
  decide +kernel

theorem test_slot_assign_descriptor : let s := (base 0 ready).modTile 0 fun T => { T with runList := [⟨0x803, 9⟩] }
    (s.tile 0).arrivals = [] ∧ (s.tile 0).freeSlot 4 = true ∧
    nx (exec (.slotAssign 0 4) s) (fun t => (t.tile 0).runList == [] && (t.ctx (.tile 0) 4).th.pc == 0x800 && (t.ctx (.tile 0) 4).x 10 == 9) = true := by
  decide +kernel

/-- Tile 0 with n entries in its deque from index 62. -/
def deque (n : Nat) (m : Memory) : State := { (base 0 ready).modTile 0 (fun T => { T with dqTop := 62, dqCount := n }) with mem := m }

theorem test_deque_resume : let s := deque 3 (wordAt (spadKey 0 0) 0x1F00000000000804#64 ++ wordAt (spadKey 0 8) 0x4000 ++ wordAt (spadKey 0 16) 7)
    (s.tile 0).idle = true ∧ (s.tile 0).dqCount = 2 + 1 ∧ (s.tile 0).lowestSlot = some 1 ∧ witKind (s.mem.word (spadKey 0 24)) ≠ 3 ∧ witWf s.grade (s.mem.word (spadKey 0 24)) = true ∧
    nx (exec (.dequeResume 0) s) (fun t => (t.tile 0).dqCount == 2 && (t.ctx (.tile 0) 1).th.pc == 0x804 && (t.ctx (.tile 0) 1).x 10 == 0x4000 &&
      (t.ctx (.tile 0) 1).th.gtid == 7 && (t.ctx (.tile 0) 1).th.fcsr == 0x1F) = true := by decide +kernel

theorem test_steal_round : let s := inPart { (base 0 ready).setTile 1 (tileOf 1 0 ready) with rankTile := [(0, 0), (1, 1)] }
    (s.tile 0).steal = .idle ∧ (s.tile 0).idle = true ∧ (s.tile 0).dqCount = 0 ∧ (s.tile 0).lowestSlot = some 1 ∧
    (s.victim 0 (s.tile 0).stealOff).isSome = true ∧
    nx (exec (.stealRound 0) s) (fun t => (t.ctx (.tile 0) 1).reserved && bodies t == [.stealReq 0]) = true := by
  decide +kernel

theorem test_steal_request : let s := withMsg (deque 3 (wordAt (spadKey 0 (32 * 62)) 0x804)) (.tile 0) none (.stealReq 9)
    arrives s 0 (.stealReq 9) = true ∧ (s.tile 0).gate = true ∧
    nx (exec (.stealRequest 7) s) (fun t => (t.tile 0).dqCount == 2 && (t.tile 0).dqTop == 63 && dests t == [.tile 9] && bodies t == [.stealAns (some [0x804, 0, 0, 0])]) = true := by
  decide +kernel

theorem test_steal_request_empty : let s := withMsg (deque 0 []) (.tile 0) none (.stealReq 9)
    arrives s 0 (.stealReq 9) = true ∧ nx (exec (.stealRequest 7) s) (fun t => bodies t == [.stealAns none]) = true := by decide +kernel

/-- The last entry of an idle tile is about to be resumed there (R169). -/
theorem test_steal_request_tie : let s := withMsg (deque 1 (wordAt (spadKey 0 (32 * 62)) 0x804)) (.tile 0) none (.stealReq 9)
    arrives s 0 (.stealReq 9) = true ∧ (s.tile 0).idle = true ∧ nx (exec (.stealRequest 7) s) (fun t => bodies t == [.stealAns none]) = true := by decide +kernel

theorem test_steal_answer : let s := withMsg ((base 0 ready).modTile 0 fun T => { T with steal := .asking 1 2 }) (.tile 0) none (.stealAns (some [0x804, 0x4000, 7, 0]))
    arrives s 0 (.stealAns (some [0x804, 0x4000, 7, 0])) = true ∧
    nx (exec (.stealAnswer 7) s) (fun t => (t.tile 0).steal == .idle && (t.ctx (.tile 0) 1).th.pc == 0x804 && (t.ctx (.tile 0) 1).x 11 == 1) = true := by
  decide +kernel

theorem test_steal_answer_last : let s := withMsg ((base 0 ready).modTile 0 fun T => { T with steal := .asking 1 4 }) (.tile 0) none (.stealAns none)
    arrives s 0 (.stealAns none) = true ∧ nx (exec (.stealAnswer 7) s) (fun t => (t.tile 0).steal == .waiting 256) = true := by decide +kernel

theorem test_steal_retry : let s := (base 3 ready).modTile 0 fun T => { T with steal := .waiting 3, runList := [⟨0, 0⟩] }
    (s.tile 0).steal = .waiting 3 ∧ 3 ≤ (s.tile 0).cycles ∧ (s.tile 0).idle = false ∧
    nx (exec (.stealRetryExpiry 0) s) (fun t => (t.tile 0).steal == .idle) = true := by decide +kernel

theorem test_group_request_sent : let s := base 2 (xs [(11, 0x200004000#64)] ready)
    CanIssue (.gcreate 10 11) s ∧ groupForm (.gcreate 10 11) = some (10, 11, .create) ∧ s.xlatOnce akRetS 0x200004000#64 = .ok (.dram 1 0x4000 false false) ∧
    s.cur.th.ownOver = 0 ∧ s.mapOf 0 1 = some 9 ∧ nx (exec (.gcreate 10 11) s) (fun t => t.cur.xEmpty 10 && (bodies t).map (fun b => match b with
      | .proxyReq q => q.op == .group .create 0 && q.off == 0x4000
      | _ => false) == [true]) = true := by decide +kernel

theorem test_gsync : let s := base 2 (xs [(11, 0x200004000#64)] ready)
    CanIssue (.gsync 11) s ∧ s.cur.stage = .none ∧ nx (exec (.gsync 11) s) (fun t => t.cur.st == .parkedJoin && t.cur.stage == .gsyncSent 1 0x4000 &&
      dests t == [.tile 9]) = true := by decide +kernel

theorem test_gsync_done : let s := base 2 (xs [(11, 0x200004000#64)] { ready with stage := .gsyncWit 0 })
    CanIssue (.gsync 11) s ∧ witWf s.grade 0 = true ∧ witState s 0 = some 1 ∧ nx (exec (.gsync 11) s) (fun t => t.cur.th.pc == 4) = true := by decide +kernel

/-- A barrier slot's two words at the scratchpad offset 0x20000. -/
def barMem (k : Slot) : Memory := (k.words.flatMap wordBytes).zipIdx.filterMap fun p => if p.1 = 0 then none else some (spadKey 0 0x20000 + p.2, p.1)
def bar (arr exp pend : Nat) : Slot := ⟨0xA5, false, false, 0, exp, arr, 0, 0, pend⟩

theorem test_binit : let s := base 2 (xs [(11, sp 0x20000), (12, 0x100002)] ready)
    barForm s.cur (.binit 11 12) = some (0, 11, .init 0x100002, false) ∧ CanIssue (.binit 11 12) s ∧ SpadOk (sp 0x20000) 16 s ∧
    fld (0x100002#64) 63 21 = 0 ∧ fld (0x100002#64) 19 0 ≠ 0 ∧ (s.readSlot (spadKey 0 0x20000)).tag ≠ 0xA5 ∧
    nx (exec (.binit 11 12) s) (fun t => t.readSlot (spadKey 0 0x20000) == { bar 0 2 0 with phase := true }) = true := by decide +kernel

theorem test_barrive_completes : let s : State := { base 2 (xs [(11, sp 0x20000)] ready) with mem := barMem (bar 1 2 0) }
    CanIssue (.barrive 10 11) s ∧ s.readSlot (spadKey 0 0x20000) = bar 1 2 0 ∧ NoWait 3 s ∧
    nx (exec (.barrive 10 11) s) (fun t => t.cur.x 10 == 0 && (t.readSlot (spadKey 0 0x20000)).phase && (t.readSlot (spadKey 0 0x20000)).arrived == 0) = true := by
  decide +kernel

theorem test_bexpect_bcomplete : let s : State := { base 2 (xs [(11, sp 0x20000), (12, 5)] ready) with mem := barMem (bar 0 2 5) }
    CanIssue (.bexpect 11 12) s ∧ nx (exec (.bexpect 11 12) s) (fun t => (t.readSlot (spadKey 0 0x20000)).pending == 10) = true ∧
    nx (exec (.bcomplete 11 12) s) (fun t => (t.readSlot (spadKey 0 0x20000)).pending == 0 && !(t.readSlot (spadKey 0 0x20000)).phase) = true := by decide +kernel

theorem test_bcomplete_too_much : let s : State := { base 2 (xs [(11, sp 0x20000), (12, 6)] ready) with mem := barMem (bar 0 2 5) }
    CanIssue (.bcomplete 11 12) s ∧ (s.readSlot (spadKey 0 0x20000)).pending < 6 ∧
    nx (exec (.bcomplete 11 12) s) (fun t => t.cur.trap.cause == 49 && t.cur.trap.tval == sp 0x20000 && t.mem == s.mem) = true := by decide +kernel

theorem test_barrive_full : let s : State := { base 2 (xs [(11, sp 0x20000)] ready) with mem := barMem (bar 2 2 5) }
    CanIssue (.barrive 10 11) s ∧ nx (exec (.barrive 10 11) s) (fun t => t.cur.trap.cause == 48) = true := by decide +kernel

theorem test_barrive_full_slot_0 : let s : State := { base 0 (xs [(11, sp 0x20000)] ready) with mem := barMem (bar 2 2 5) }
    CanIssue (.barrive 10 11) s ∧ s.full = true ∧ (s.priv s.focus).mode = .m ∧
    nx (exec (.barrive 10 11) s) (fun t => (t.priv (.tile 0)).mcause == 48 && (t.priv (.tile 0)).mtval == sp 0x20000) = true := by decide +kernel

theorem test_btest_bretire : let s : State := { base 2 (xs [(11, sp 0x20000), (12, 1)] ready) with mem := barMem (bar 0 2 0) }
    CanIssue (.btest 10 11 12) s ∧ nx (exec (.btest 10 11 12) s) (fun t => t.cur.x 10 == 1) = true ∧
    CanIssue (.bretire 11) s ∧ nx (exec (.bretire 11) s) (fun t => t.mem == []) = true := by decide +kernel

theorem test_barrier_proxied : let s := base 2 (xs [(11, 0x200004000#64)] ready)
    CanIssue (.btest 10 11 12) s ∧ barForm s.cur (.btest 10 11 12) = some (10, 11, .test false, false) ∧
    nx (exec (.btest 10 11 12) s) (fun t => t.cur.xEmpty 10 && dests t == [.tile 9]) = true := by decide +kernel

theorem test_bwait : let s : State := { base 2 (xs [(11, sp 0x20000), (12, 1)] ready) with mem := barMem (bar 0 2 0) }
    CanIssue (.bwait 11 12) s ∧ (s.readSlot (spadKey 0 0x20000)).tag = 0xA5 ∧ nx (exec (.bwait 11 12) s) (fun t => t.cur.th.pc == 4) = true ∧
    isNext (exec (.bwait 11 0) s) (s.modCur fun c => { c with st := .parkedJoin, wait := .slot 0x20000 false }) = true := by decide +kernel

theorem test_bwait_err : let s : State := { base 2 (xs [(11, sp 0x20000), (12, 1)] ready) with mem := barMem { bar 0 2 0 with err := true } }
    CanIssue (.bwait 11 12) s ∧ (s.readSlot (spadKey 0 0x20000)).err = true ∧ isNext (exec (.bwait 11 12) s) (s.trap 48 (sp 0x20000)) = true := by decide +kernel

theorem test_bwait_probe : let s := base 2 (xs [(11, 0x200004000#64), (12, 1)] ready)
    CanIssue (.bwait 11 12) s ∧ s.cur.probes = [] ∧ s.cur.th.ownList = [] ∧
    nx (exec (.bwait 11 12) s) (fun t => t.cur.st == .parkedJoin && bodies t == [.probe ⟨.tile 0, 2, 0⟩ (.barrier 1 0x4000 true none) true]) = true := by decide +kernel

theorem test_bwait_answered : let q : Probe := ⟨0, .barrier 1 0x4000 true none, some .satisfied, 0⟩
    let s := base 2 (xs [(11, 0x200004000#64), (12, 1)] { ready with probes := [q] })
    CanIssue (.bwait 11 12) s ∧ s.curPart = none ∧ s.cur.probes = [q] ∧ nx (exec (.bwait 11 12) s) (fun t => t.cur.th.pc == 4) = true := by decide +kernel

theorem test_gang_zero : let s := base 0 (xs [(12, sp 0x20000)] ready)
    CanIssue (.gang 11 11) s ∧ regsPresent (usesOf (.gang 11 12)) s = true ∧ s.cur.stage = .none ∧ fld (s.cur.x 11) 63 6 = 0 ∧ (s.tile 0).gang = none ∧ nx (exec (.gang 11 12) s) (fun t => t.cur.th.pc == 4) = true := by
  decide +kernel

/-- GANG of size 0 with an empty rs2 leaves the gang, and what was on its wire does not arrive. -/
theorem test_gang_leaves : let s := (base 0 { ready with pend := [⟨1, .x 12, .all, 0, 0, .divide 40 7, 0⟩] }).modTile 0 fun T =>
      { T with gang := some ⟨1, 1, 0, 0x20000, 0, [], none⟩, wire := [0x20000] }
    CanIssue (.gang 11 11) s ∧ regsPresent (usesOf (.gang 11 12)) s = true ∧ s.cur.xEmpty 12 = true ∧
    nx (exec (.gang 11 12) s) (fun t => (t.tile 0).gang == none && (t.tile 0).wire == []) = true := by decide +kernel

theorem test_gang_of_one : let s : State := inPart { base 0 (xs [(11, 1), (12, sp 0x20000)] ready) with mem := barMem (bar 0 2 0) }
    CanIssue (.gang 11 12) s ∧ (s.cur.x 11).getLsbD 3 = false ∧ s.gangNamed 0 1 0 ≠ none ∧ SpadOk (sp 0x20000) 16 s ∧ (s.tile 0).gang = none ∧
    (s.readSlot (spadKey 0 0x20000)).tag = 0xA5 ∧ (s.readSlot (spadKey 0 0x20000)).home = s.rankOf 0 ∧
    nx (exec (.gang 11 12) s) (fun t => t.cur.st == .parkedJoin && t.cur.stage == .gang 1 0 0x20000 (Instr.gang 11 12).word) = true := by decide +kernel

theorem test_gang_too_large : let s := base 0 (xs [(11, 5), (12, sp 0x20000)] ready)
    CanIssue (.gang 11 12) s ∧ 4 < fld (s.cur.x 11) 2 0 ∧ isNext (exec (.gang 11 12) s) (s.trap 48 (sp 0x20000)) = true := by decide +kernel

theorem test_gang_formed : let s := base 0 { ready with stage := .gang 1 0 0x20000 0 }
    (s.ctx (.tile 0) 0).stage = .gang 1 0 0x20000 0 ∧ nx (exec (.gangFormed 0) s) (fun t => ((t.tile 0).gang.map fun g => (g.size, g.pos, g.slot)) == some (1, 0, 0x20000) &&
      (t.ctx (.tile 0) 0).th.pc == 4) = true := by decide +kernel

theorem test_gang_wire : let s : State := { (base 0 ready).modTile 0 (fun T => { T with wire := [0x20000] }) with mem := barMem (bar 0 2 0) }
    (s.tile 0).wire = [0x20000] ∧ nx (exec (.gangWireArrival 0) s) (fun t => (t.tile 0).wire == [] && (t.readSlot (spadKey 0 0x20000)).arrived == 1) = true := by
  decide +kernel

theorem test_gang_wire_full : let s : State := { (base 0 ready).modTile 0 (fun T => { T with wire := [0x20000] }) with mem := barMem (bar 2 2 5) }
    nx (exec (.gangWireArrival 0) s) (fun t => t.readSlot (spadKey 0 0x20000) == { bar 2 2 5 with err := true }) = true := by decide +kernel

/-! ### Homes, replies, probes, migration, records -/

def who3 : Who := ⟨.tile 9, 3, 5⟩
def reqOf (op : ProxOp) (off : Nat) : ProxyReq := ⟨who3, op, 0, off, BitVec.ofNat 64 off, 0, 0, none⟩

/-- Request q of tile 9 on its way to tile 0, which holds m. -/
def atHome (q : ProxyReq) (m : Memory) : State := withMsg { base 0 ready with mem := m } (.tile 0) (some 0) (.proxyReq q)

/-- MayServe, on the message that arrives. -/
def maySrv (s : State) (q : ProxyReq) : Bool :=
  arrives s 0 (.proxyReq q) && (s.bufferOf 7).isNone && (s.tile 0).proxyBuf == [] && (s.tile 0).held == [] && q.own == 0 && q.wit == 0 &&
  s.partOf q.rank == q.part && s.poison 0 q.off == 0 && !s.awaiting 0 q.off && (s.tile 0).obs.watches == [] && (s.tile 0).heldProbes == [] &&
  decide (q.off < 2 ^ 33)

def replyIs (t : State) (v : ReplyVal) : Bool := dests t == [.tile 9] && bodies t == [.proxyRep who3 0 v]

theorem test_proxy_load : let s := atHome (reqOf (.load 4) 0x4004) (wordAt 0x4000 0x1122334455667788#64)
    maySrv s (reqOf (.load 4) 0x4004) = true ∧ nx (exec (.proxyRequest 7) s) (fun t => replyIs t (.value 0x11223344) && t.mem == s.mem) = true := by decide +kernel

theorem test_proxy_cas : let q := reqOf (.ret .cas 9 5) 0x4000
    let s := atHome q (wordAt 0x4000 5)
    maySrv s q = true ∧ nx (exec (.proxyRequest 7) s) (fun t => replyIs t (.value 5) && t.mem == wordAt 0x4000 9) = true := by decide +kernel

theorem test_proxy_join : let s := atHome (reqOf .join 0x4000) (wordAt 0x4008 (pw 0 1 3))
    maySrv s (reqOf .join 0x4000) = true ∧ s.mem.word 0x4000 = 0 ∧ nx (exec (.proxyRequest 7) s) (fun t => replyIs t (.value (pw 0 1 3))) = true := by decide +kernel

theorem test_proxy_join_held : let s := atHome (reqOf .join 0x4000) (wordAt 0x4000 1)
    s.mem.word 0x4000 ≠ 0 ∧ nx (exec (.proxyRequest 7) s) (fun t => bodies t == [] && (t.tile 0).heldProbes.map (·.join) == [some 0x4000]) = true := by decide +kernel

theorem test_proxy_treap : let s := atHome (reqOf .treap 0x4000) (wordAt 0x4000 2)
    maySrv s (reqOf .treap 0x4000) = true ∧ nx (exec (.proxyRequest 7) s) (fun t => replyIs t (.value 2)) = true := by decide +kernel

theorem test_proxy_poison : let s := (atHome (reqOf (.load 8) 0x4000) []).modTile 0 fun T => { T with box := { T.box with poison := [(0, 1)] } }
    arrives s 0 (.proxyReq (reqOf (.load 8) 0x4000)) = true ∧ s.poison 0 0x4000 ≠ 0 ∧
    nx (exec (.proxyRequest 7) s) (fun t => replyIs t (.fault 53 0x4000)) = true := by decide +kernel

def grp (st gen mem arr ph : Nat) : GroupRec := ⟨st, gen, mem, arr, ph, 0, 0, 0⟩
def grpMem (g : GroupRec) : Memory := (g.words.flatMap wordBytes).zipIdx.filterMap fun p => if p.1 = 0 then none else some (0x4000 + p.2, p.1)

theorem test_group_create : let q := reqOf (.group .create 0) 0x4000
    let s := atHome q (grpMem (grp 0 (2 ^ 22 - 1) 3 0 7))
    maySrv s q = true ∧ (s.readGroup 0x4000).state = 0 ∧
    nx (exec (.groupRequest 7) s) (fun t => t.readGroup 0x4000 == grp 1 1 1 0 7 && replyIs t (.value 1)) = true := by decide +kernel

theorem test_group_create_live : let q := reqOf (.group .create 0) 0x4000
    let s := atHome q (grpMem (grp 1 5 3 0 7))
    maySrv s q = true ∧ nx (exec (.groupRequest 7) s) (fun t => t.mem == s.mem && replyIs t (.value 0)) = true := by decide +kernel

theorem test_group_join : let q := reqOf (.group .join 0) 0x4000
    let s := atHome q (grpMem (grp 1 5 3 0 7))
    maySrv s q = true ∧ nx (exec (.groupRequest 7) s) (fun t => t.readGroup 0x4000 == grp 1 5 4 0 7 && replyIs t (.value 0)) = true := by decide +kernel

theorem test_group_leave : let q := reqOf (.group .leave (pw 1 0 2)) 0x4000
    let s := atHome q (grpMem (grp 1 5 3 1 7))
    maySrv s q = true ∧ nx (exec (.groupRequest 7) s) (fun t => t.readGroup 0x4000 == { grp 1 5 2 1 7 with swit := pw 1 0 2 } && replyIs t (.value 0)) = true := by decide +kernel

theorem test_group_sync : let q := reqOf (.group .sync (pw 1 0 2)) 0x4000
    let s := atHome q (grpMem (grp 1 5 3 1 7))
    maySrv s q = true ∧ nx (exec (.groupRequest 7) s) (fun t => t.readGroup 0x4000 == { grp 1 5 3 2 7 with swit := pw 1 0 2 } && replyIs t (.phase 7 false 0)) = true := by decide +kernel

theorem test_group_sync_last : let q := reqOf (.group .sync (pw 1 0 2)) 0x4000
    let s := atHome q (grpMem (grp 1 5 2 1 7))
    maySrv s q = true ∧ nx (exec (.groupRequest 7) s) (fun t => t.readGroup 0x4000 == { grp 1 5 2 0 8 with pwit := pw 1 0 2 } &&
      replyIs t (.phase 7 true (pw 1 0 2))) = true := by decide +kernel

theorem test_group_count : let q := reqOf (.group .count 0) 0x4000
    let s := atHome q (grpMem (grp 1 5 2 1 7))
    maySrv s q = true ∧ nx (exec (.groupRequest 7) s) (fun t => replyIs t (.value ((grp 1 5 2 1 7).dw0))) = true := by decide +kernel

theorem test_group_dissolve : let q := reqOf (.group .dissolve 0) 0x4000
    let s := atHome q (grpMem (grp 1 5 0 0 7))
    maySrv s q = true ∧ nx (exec (.groupRequest 7) s) (fun t => t.readGroup 0x4000 == grp 0 5 0 0 7 && replyIs t (.value 0)) = true := by decide +kernel

theorem test_group_join_free : let q := reqOf (.group .join 0) 0x4000
    let s := atHome q []
    maySrv s q = true ∧ nx (exec (.groupRequest 7) s) (fun t => replyIs t (.fault 31 0x4000)) = true := by decide +kernel

theorem test_barrier_request : let q := reqOf (.barrier (.init 2)) 0x4000
    let s := atHome q []
    maySrv s q = true ∧ nx (exec (.barrierRequest 7) s) (fun t => t.readSlot 0x4000 == { bar 0 2 0 with home := 0xFFF } && replyIs t (.value 0)) = true := by
  decide +kernel

def postOf (op : PostOp) (seq : Nat) : Posted := ⟨op, 0, 0x4000, 1, 9, seq, 3, none, 5, none, 0⟩
def postAt (p : Posted) (m : Memory) : State := withMsg { base 0 ready with mem := m } (.tile 0) (some 0) (.posted p)

theorem test_posted_store : let p := postOf (.store [1, 2]) 1
    let s := postAt p []
    arrives s 0 (.posted p) = true ∧ (s.tile 0).held = [] ∧ s.partOf 0 = none ∧ p.seq = (tgetD (s.tile 0).box.settled p.src 0 + 1) % 2 ^ 38 ∧
    nx (exec (.postedStoreArrival 7) s) (fun t => t.mem == [(0x4000, 1), (0x4001, 2)] && tget (t.tile 0).box.settled 1 == some 1 &&
      dests t == [.tile 9] && bodies t == [.settled 3 0 true]) = true := by decide +kernel

theorem test_posted_atomic : let p := postOf (.atomic .max 0xFFFFFFFFFFFFFFFE#64) 1
    let s := postAt p (wordAt 0x4000 0xFFFFFFFFFFFFFFFD#64)
    nx (exec (.postedStoreArrival 7) s) (fun t => t.mem.word 0x4000 == 0xFFFFFFFFFFFFFFFE#64 && bodies t == [.settled 3 0 true]) = true := by decide +kernel

theorem test_posted_tdec : let p := postOf .tdec 1
    let s := postAt p (wordAt 0x4000 0x0000000180000000#64 ++ wordAt 0x4008 0x0020000000000100#64)
    arrives s 0 (.posted p) = true ∧ (s.tile 0).runList.length < 128 ∧
    nx (exec (.tdecArrival 7) s) (fun t => (t.mem.word 0x4000).extractLsb' 32 32 == 0 && (t.tile 0).runList == [⟨0x100, 2⟩] && bodies t == [.settled 3 0 true]) = true := by
  decide +kernel

theorem test_posted_exit : let p := postOf (.frameExit (pw 1 1 4)) 1
    let s := postAt p (wordAt 0x4000 2)
    nx (exec (.frameExitArrival 7) s) (fun t => t.mem.word 0x4000 == 1 && t.mem.word 0x4008 == pw 1 1 4 && bodies t == [.settled 3 0 true]) = true := by decide +kernel

theorem test_posted_out_of_order : let p := postOf (.store [1]) 2
    let s := postAt p []
    p.seq ≠ (tgetD (s.tile 0).box.settled p.src 0 + 1) % 2 ^ 38 ∧ isNext (exec (.postedStoreArrival 7) s) s = true := by decide +kernel

theorem test_posted_poison : let p := postOf (.store [1]) 1
    let s := (postAt p []).modTile 0 fun T => { T with box := { T.box with poison := [(0, 1)] } }
    s.poison 0 0x4000 = 1 ∧ nx (exec (.postedStoreArrival 7) s) (fun t => t.mem == [] && tget (t.tile 0).box.settled 1 == some 1 &&
      tget (t.tile 0).box.marks 1 == some ⟨1, 3, 1⟩ && bodies t == [.refusal 3 1 0 1 0x4000 5 0]) = true := by decide +kernel

theorem test_held_performs : let p := postOf (.store [7]) 1
    let r : Ret := ⟨.tile 9, [], 0⟩
    let s := (base 0 ready).modTile 0 fun T => { T with held := [.posted p r 0] }
    (s.tile 0).held = [.posted p r 0] ∧ (s.tile 0).shellAlive = true ∧ (s.tile 0).obs.watches = [] ∧ s.awaiting 0 0x4000 = false ∧
    nx (exec (.heldAccessPerform 0) s) (fun t => (t.tile 0).held == [] && t.mem == [(0x4000, 7)] && tget (t.tile 0).box.settled 1 == some 1) = true := by
  decide +kernel

/-- Slot 3 of tile 0 waits with producer p; a message with body b is on its way. -/
def waits (x : Ctx) (b : Body) : State := withMsg (two [] x) (.tile 0) none b
def w3 : Who := ⟨.tile 0, 3, 5⟩

theorem test_reply_value : let p : Producer := ⟨5, .x 10, .all, 1, 0, .access .s8, 0⟩
    let s := waits { ready with pend := [p] } (.proxyRep w3 0 (.value 0x80))
    arrives s 0 (.proxyRep w3 0 (.value 0x80)) = true ∧ (s.ctx (.tile 0) 3).pend = [p] ∧
    nx (exec (.proxyReply 7) s) (fun t => (t.ctx (.tile 0) 3).x 10 == 0xFFFFFFFFFFFFFF80#64 && (t.ctx (.tile 0) 3).pend == []) = true := by decide +kernel

theorem test_reply_fault : let p : Producer := ⟨5, .x 10, .all, 1, 0x60, .access .s8, 0⟩
    let s := waits { ready with pend := [p] } (.proxyRep w3 0 (.fault 53 0x4000))
    nx (exec (.proxyReply 7) s) (fun t => (t.ctx (.tile 0) 3).st == .trapped && (t.ctx (.tile 0) 3).trap.cause == 53 &&
      (t.ctx (.tile 0) 3).trap.epc == 0x60 && (t.ctx (.tile 0) 3).x 10 == 1) = true := by decide +kernel

theorem test_probe_answer_register : let p : Producer := ⟨5, .x 10, .all, 1, 0, .answer, 0⟩
    let s := waits { ready with pend := [p] } (.probeAns w3 .poison)
    arrives s 0 (.probeAns w3 .poison) = true ∧ nx (exec (.probeAnswer 7) s) (fun t => (t.ctx (.tile 0) 3).x 10 == 2) = true := by decide +kernel

theorem test_probe_answer : let w : Word := pw 0 1 2
    let s := waits { ready with st := .parkedWit, wait := .wit w, probes := [⟨5, .wit w, none, 0⟩] } (.probeAns w3 .satisfied)
    arrives s 0 (.probeAns w3 .satisfied) = true ∧ s.rankOf 0 ≠ witDst w ∧ witKind w = 1 ∧ (s.ctx (.tile 0) 3).wait = .wit w ∧
    nx (exec (.probeAnswer 7) s) (fun t => t.slotState 0 3 == .ready && (t.ctx (.tile 0) 3).probes == [⟨5, .wit w, some .satisfied, 0⟩]) = true := by decide +kernel

def jent : JEntry := ⟨4, .rank 1, 2, 1000, some 3, 2, 0, false, none, 0⟩

theorem test_settlement : let s := (waits { ready with c2 := 1 } (.settled 4 0 true)).modTile 0 fun T => { T with journal := [jent] }
    arrives s 0 (.settled 4 0 true) = true ∧ (s.tile 0).journal = [jent] ∧
    nx (exec (.settlementNotice 7) s) (fun t => (t.tile 0).journal == [] && (t.ctx (.tile 0) 3).c2 == 0) = true := by decide +kernel

theorem test_refusal_entry : let s := (waits { ready with c2 := 1 } (.refusal 4 1 1 2 0x4000 9 0)).modTile 0 fun T => { T with journal := [jent] }
    (s.tile 0).refusals = Vector.replicate 32 RefEntry.empty ∧ nx (exec (.refusalEntryFill 7) s) (fun t => (t.tile 0).journal == [] &&
      (t.tile 0).refusals.toList.head? == some ⟨true, false, 1, 1, 1, 2, 2, 0x4000, 9, 0xC000040000000000#64, (pcoord 0, 0, s.gen)⟩) = true := by decide +kernel

theorem test_refusal_ack : let s := (waits ready (.refAck 1 0 5)).modTile 0 fun T => { T with box := { T.box with marks := [(1, ⟨2, 0, 5⟩)] } }
    arrives s 0 (.refAck 1 0 5) = true ∧ nx (exec (.refusalAckArrival 7) s) (fun t => (t.tile 0).box.marks == [] && bodies t == [.refAckAns 0 true]) = true := by
  decide +kernel

theorem test_refusal_ack_late : let s := (waits ready (.refAck 1 0 4)).modTile 0 fun T => { T with box := { T.box with marks := [(1, ⟨2, 0, 5⟩)] } }
    nx (exec (.refusalAckArrival 7) s) (fun t => (t.tile 0).box.marks == [(1, ⟨2, 0, 5⟩)] && bodies t == [.refAckAns 0 false]) = true := by decide +kernel

theorem test_refusal_answer : let e : RefEntry := ⟨true, true, 4, 1, 1, 5, 5, 0, 0, 0, (0, 0, 1)⟩
    let s := (waits ready (.refAckAns 1 true)).modTile 0 fun T => { T with refusals := T.refusals.set 0 e }
    arrives s 0 (.refAckAns 1 true) = true ∧ nx (exec (.refusalAckAnswer 7) s) (fun t => (t.tile 0).refusals == Vector.replicate 32 RefEntry.empty) = true := by
  decide +kernel

theorem test_wait_probe : let s := withMsg (witTile 5 [] ready) (.tile 0) none (.probe who3 (.wit (pw 1 0 5)) true)
    arrives s 0 (.probe who3 (.wit (pw 1 0 5)) true) = true ∧ (s.tile 0).checkPair (pw 1 0 5) = .satisfied ∧
    nx (exec (.waitProbe 7) s) (fun t => bodies t == [.probeAns who3 .satisfied]) = true := by decide +kernel

theorem test_wait_probe_held : let s := withMsg (witTile 4 [] ready) (.tile 0) none (.probe who3 (.wit (pw 1 0 5)) true)
    (s.tile 0).checkPair (pw 1 0 5) = .outstanding ∧ (s.tile 0).heldProbes.length < 32 ∧
    nx (exec (.waitProbe 7) s) (fun t => bodies t == [] && (t.tile 0).heldProbes.map (·.key) == [.wit (pw 1 0 5)]) = true := by decide +kernel

theorem test_test_probe : let s := withMsg (witTile 4 [] ready) (.tile 0) none (.probe who3 (.wit (pw 1 0 5)) false)
    arrives s 0 (.probe who3 (.wit (pw 1 0 5)) false) = true ∧
    nx (exec (.testProbe 7) s) (fun t => bodies t == [.probeAns who3 .outstanding]) = true := by decide +kernel

theorem test_test_probe_poison : let s := withMsg (witTile 5 [(1, ⟨5, 0, 5⟩)] ready) (.tile 0) none (.probe who3 (.wit (pw 1 0 5)) false)
    (s.tile 0).checkPair (pw 1 0 5) = .poison ∧ nx (exec (.testProbe 7) s) (fun t => bodies t == [.probeAns who3 .poison]) = true := by decide +kernel

theorem test_held_probe : let h : HeldProbe := ⟨⟨.tile 9, [], 0⟩, 0, who3, .wit (pw 1 0 5), none, false, 0, 0⟩
    let s := (witTile 5 [] ready).modTile 0 fun T => { T with heldProbes := [h] }
    (s.tile 0).heldProbes = [h] ∧ (s.tile 0).shellAlive = true ∧ (s.tile 0).checkPair (pw 1 0 5) = .satisfied ∧
    nx (exec (.waitProbeAnswer 0) s) (fun t => (t.tile 0).heldProbes == [] && dests t == [.tile 9] && bodies t == [.probeAns who3 .satisfied]) = true := by
  decide +kernel

theorem test_cache_fill : let s := (base 0 ready).modTile 0 fun T => { T with fills := [5], lines := [2] }
    (s.tile 0).fills = [5] ∧ nx (exec (.cacheFill 0) s) (fun t => (t.tile 0).fills == [] && (t.tile 0).lines.contains 5 && (t.tile 0).lines.contains 2) = true := by
  decide +kernel

/-- Field 0 walks for page 0x40000 at a level, with the entry e where it reads. -/
def walking (level : Nat) (e : Word) : State :=
  let w : Walk := ⟨0x40000, false, 0, level, 0x8000, [(0, 3)], false⟩
  { two [] ready with fields := [(0, { Field.reset with walks := [w] })], mem := wordAt (0x8000 + 8 * walkIndex level 0x40000 false) e }

theorem test_walk_invalid : let s := walking 3 2
    (s.field 0).walks.length = 1 ∧ (s.tile 0).held = [] ∧ s.homeOf 0 = some 0 ∧ s.awaiting 0 0x8000 = false ∧ s.poison 0 0x8000 = 0 ∧
    nx (exec (.walkComplete 0 0) s) (fun t => (t.field 0).walks == [] && (t.ctx (.tile 0) 3).walkFault == some (0x40000, false)) = true := by decide +kernel

theorem test_walk_next : let s := walking 3 0x20001
    readEntry s.grade 3 false 0x20001 = .next 0x20000 ∧
    nx (exec (.walkComplete 0 0) s) (fun t => (t.field 0).walks.map (fun w => (w.level, w.table)) == [(2, 0x20000)]) = true := by decide +kernel

theorem test_walk_leaf : let s := walking 0 0x50027
    readEntry s.grade 0 false 0x50027 = .leaf ∧
    nx (exec (.walkComplete 0 0) s) (fun t => (t.field 0).walks == [] && (t.field 0).tlb == [⟨0x40000, 16, false, 0, 0x50027⟩] &&
      (t.tile 0).tlb == [⟨0x40000, 16, false, 0, 0x50027⟩]) = true := by decide +kernel

def leaving (run bounce : Nat) : State :=
  two [] { ready with st := .departing, target := 1, th := { ready.th with run := run, bounce := bounce, pc := 0x60 } }

theorem test_departure : let s := leaving 16 3
    (s.ctx (.tile 0) 3).st = .departing ∧ MayPack (s.ctx (.tile 0) 3) ∧ NoPorts (s.ctx (.tile 0) 3) ∧ s.mapOf 0 1 = some 9 ∧
    nx (exec (.departure 0 3) s) (fun t => (t.ctx (.tile 0) 3).st == .inFlight && dests t == [.tile 9] && (bodies t).map (fun b => match b with
      | .migrate h c _ _ => h.pc == 0x60 && c == 3
      | _ => false) == [true]) = true := by decide +kernel

theorem test_departure_pins : let s := leaving 3 3
    (s.ctx (.tile 0) 3).th.bounce + 1 = (s.ctx (.tile 0) 3).th.pth ∧ (s.ctx (.tile 0) 3).th.run < 16 ∧
    nx (exec (.departure 0 3) s) (fun t => (t.ctx (.tile 0) 3).th.pinned && (t.ctx (.tile 0) 3).th.pcount == 256 && (t.ctx (.tile 0) 3).st == .ready) = true := by
  decide +kernel

theorem test_arrival : let s := withMsg (base 0 ready) (.tile 0) (some 0) (.migrate Thread.reset 3 false none)
    arrives s 0 (.migrate Thread.reset 3 false none) = true ∧ (s.tile 0).gate = true ∧ (s.tile 0).arrivals.length < (s.tile 0).adepth ∧
    nx (exec (.migrationArrival 7) s) (fun t => (t.tile 0).arrivals.length == 1 && dests t == [.tile 9] && bodies t == [.notice 3 true]) = true := by decide +kernel

theorem test_arrival_refused : let s := withMsg ((base 0 ready).modTile 0 fun T => { T with gate := false }) (.tile 0) (some 0) (.migrate Thread.reset 3 false none)
    nx (exec (.migrationArrival 7) s) (fun t => (t.tile 0).arrivals == [] && bodies t == [.notice 3 false]) = true := by decide +kernel

def inFlight (refuse : Nat) (b : Body) : State := waits { ready with st := .inFlight, target := 1, th := { ready.th with refuse := refuse } } b

theorem test_notice : let s := inFlight 0 (.notice 3 true)
    arrives s 0 (.notice 3 true) = true ∧ nx (exec (.acceptanceNotice 7) s) (fun t => (t.ctx (.tile 0) 3).st == .free) = true := by decide +kernel

theorem test_refused : let s := inFlight 5 (.notice 3 false)
    arrives s 0 (.notice 3 false) = true ∧
    nx (exec (.refusalNotice 7) s) (fun t => (t.ctx (.tile 0) 3).st == .refused && (t.ctx (.tile 0) 3).backoff == some 1024) = true := by decide +kernel

theorem test_refused_last : let s := inFlight 7 (.notice 3 false)
    nx (exec (.refusalNotice 7) s) (fun t => (t.ctx (.tile 0) 3).st == .ready && (t.ctx (.tile 0) 3).proxyNext && (t.ctx (.tile 0) 3).th.refuse == 0) = true := by
  decide +kernel

theorem test_backoff : let s := two [] { ready with st := .refused, backoff := some 0, target := 1 }
    (s.ctx (.tile 0) 3).backoff = some 0 ∧ 0 ≤ (s.tile 0).cycles ∧ s.mapOf 0 1 = some 9 ∧
    nx (exec (.backoffExpiry 0 3) s) (fun t => (t.ctx (.tile 0) 3).st == .inFlight && dests t == [.tile 9]) = true := by decide +kernel

theorem test_arrival_check : let s := two [] { ready with st := .admitted, th := { ready.th with own := #v[pw 1 0 0, 0, 0, 0] } }
    (s.ctx (.tile 0) 3).st = .admitted ∧ (s.tile 0).checkPair (pw 1 0 0) = .satisfied ∧
    nx (exec (.arrivalCheck 0 3) s) (fun t => (t.ctx (.tile 0) 3).st == .ready && (t.ctx (.tile 0) 3).th.run == 0 &&
      (t.ctx (.tile 0) 3).th.own.toList == [0, 0, 0, 0]) = true := by decide +kernel

theorem test_arrival_check_malformed : let s := two [] { ready with st := .admitted, th := { ready.th with own := #v[tickWit 5, 0, 0, 0] } }
    witKind (tickWit 5) ≠ 1 ∧ nx (exec (.arrivalCheck 0 3) s) (fun t => (t.ctx (.tile 0) 3).st == .trapped && (t.ctx (.tile 0) 3).trap.cause == 25 &&
      (t.ctx (.tile 0) 3).trap.achk) = true := by decide +kernel

theorem test_owner_moved : let s := withMsg (base 0 ready) (.tile 0) none (.ownerMoved 1 12 4)
    arrives s 0 (.ownerMoved 1 12 4) = true ∧ nx (exec (.ownerMovedNotice 7) s) (fun t => t.mapOf 0 1 == some 12 && (t.tile 0).mapGen == 4) = true := by decide +kernel

theorem test_map_entry : let s := withMsg (base 0 ready) (.tile 0) none (.mapEntry 1 12 4)
    nx (exec (.mapEntryUpdate 7) s) (fun t => t.mapOf 0 1 == some 12 && (t.tile 0).mapGen == 4) = true := by decide +kernel

theorem test_engine_decrement : let g : EngRef := ⟨true, 0, 5, sp 0x20000, ⟨none, true, 0⟩⟩
    let s : State := { (base 0 ready).modTile 0 (fun T => { T with decs := [g] }) with mem := barMem (bar 2 2 5) }
    (s.tile 0).decs = [g] ∧ ptrSpace g.slot = 1 ∧ (s.readSlot (spadKey 0 0x20000)).tag = 0xA5 ∧
    nx (exec (.engineDecrement 0) s) (fun t => (t.tile 0).decs == [] && (t.readSlot (spadKey 0 0x20000)) == { bar 0 2 0 with phase := true }) = true := by
  decide +kernel

theorem test_fault_record : let b : Body := .faultRec 1 [1, 2, 3, 4, 5, 6]
    let s := inPart (withMsg (base 0 ready) (.tile 0) (some 0) b)
    arrives s 0 b = true ∧ part0.ranks.head? = some 0 ∧ s.poison 0 0x10000 = 0 ∧
    nx (exec (.faultRecordArrival 7) s) (fun t => t.mem.word 0x10000 == 1 && t.mem.word 0x10008 == 0 && t.mem.word 0x10010 == 1 && t.mem.word 0x10038 == 6 &&
      ((tget t.parts 1).map (·.faultSeq)) == some 1 && (t.priv (.tile 0)).mip == 0x100000) = true := by decide +kernel

theorem test_trace_record : let b : Body := .traceRec 1 9 [1, 2, 3, 4, 5, 6]
    let s := inPart (withMsg ((base 0 ready).modTile 9 fun T => { T with traceFlight := 2 }) (.tile 0) (some 0) b)
    arrives s 0 b = true ∧ (s.tile 9).traceWait = [] ∧
    nx (exec (.traceRecordArrival 7) s) (fun t => t.mem.word 0x20000 == 1 && t.mem.word 0x20038 == 6 && (t.tile 9).traceFlight == 1) = true := by decide +kernel

theorem test_sample : let s := (inPart (base 0 ready)).modTile 0 fun T => { T with samples := [[1, 2, 3, 4, 5, 6]] }
    s.partOf (s.rankOf 0) = some 1 ∧ (s.tile 0).traceFlight < 16 ∧ tget s.rankTile part0.traceRank = some 0 ∧
    nx (exec (.sample 0) s) (fun t => (t.tile 0).samples == [] && dests t == [.tile 0] && bodies t == [.traceRec 1 0 [1, 2, 3, 4, 5, 6]]) = true := by
  decide +kernel

theorem test_take_samples : let s := (inPart (two [] { ready with th := { ready.th with gtid := 0x44, pc := 0x60 } })).modTile 0 fun T => { T with obs := ⟨8, [], []⟩ }
    s.partOf (s.rankOf 0) = some 1 ∧ s.tickOf 0 % 8 = 0 ∧ (∀ k, k < 16 → 0 < k → k ≠ 3 → (s.ctx (.tile 0) k).st = .free) ∧
    ((s.takeSamples 0).tile 0).samples.map (fun w => (w.getD 2 0, w.getD 4 0, w.getD 5 0)) = [(1000, 0x44, 0x60)] := by decide +kernel

/-! ### Streams, vector commands, ports, bridge registers, furrows -/

/-- A descriptor at offset 0x20000 of tile 0's scratchpad: base, count0, stride0 and doubleword 7. -/
def descAt (b : Word) (n : Nat) (d7 : Word) : Memory :=
  [b, BitVec.ofNat 64 (2 ^ 32 + n), BitVec.ofNat 64 (2 ^ 32 + 1), 1, 0, 0, 0, d7].zipIdx.flatMap fun p => wordAt (spadKey 0 0x20000 + 8 * p.2) p.1

/-- An INT64 stream over n elements from 0x30000 on. -/
def y64 (dir n : Nat) : Stream := ⟨dir, 0, 64, 0x30000, [n, 1, 1, 1], [1, 0, 0, 0], n, 0, 0, false, 0, 0, [], [], none⟩
def at64 (k : Nat) (w : Word) : Memory := wordAt (spadKey 0 (0x30000 + 8 * k)) w

theorem test_scfg : let s : State := { base 1 (xs [(11, sp 0x20000)] (fs [(5, 7)] ready)) with mem := descAt (sp 0x30000) 4 0xC }
    CanIssue (.scfg 5 11) s ∧ s.cur.commandUses 5 = false ∧ SpadOk (effPtr (s.cur.x 11) 0) 64 s ∧
    descLegal (s.rdWords (spadKey 0 0x20000) 8) = true ∧ (s.tile 0).streamStates < 128 ∧
    nx (exec (.scfg 5 11) s) (fun t => t.cur.stream 5 == y64 1 4 && t.cur.f 5 == 7 && t.cur.th.pc == 4 && t.mem == s.mem) = true := by decide +kernel

theorem test_scfg_again : let s : State := { base 1 ((xs [(11, sp 0x20000)] (fs [(5, 7)] ready)).setStream 5 (y64 1 2)) with mem := descAt (sp 0x30000) 4 0xD }
    CanIssue (.scfg 5 11) s ∧ s.cur.bound 5 = true ∧ nx (exec (.scfg 5 11) s) (fun t => t.cur.stream 5 == y64 2 4 && t.cur.f 5 == 0) = true := by decide +kernel

theorem test_scfg_illegal : let s : State := { base 1 (xs [(11, sp 0x20000)] ready) with mem := descAt (sp 0x30000) 0 0xC }
    CanIssue (.scfg 5 11) s ∧ SpadOk (effPtr (s.cur.x 11) 0) 64 s ∧ descLegal (s.rdWords (spadKey 0 0x20000) 8) = false ∧
    isNext (exec (.scfg 5 11) s) (s.trap 2 ((Instr.scfg 5 11).word.zeroExtend 64)) = true := by decide +kernel

theorem test_scfg_pointer : let s := base 1 (xs [(11, 0x20000), (12, 0x20008)] ready)
    CanIssue (.scfg 5 11) s ∧ ptrSpace (effPtr (s.cur.x 11) 0) ≠ 1 ∧ isNext (exec (.scfg 5 11) s) (s.trap 5 0x20000) = true ∧
    isNext (exec (.scfg 5 12) s) (s.trap 4 0x20008) = true := by decide +kernel

theorem test_scfg_outside : let s : State := { base 1 (xs [(11, sp 0x20000)] ready) with mem := descAt (sp 0x7FFFF8) 2 0xD }
    descLegal (s.rdWords (spadKey 0 0x20000) 8) = true ∧ (streamOf (s.rdWords (spadKey 0 0x20000) 8)).inside = false ∧
    isNext (exec (.scfg 5 11) s) (s.trap 7 (sp 0x7FFFF8)) = true := by decide +kernel

theorem test_scfg_misaligned : let s : State := { base 1 (xs [(11, sp 0x20000)] ready) with mem := descAt (sp 0x30004) 2 0xC }
    descLegal (s.rdWords (spadKey 0 0x20000) 8) = true ∧ alignFault (s.rdWords (spadKey 0 0x20000) 8) = some (sp 0x30004) ∧
    isNext (exec (.scfg 5 11) s) (s.trap 4 (sp 0x30004)) = true := by decide +kernel

theorem test_scfg_no_room : let s : State := { base 1 (xs [(11, sp 0x20000)] ready) with mem := descAt (sp 0x30000) 2 0xC }
    let full := s.modTile 0 fun T => { T with saved := (List.range 32).map fun k => (k, Ctx.saved { ready with streams := Vector.replicate 4 (y64 1 1) } false) }
    (full.tile 0).streamStates = 128 ∧ isNext (exec (.scfg 5 11) full) (full.trap 29 ((Instr.scfg 5 11).word.zeroExtend 64)) = true := by decide +kernel

theorem test_sen_unbinds : let s := base 1 ((fs [(5, 7)] ready).setStream 5 (y64 1 2))
    CanIssue (.sen 5 0) s ∧ s.cur.commandUses 5 = false ∧ nx (exec (.sen 5 0) s) (fun t => t.cur.stream 5 == Stream.unbound && t.cur.f 5 == 0 && t.cur.th.pc == 4) = true := by
  decide +kernel

theorem test_sen_unbound : let s := base 1 (fs [(5, 7)] ready)
    CanIssue (.sen 5 0) s ∧ nx (exec (.sen 5 0) s) (fun t => t.cur.f 5 == 7 && t.cur.th.pc == 4) = true := by decide +kernel

theorem test_sen_seeks : let s := base 1 ((xs [(11, 0x201)] ready).setStream 5 (y64 1 2))
    CanIssue (.sen 5 11) s ∧ nx (exec (.sen 5 11) s) (fun t => t.cur.stream 5 == { y64 1 2 with pos := 2, done := 2 }) = true := by decide +kernel

theorem test_sen_seeks_too_far : let s := base 1 ((xs [(11, 0x301)] ready).setStream 5 (y64 1 2))
    CanIssue (.sen 5 11) s ∧ isNext (exec (.sen 5 11) s) (s.trap 28 0) = true := by decide +kernel

theorem test_sen_seek_unbound : let s := base 1 (xs [(11, 1)] ready)
    CanIssue (.sen 5 11) s ∧ isNext (exec (.sen 5 11) s) (s.trap 29 ((Instr.sen 5 11).word.zeroExtend 64)) = true := by decide +kernel

theorem test_sen_illegal : let s := base 1 (xs [(11, 2)] ready)
    CanIssue (.sen 5 11) s ∧ isNext (exec (.sen 5 11) s) (s.trap 2 ((Instr.sen 5 11).word.zeroExtend 64)) = true := by decide +kernel

theorem test_spos : let s := base 1 (ready.setStream 5 { y64 2 9 with pos := 3 })
    CanIssue (.spos 10 5) s ∧ nx (exec (.spos 10 5) s) (fun t => t.cur.x 10 == 0xC000000000000003#64) = true ∧
    CanIssue (.spos 10 6) s ∧ nx (exec (.spos 10 6) s) (fun t => t.cur.x 10 == 0) = true := by decide +kernel

/-- y of slot 1 is an output of n elements in f4; its inputs are f5 and f6. -/
def vec (n : Nat) (a b : Stream) : State := base 1 (((ready.setStream 4 (y64 2 n)).setStream 5 a).setStream 6 b)

theorem test_vector_command : let s := vec 3 (y64 1 3) (y64 1 4)
    let i := Instr.vfadd 4 5 6 0
    vectorParts i = some (0, 4, 5, 6, 0) ∧ CanIssue i s ∧ vIllegal s 0 4 5 6 0 = false ∧
    nx (exec i s) (fun t => t.cur.vcmds.map (fun v => (v.op, v.n, v.posY, v.a)) == [(0, 3, 0, none)] && (t.cur.stream 4).pos == 3 &&
      (t.cur.stream 5).pos == 3 && (t.cur.stream 6).pos == 3 && t.cur.th.pc == 4) = true := by decide +kernel

theorem test_vector_scalar : let s := vec 1 (y64 1 3) (y64 1 1)
    let i := Instr.vscal 4 5 0
    CanIssue i s ∧ vIllegal s 12 4 5 0 0 = false ∧
    nx (exec i s) (fun t => t.cur.vcmds.map (fun v => (v.op, v.n)) == [(12, 1)] && (t.cur.stream 5).pos == 1) = true := by decide +kernel

theorem test_vector_reduction : let s := vec 3 (y64 1 3) (y64 1 3)
    let i := Instr.vdot 1 5 6 0
    CanIssue i s ∧ vIllegal s 13 1 5 6 0 = false ∧ nx (exec i s) (fun t => t.cur.fEmpty 1 && t.cur.vcmds.length == 1 && (t.cur.stream 6).pos == 3) = true := by
  decide +kernel

theorem test_vector_short : let s := vec 3 (y64 1 2) (y64 1 3)
    let i := Instr.vfadd 4 5 6 0
    CanIssue i s ∧ vIllegal s 0 4 5 6 0 = false ∧ isNext (exec i s) (s.trap 28 0) = true := by decide +kernel

theorem test_vector_short_second : let s := vec 3 (y64 1 3) { y64 1 4 with pos := 2 }
    let i := Instr.vfadd 4 5 6 0
    CanIssue i s ∧ isNext (exec i s) (s.trap 28 2) = true := by decide +kernel

def vc (op n : Nat) : VCmd := ⟨1, op, 0, 4, 5, 6, none, none, n, 0, 0, 0, 0, 0, 0, 0, []⟩

theorem test_vector_four_queued : let s := (vec 3 (y64 1 3) (y64 1 3)).modCur fun c => { c with vcmds := List.replicate 4 { vc 0 0 with fd := 7, fs1 := 1, fs2 := 1 } }
    let i := Instr.vfadd 4 5 6 0
    CanIssue i s ∧ vIllegal s 0 4 5 6 0 = false ∧ isNext (exec i s) (s.modCur fun c => { c with st := .ready }) = true := by decide +kernel

theorem test_vector_reported_stop : let s := (vec 3 (y64 1 3) (y64 1 3)).modCur fun c => { c with vpend := true, vdone := 2, vstatus := 1 }
    let i := Instr.vfadd 4 5 6 0
    CanIssue i s ∧ nx (exec i s) (fun t => t.cur.trap.cause == 30 && t.cur.trap.tval == 0x218 && !t.cur.vpend) = true := by decide +kernel

theorem test_vwait : let s := vec 1 (y64 1 1) (y64 1 1)
    CanIssue .vwait s ∧ nx (exec .vwait s) (fun t => t.cur.th.pc == 4) = true ∧
    (let u := s.modCur fun c => { c with vcmds := [vc 0 1] }
     CanIssue .vwait u ∧ isNext (exec .vwait u) (u.modCur fun c => { c with st := .ready }) = true) ∧
    (let u := s.modCur fun c => { c with vpend := true }
     CanIssue .vwait u ∧ nx (exec .vwait u) (fun t => t.cur.trap.cause == 30 && t.cur.trap.tval == 8) = true) := by decide +kernel

theorem test_vstat : let s := base 1 { ready with vdone := 0x123, vstatus := 1, vpend := true, vcmds := [vc 0 1, vc 0 1] }
    CanIssue (.vstat 10) s ∧ nx (exec (.vstat 10) s) (fun t => t.cur.x 10 == 0x1231A) = true := by decide +kernel

theorem test_stream_fetch : let s : State := { base 1 (ready.setStream 5 { y64 1 3 with pos := 2, done := 2 }) with mem := at64 2 0x1122334455667788#64 }
    let y := (s.ctx (.tile 0) 1).stream 5
    (s.ctx (.tile 0) 1).commandUses 5 = false ∧ y.pos < y.total ∧
    nx (exec (.streamElementFetch 0 1 5) s) (fun t => ((t.ctx (.tile 0) 1).stream 5).fetched.map (fun e => (e.1, e.2.raw)) == [(2, 0x1122334455667788)]) = true := by
  decide +kernel

theorem test_stream_output : let s := base 1 (ready.setStream 5 { y64 2 3 with pos := 3, done := 2, out := [(2, some 0x11)] })
    (y64 2 3).place 2 = (0x30010, 0) ∧
    nx (exec (.streamOutputPerform 0 1 5) s) (fun t => t.mem == at64 2 0x11 && ((t.ctx (.tile 0) 1).stream 5).out == [] && ((t.ctx (.tile 0) 1).stream 5).done == 3) = true := by
  decide +kernel

/-- Command v of slot 1 over operands at 0x30000, results at 0x40000. -/
def running (v : VCmd) (a b : Stream) (m : Memory) : State :=
  { (vec v.n a b).modCur (fun c => ({ c with vcmds := [v] }).setStream 4 { y64 2 v.n with base := 0x40000, pos := v.n }) with mem := m }

/-- The last input of an element comes: it is computed and pushed. -/
theorem test_vector_element : let v := vc 0 1
    let s := running v { y64 1 1 with pos := 1 } { y64 1 1 with pos := 1, fetched := [(0, ⟨0x4000000000000000, 0, 0⟩)] } (at64 0 0x3FF8000000000000#64)
    (s.ctx (.tile 0) 1).vcmds = [v] ∧ ((s.ctx (.tile 0) 1).stream 4).out = [] ∧ Rnd.ofCode v.frm = some .rne ∧
    nx (exec (.streamElementFetch 0 1 5) s) (fun t => ((t.ctx (.tile 0) 1).stream 4).out.map (·.2) == [some 0x400C000000000000] &&
      (t.ctx (.tile 0) 1).vcmds.map (·.next) == [1] && t.mem == s.mem) = true := by decide +kernel

theorem test_vector_lane : let v := { vc 14 2 with fd := 1, n := 1 }
    let s := running v { y64 1 1 with pos := 1 } Stream.unbound (at64 0 0x3FF8000000000000#64)
    v.n = v.next + 1 ∧ nx (exec (.streamElementFetch 0 1 5) s) (fun t =>
      (t.ctx (.tile 0) 1).vcmds.map (fun v => (v.next, v.acc)) == [(1, some 0x3FF8000000000000 :: List.replicate 31 none)]) = true := by decide +kernel

theorem test_vector_complete : let v := { vc 0 1 with next := 1, fl := 1 }
    let s := running v { y64 1 1 with pos := 1 } { y64 1 1 with pos := 1 } []
    (s.ctx (.tile 0) 1).vcmds = [v] ∧ v.due ≤ (s.tile 0).cycles ∧
    nx (exec (.vectorCommandComplete 0 1) s) (fun t => (t.ctx (.tile 0) 1).vcmds == [] && (t.ctx (.tile 0) 1).vdone == 1 &&
      (t.ctx (.tile 0) 1).vstatus == 0 && (t.ctx (.tile 0) 1).th.fcsr == 1) = true := by decide +kernel

theorem test_vector_sum : let v := { vc 14 2 with fd := 1, next := 2, acc := some 0x3FF8000000000000 :: some 0x4000000000000000 :: List.replicate 30 none }
    let s := (running v { y64 1 2 with pos := 2 } Stream.unbound []).modCur fun c => { c with pend := [⟨1, .f 1, .all, 0, 0, .vector 1, 0⟩] }
    nx (exec (.vectorCommandComplete 0 1) s) (fun t => (t.ctx (.tile 0) 1).f 1 == 0x400C000000000000#64 && !(t.ctx (.tile 0) 1).fEmpty 1 &&
      (t.ctx (.tile 0) 1).vdone == 2 && t.mem == s.mem) = true := by decide +kernel

/-- Index 2 of a stream of two elements. -/
theorem test_vector_gather_stops : let v := vc 17 1
    let s := running v { y64 1 1 with pos := 1, fetched := [(0, ⟨0x4000000000000000, 0, 0⟩)] } (y64 1 2) []
    ((s.ctx (.tile 0) 1).stream 6).total ≤ ((fp64.value 0x4000000000000000).toInt .rne false true 64).1 ∧
    nx (exec (.vectorCommandComplete 0 1) s) (fun t => (t.ctx (.tile 0) 1).vstatus == 1 && (t.ctx (.tile 0) 1).vpend && (t.ctx (.tile 0) 1).vdone == 0 &&
      ((t.ctx (.tile 0) 1).stream 4).pos == 0 && ((t.ctx (.tile 0) 1).stream 5).pos == 1 && t.mem == s.mem) = true := by decide +kernel

theorem test_port_pops : let s := base 1 ((fs [(2, 0x4000000000000000#64)] ready).setStream 5 { y64 1 3 with pos := 2, done := 2, fetched := [(2, ⟨0x3FF8000000000000, 0, 0⟩)] })
    let i := Instr.faddD 1 5 2 0
    encoded i = true ∧ legalHere i s = true ∧ s.cur.bound 2 = false ∧ s.cur.commandUses 5 = false ∧ s.breakHit = none ∧
    nx (exec i s) (fun t => t.cur.f 1 == 0x400C000000000000#64 && (t.cur.stream 5).pos == 3 && (t.cur.stream 5).done == 3 && t.cur.th.pc == 4) = true := by
  decide +kernel

theorem test_port_pushes : let s := base 1 ((fs [(1, 0x3FF8000000000000#64), (2, 0x4000000000000000#64)] ready).setStream 5 { y64 2 3 with pos := 2, done := 2 })
    let i := Instr.faddD 5 1 2 0
    legalHere i s = true ∧ nx (exec i s) (fun t => (t.cur.stream 5).out.map (·.2) == [some 0x400C000000000000] && (t.cur.stream 5).pos == 3 && t.cur.f 5 == 0) = true := by
  decide +kernel

theorem test_port_at_end : let s := base 1 (ready.setStream 5 { y64 1 3 with pos := 3, done := 3 })
    let i := Instr.faddD 1 5 2 0
    legalHere i s = true ∧ isNext (exec i s) (s.trap 28 3) = true := by decide +kernel

def port0 : Furrow := ⟨0, some 2, some 0, 5, [], [], false, false⟩
def bound (P : Furrow) (c : Ctx) : State := (base 1 { c with th := { c.th with furrow := true } }).modTile 0 fun T => { T with port := some P }

theorem test_furrow_reads : let s := bound { port0 with inq := [0x30, 0x40] } (xs [(12, 2)] ready)
    let i := Instr.add 10 15 12
    encoded i = true ∧ legalHere i s = true ∧ nx (exec i s) (fun t => t.cur.x 10 == 0x32 && (t.tile 0).port == some { port0 with inq := [0x40] }) = true := by decide +kernel

theorem test_furrow_writes : let s := bound port0 (xs [(11, 0x30), (12, 2)] ready)
    let i := Instr.add 15 11 12
    legalHere i s = true ∧ nx (exec i s) (fun t => t.cur.th.pc == 4 && (t.tile 0).port.map (fun P => P.outq.map (·.2)) == some [some 0x32]) = true := by decide +kernel

theorem test_bget : let s := (base 1 ready).modTile 0 fun T => { T with bfull := T.bfull.set 15 true, bridge := T.bridge.set 15 0x77 }
    CanIssue (.bget 10 15) s ∧ nx (exec (.bget 10 15) s) (fun t => t.cur.x 10 == 0x77 && t.cur.th.pc == 4 && !(t.tile 0).bfull[15]) = true ∧
    CanIssue (.bget 10 0) s ∧ isNext (exec (.bget 10 0) s) (s.modCur fun c => { c with st := .ready }) = true := by decide +kernel

theorem test_bput : let s := (base 1 (xs [(11, 0x78)] ready)).modTile 0 fun T => { T with bfull := T.bfull.set 15 true }
    CanIssue (.bput 11 0) s ∧ nx (exec (.bput 11 0) s) (fun t => t.cur.th.pc == 4 && (t.tile 0).bfull[0] && (t.tile 0).bridge[0] == 0x78) = true ∧
    CanIssue (.bput 11 15) s ∧ isNext (exec (.bput 11 15) s) (s.modCur fun c => { c with st := .ready }) = true := by decide +kernel

theorem test_furrow : let s := inPart { (base 1 (xs [(11, 0x40), (12, 0xFFFF)] ready)).setTile 1 (tileOf 1 0 ready) with rankTile := [(0, 0), (1, 1)] }
    CanIssue (.furrow 11 12) s ∧ s.furrowBad 0x40 0xFFFF = false ∧
    nx (exec (.furrow 11 12) s) (fun t => t.cur.th.furrow && (t.tile 0).port == some ⟨0, none, some 0, 0xFFFF, [], [], false, false⟩) = true := by decide +kernel

theorem test_furrow_bad : let s := base 1 (xs [(11, 0x40)] ready)
    CanIssue (.furrow 11 12) s ∧ s.furrowBad 0x40 0 = true ∧ isNext (exec (.furrow 11 12) s) (s.trap 29 ((Instr.furrow 11 12).word.zeroExtend 64)) = true := by
  decide +kernel

theorem test_unfurrow : let s := bound port0 (xs [(15, 9)] ready)
    CanIssue .unfurrow s ∧ nx (exec .unfurrow s) (fun t => (t.tile 0).port == none && !t.cur.th.furrow && t.cur.x 15 == 0 && t.cur.th.pc == 4) = true ∧
    (let u := base 1 ready
     CanIssue .unfurrow u ∧ nx (exec .unfurrow u) (fun t => t.cur.th.pc == 4) = true) := by decide +kernel

theorem test_furrow_word : let s := (bound { port0 with outq := [(1, some 0x55)] } ready).setTile 1 { tileOf 1 0 ready with port := some { port0 with dn := none } }
    neighbour 0 0 = some 1 ∧
    nx (exec (.furrowWordTransfer 0) s) (fun t => (t.tile 0).port == some port0 && (t.tile 1).port == some { port0 with dn := none, inq := [0x55] }) = true := by decide +kernel

/-! ### The matrix engine and the copy channels -/

/-- An INT8 product of one row and one column, k deep, into one INT32: A at 0x30000, B at 0x30100, D at 0x30200. -/
def mblk (k : Nat) (win : Word) : List Word :=
  [0x1700000000030000#64, 0x1700000000030100#64, sp 0x30200, win, BitVec.ofNat 64 (0x99 * 2 ^ 48 + k * 2 ^ 32 + 2 ^ 16 + 1),
   BitVec.ofNat 64 (2 ^ 40 + 2 ^ 20 + k), 0, 0]
def wordsAt (off : Nat) (l : List Word) : Memory := l.zipIdx.flatMap fun p => wordAt (spadKey 0 off + 8 * p.2) p.1
def mop (k seq : Nat) (st : Nat) : MxOp :=
  ⟨seq, ⟨none, false, 0⟩, mblk k 0, spadKey 0 0x30000, spadKey 0 0x30100, spadKey 0 0x30200, none, 1, 0, false, false, false, st, none, 0, 0,
   false, false, 0, 0, 0, 0, [], [], none, [], 0, 0, 0, 0, 0⟩
/-- Slot 1 of tile 0 holds x11 with block b at 0x20000, at its matrix engine T. -/
def mx (b : List Word) (g : Tile → Tile) : State := { (base 1 (xs [(11, sp 0x20000)] ready)).modTile 0 g with mem := wordsAt 0x20000 b }

theorem test_mxop : let s := mx (mblk 2 0) fun T => { T with mxSeq := 0xFFFF }
    CanIssue (.mxop 10 11) s ∧ SpadOk (effPtr (s.cur.x 11) 0) 64 s ∧ mxLegal (mblk 2 0) true = true ∧
    OperandAt s 0 akLoad (mxWord (mblk 2 0) 0) 1 (spadKey 0 0x30000) ∧
    nx (exec (.mxop 10 11) s) (fun t => t.cur.x 10 == 0xFFFF && t.cur.th.pc == 4 && (t.tile 0).mxSeq == 0 &&
      (t.tile 0).mxQueue.map (fun x => (x.seq, x.blk, x.ka, x.kb, x.kd)) ==
        [(0xFFFF, mblk 2 0, spadKey 0 0x30000, spadKey 0 0x30100, spadKey 0 0x30200)]) = true := by
  refine ⟨by decide +kernel, by decide +kernel, by decide +kernel, .inl ?_, by decide +kernel⟩
  decide +kernel

theorem test_mxop_poison : let s := mx (mblk 2 0xC000000000000000#64) id
    CanIssue (.mxop 10 11) s ∧ witKind (mxWord (mblk 2 0xC000000000000000#64) 3) = 3 ∧
    nx (exec (.mxop 10 11) s) (fun t => t.cur.x 10 == 0 && (t.tile 0).mxQueue == [] && (t.tile 0).mxDone.map (·.status) == [6]) = true := by decide +kernel

theorem test_mxop_illegal : let s := mx (mblk 0 0) id
    CanIssue (.mxop 10 11) s ∧ mxLegal (mblk 0 0) true = false ∧ isNext (exec (.mxop 10 11) s) (s.trap 2 ((Instr.mxop 10 11).word.zeroExtend 64)) = true := by
  decide +kernel

theorem test_mxop_full : let s := mx (mblk 2 0) fun T => { T with mxQueue := (List.range 8).map fun k => mop 2 k 0 }
    CanIssue (.mxop 10 11) s ∧ isNext (exec (.mxop 10 11) s) (s.modCur fun c => { c with st := .ready }) = true := by decide +kernel

theorem test_mxop_not_scratchpad : let s := base 1 (xs [(11, 0x20000)] ready)
    CanIssue (.mxop 10 11) s ∧ isNext (exec (.mxop 10 11) s) (s.trap 5 0x20000) = true ∧
    (let u := base 1 (xs [(11, 0x20020)] ready)
     CanIssue (.mxop 10 11) u ∧ isNext (exec (.mxop 10 11) u) (u.trap 4 0x20020) = true) := by decide +kernel

theorem test_mxg : let g : GangOf := ⟨3, 1, 0, 0x20000, 4, [], none⟩
    let s := mx (mblk 2 0) fun T => { T with gang := some g }
    CanIssue (.mxg 10 11) s ∧ nx (exec (.mxg 10 11) s) (fun t => (t.tile 0).gang == some { g with next := 5 } &&
      (t.tile 0).mxQueue.map (·.gang) == [some (3, 4)] && t.cur.th.pc == 4) = true ∧
    (let u := mx (mblk 2 0) id
     CanIssue (.mxg 10 11) u ∧ isNext (exec (.mxg 10 11) u) (u.trap 50 ((Instr.mxg 10 11).word.zeroExtend 64)) = true) := by decide +kernel

theorem test_mxstat : let s := base 1 (xs [(11, 0x100000007#64)] ready)
    CanIssue (.mxstat 10 11) s ∧ nx (exec (.mxstat 10 11) s) (fun t => t.cur.pend.map (fun p => (p.dest, p.kind)) == [(.x 10, .status (some 9) 7 1)] &&
      t.cur.th.pc == 4) = true := by decide +kernel

theorem test_mxcancel : let s := (base 1 (xs [(11, 7)] ready)).modTile 0 fun T => { T with mxQueue := [mop 2 7 0, mop 2 8 0] }
    CanIssue (.mxcancel 11) s ∧ nx (exec (.mxcancel 11) s) (fun t => (t.tile 0).mxQueue == [mop 2 8 0] && (t.tile 0).mxDone == [mop 2 7 5]) = true := by decide +kernel

theorem test_mxcancel_running : let s := (base 1 (xs [(11, 7)] ready)).modTile 0 fun T => { T with mxRun := some (mop 2 7 1) }
    CanIssue (.mxcancel 11) s ∧ nx (exec (.mxcancel 11) s) (fun t => (t.tile 0).mxRun == some { mop 2 7 1 with stop := some (5, 0, 0, 1) } && t.cur.th.pc == 4) = true := by
  decide +kernel

theorem test_mxcancel_elsewhere : let s := base 1 (xs [(11, 0x10007)] ready)
    CanIssue (.mxcancel 11) s ∧ nx (exec (.mxcancel 11) s) (fun t => t.cur.th.pc == 4) = true := by decide +kernel

def mxAt (g : Tile → Tile) : State := (base 1 ready).modTile 0 g

theorem test_mx_win : let s := mxAt fun T => { T with mxQueue := [mop 2 7 0] }
    s.checkAt (.tile 0) 0 = .satisfied ∧ nx (exec (.mxeWinSatisfied 0 0) s) (fun t => (t.tile 0).mxQueue == [{ mop 2 7 0 with ready := true }]) = true := by decide +kernel

theorem test_mx_win_poison : let x := { mop 2 7 0 with blk := mblk 2 (pw 1 0 5) }
    let s := mxAt fun T => { T with mxQueue := [x], box := { T.box with settled := [(1, 5)], marks := [(1, ⟨5, 0, 5⟩)] } }
    s.checkAt (.tile 0) (pw 1 0 5) = .poison ∧ nx (exec (.mxeWinSatisfied 0 0) s) (fun t => (t.tile 0).mxQueue == [] && (t.tile 0).mxDone == [{ x with status := 6 }]) = true := by
  decide +kernel

theorem test_mx_win_probes : let x := { mop 2 7 0 with blk := mblk 2 (pw 0 1 5) }
    let s := mxAt fun T => { T with mxQueue := [x] }
    s.checkAt (.tile 0) (pw 0 1 5) = .probe ∧ s.mapOf 0 (witDst (pw 0 1 5)) = some 9 ∧
    nx (exec (.mxeWinSatisfied 0 0) s) (fun t => (t.tile 0).mxQueue == [x] && dests t == [.tile 9] && t.asks.map (fun a => (a.node, a.wit)) == [(.tile 0, pw 0 1 5)] &&
      bodiesAre t fun b => match b with
        | .probe w k wait => w.agent == .tile 0 && w.slot == 16 && k == .wit (pw 0 1 5) && wait
        | _ => false) = true := by decide +kernel

theorem test_mx_select : let x := { mop 2 7 0 with ready := true }
    let y := { mop 2 8 0 with ready := true, blk := (mblk 2 0).set 7 0x100000000000#64 }
    let s := mxAt fun T => { T with mxQueue := [x, y] }
    nx (exec (.mxeSelect 0) s) (fun t => (t.tile 0).mxRun == some { y with prio := 1, status := 1, due := 33 } && (t.tile 0).mxQueue == [x]) = true := by decide +kernel

theorem test_mx_select_aged : let x := { mop 2 7 0 with ready := true, since := 0 }
    let y := { mop 2 8 0 with ready := true, since := 4096, blk := (mblk 2 0).set 7 0x100000000000#64 }
    let s := mxAt fun T => { T with mxQueue := [x, y], cycles := 4096 + 1 }
    nx (exec (.mxeSelect 0) s) (fun t => (t.tile 0).mxRun.map (·.seq) == some 7 && (t.tile 0).mxQueue == [y]) = true := by decide +kernel

theorem test_gang_start : let g (p : Nat) : GangOf := ⟨3, 2, p, 0x20000, 5, [], none⟩
    let y := { mop 2 7 0 with gang := some (3, 4) }
    let s := (mxAt fun T => { T with gang := some (g 0), mxRun := some y }).modTile 9 fun T => { T with gang := some (g 1), mxRun := some y }
    (List.range 2).filterMap (s.gangMember 3) = [0, 9] ∧ nx (exec (.gangOpStart 0) s) (fun t =>
      (t.tile 0).mxRun == some { y with status := 1, started := true, due := 33 } && (t.tile 9).mxRun == some { y with status := 1, started := true, due := 32 }) = true := by
  decide +kernel

theorem test_mx_kstep : let s : State := { mxAt (fun T => { T with mxRun := some (mop 2 7 1) }) with
                                           mem := [(spadKey 0 0x30000, 0xFE), (spadKey 0 0x30001, 3), (spadKey 0 0x30100, 4), (spadKey 0 0x30101, 1)] }
    let x := mop 2 7 1
    mxBlocks x.blk = 1 ∧ x.due ≤ (s.tile 0).cycles ∧
    nx (exec (.mxeKstepBoundary 0) s) (fun t => (t.tile 0).mxRun == some { x with block := 1, due := 32, outs := [(0, [(0xFFFFFFFB, 0)])] }) = true := by decide +kernel

theorem test_mx_stop : let x := { mop 2 7 1 with stop := some (4, 2, 3, 0) }
    let s := mxAt fun T => { T with mxRun := some x }
    nx (exec (.mxeKstepBoundary 0) s) (fun t => (t.tile 0).mxRun == some { x with status := 4, cause := 2, pos := 3 }) = true := by decide +kernel

theorem test_mx_block : let x := { mop 2 7 1 with block := 1, outs := [(0, [(0xFFFFFFFB, 0x11)])] }
    let s := mxAt fun T => { T with mxRun := some x }
    nx (exec (.mxeBlockWritten 0) s) (fun t => t.mem.read (spadKey 0 0x30200) 8 == [0xFB, 0xFF, 0xFF, 0xFF, 0, 0, 0, 0] &&
      (t.tile 0).mxRun.map (fun y => (y.outs, y.done, y.nv, y.of_, y.nx)) == some ([], 1, 1, 0, 1)) = true := by decide +kernel

theorem test_mx_block_performed : let x := { mop 2 7 1 with block := 1, writing := some [(1, 0)] }
    let s := mxAt fun T => { T with mxRun := some x }
    (s.tile 0).mxStoring 7 = false ∧ nx (exec (.mxeBlockWritten 0) s) (fun t => (t.tile 0).mxRun.map (fun y => (y.writing, y.done)) == some (none, 1)) = true := by
  decide +kernel

theorem test_mx_end : let x := { mop 2 7 1 with block := 1, nv := 2, nx := 1 }
    let s := mxAt fun T => { T with mxRun := some x, mxCount := (2 ^ 32 - 1, 0, 0, 4) }
    mxBlocks x.blk = 1 ∧ (s.tile 0).mxPending 7 = false ∧
    nx (exec (.mxeOpEnd 0) s) (fun t => (t.tile 0).mxRun == none && (t.tile 0).mxDone == [{ x with status := 3 }] && (t.tile 0).mxCount == (1, 0, 0, 5)) = true := by
  decide +kernel

theorem test_mx_end_stopped : let x := mop 2 7 5
    let s := mxAt fun T => { T with mxRun := some x }
    nx (exec (.mxeOpEnd 0) s) (fun t => (t.tile 0).mxRun == none && (t.tile 0).mxDone == [x]) = true := by decide +kernel

theorem test_mxstat_result : let x := { mop 2 7 3 with nv := 2, done := 1 }
    let s := (base 1 { ready with pend := [⟨1, .x 10, .all, 0, 0, .status none 7 0, 0⟩] }).modTile 0 fun T => { T with mxDone := [x] }
    nx (exec (.mxstatResult 0 1) s) (fun t => (t.ctx (.tile 0) 1).x 10 == 0x0099000180000003#64 && (t.ctx (.tile 0) 1).pend == []) = true := by decide +kernel

theorem test_mxstat_result_counts : let s := (base 1 { ready with pend := [⟨1, .x 10, .all, 0, 0, .status (some 1) 7 3, 0⟩] }).modTile 0 fun T =>
      { T with mxDone := [mop 2 7 4], mxCount := (1, 2, 3, 4) }
    nx (exec (.mxstatResult 0 1) s) (fun t => (t.ctx (.tile 0) 1).x 10 == 0x100000002#64) = true := by decide +kernel

/-- CPYQ from offset 0x30000 to 0x40000, 5 bytes, id 0x77, with parameter block p. -/
def cpy (p len : Word) (c : Ctx) : Ctx := xs [(10, sp 0x30000), (11, sp 0x40000), (12, 0x7700000000#64 + len), (13, p)] c

theorem test_cpyq : let s := (base 1 (cpy 0 5 ready)).modTile 0 fun T => { T with copySeq := 6 }
    let x := Xfer.ofRequest 6 s.engWho (sp 0x30000) (sp 0x40000) 0x7700000005#64 []
    CanIssue (.cpyq 9) s ∧ xferLegal (Xfer.ofRequest 6 s.engWho (sp 0x30000) (sp 0x40000) (s.cur.x 12) []) (s.cur.x 12) 0 [] = true ∧
    s.xferSrcOk x = true ∧ s.xferDstOk x = true ∧ x.slotFault = none ∧
    nx (exec (.cpyq 9) s) (fun t => t.cur.x 9 == 6 && t.cur.th.pc == 4 && (t.tile 0).copyQueue.map (fun x => (x.src, x.dst, x.len, x.xid)) ==
      [(sp 0x30000, sp 0x40000, 5, 0x77)]) = true := by decide +kernel

theorem test_cpyq_block : let s : State := { base 1 (cpy (sp 0x20000) 64 ready) with mem := wordsAt 0x20000 [pw 1 0 5, 0, sp 0x50000, 0, 0, 0, 0, 0] }
    CanIssue (.cpyqNb 9) s ∧ SpadOk (sp 0x20000) 64 s ∧
    nx (exec (.cpyqNb 9) s) (fun t => (t.tile 0).copyQueue.map (fun x => (x.win, x.bslot)) == [(pw 1 0 5, sp 0x50000)]) = true := by decide +kernel

theorem test_cpyq_illegal : let s := base 1 (cpy 0 0 ready)
    CanIssue (.cpyq 9) s ∧ isNext (exec (.cpyq 9) s) (s.trap 2 ((Instr.cpyq 9).word.zeroExtend 64)) = true := by decide +kernel

theorem test_cpyq_source : let s := base 1 (xs [(10, sp 0x7FFFFC)] (xs [(11, sp 0x40000), (12, 5)] ready))
    CanIssue (.cpyq 9) s ∧ isNext (exec (.cpyq 9) s) (s.trap 5 (sp 0x7FFFFC)) = true := by decide +kernel

theorem test_cpyq_destination : let s := base 1 (xs [(10, sp 0x30000), (11, sp 0x7FFFFC), (12, 5)] ready)
    CanIssue (.cpyq 9) s ∧ isNext (exec (.cpyq 9) s) (s.trap 7 (sp 0x7FFFFC)) = true := by decide +kernel

theorem test_cpyq_slot : let s : State := { base 1 (cpy (sp 0x20000) 64 ready) with mem := wordsAt 0x20000 [0, 0, sp 0x50008, 0, 0, 0, 0, 0] }
    CanIssue (.cpyq 9) s ∧ isNext (exec (.cpyq 9) s) (s.trap 6 (sp 0x50008)) = true := by decide +kernel

theorem test_cpyq_misplaced : let s := base 1 (cpy 0x20020 5 ready)
    CanIssue (.cpyq 9) s ∧ isNext (exec (.cpyq 9) s) (s.trap 4 0x20020) = true := by decide +kernel

/-- A transfer of n bytes in state st. -/
def xf (seq n st : Nat) : Xfer := { Xfer.ofRequest seq ⟨none, false, 0⟩ (sp 0x30000) (sp 0x40000) (BitVec.ofNat 64 (0x77 * 2 ^ 32 + n)) [] with status := st }

theorem test_cpyq_full : let s := (base 1 (cpy 0 5 ready)).modTile 0 fun T => { T with copyQueue := (List.range 16).map fun k => xf k 5 0 }
    CanIssue (.cpyq 9) s ∧ isNext (exec (.cpyq 9) s) (s.modCur fun c => { c with st := .ready }) = true ∧
    nx (exec (.cpyqNb 9) s) (fun t => t.cur.x 9 == 0xFFFFFFFFFFFFFFFF#64 && t.cur.th.pc == 4) = true := by decide +kernel

theorem test_cwptr : let s := (base 1 (xs [(11, 0x100000003#64)] ready)).modTile 0 fun T => { T with copyRun := [{ xf 3 5 1 with wptr := 2 }] }
    CanIssue (.cwptr 10 11) s ∧ nx (exec (.cwptr 10 11) s) (fun t => t.cur.x 10 == 0x77000000000001#64) = true := by decide +kernel

theorem test_cwait : let s := (base 1 (xs [(11, 3)] ready)).modTile 0 fun T => { T with copyRun := [xf 3 5 1] }
    CanIssue (.cwait 11) s ∧ isNext (exec (.cwait 11) s) (s.modCur fun c => { c with st := .parkedWit, wait := .transfer 3 }) = true ∧
    (let u := (base 1 (xs [(11, 3)] ready)).modTile 0 fun T => { T with copyDone := [xf 3 5 2] }
     CanIssue (.cwait 11) u ∧ nx (exec (.cwait 11) u) (fun t => t.cur.th.pc == 4) = true) ∧
    (let u := base 1 (xs [(11, 0x10003)] ready)
     CanIssue (.cwait 11) u ∧ nx (exec (.cwait 11) u) (fun t => t.cur.th.pc == 4) = true) := by decide +kernel

theorem test_channel_start : let s := mxAt fun T => { T with copyQueue := [xf 3 5 0], copyRun := List.replicate 3 (xf 1 5 1) }
    nx (exec (.channelStart 0) s) (fun t => (t.tile 0).copyQueue == [] && (t.tile 0).copyRun == List.replicate 3 (xf 1 5 1) ++ [xf 3 5 1]) = true := by decide +kernel

theorem test_channel_win : let s := mxAt fun T => { T with copyRun := [xf 3 5 1] }
    witWf s.grade (xf 3 5 1).win = true ∧ s.checkAt (.tile 0) (xf 3 5 1).win = .satisfied ∧
    nx (exec (.channelWinSatisfied 0 0) s) (fun t => (t.tile 0).copyRun == [{ xf 3 5 1 with ready := true }]) = true := by decide +kernel

theorem test_channel_win_malformed : let x := { xf 3 5 1 with win := 1 }
    let s := mxAt fun T => { T with copyRun := [x] }
    witWf s.grade x.win = false ∧ nx (exec (.channelWinSatisfied 0 0) s) (fun t => (t.tile 0).copyRun == [] && (t.tile 0).copyDone == [{ x with status := 3 }]) = true := by
  decide +kernel

theorem test_channel_write : let x := { xf 3 5 1 with ready := true }
    let s : State := { mxAt (fun T => { T with copyRun := [x] }) with mem := [(spadKey 0 0x30000, 1), (spadKey 0 0x30004, 5), (spadKey 0 0x30005, 6)] }
    (s.tile 0).journal.length ≤ 1020 ∧ (s.tile 0).badLines = [] ∧ s.engXlat 0 x.who akLoad (effPtr x.src 0) = (.ok (.spad 0x30000), s) ∧
    nx (exec (.channelWrite 0 0 []) s) (fun t => t.mem == s.mem ++ [(spadKey 0 0x40000, 1), (spadKey 0 0x40004, 5)] && (t.tile 0).copyRun == [] &&
      (t.tile 0).copyDone.map (fun y => (y.seq, y.status, y.wptr)) == [(3, 2, 5)]) = true := by decide +kernel

/-- The mirror's word is set to 0 before the first byte is moved. -/
theorem test_channel_mirror : let x := { xf 3 5 1 with ready := true, mirror := 0x50000 }
    let s : State := { mxAt (fun T => { T with copyRun := [x] }) with mem := [(spadKey 0 0x30000, 1), (spadKey 0 0x50001, 9)] }
    x.dealt = [] ∧ s.engXlat 0 x.who akLoad (effPtr x.src 0) = (.ok (.spad 0x30000), s) ∧
    nx (exec (.channelWrite 0 0 []) s) (fun t => t.mem == [(spadKey 0 0x30000, 1)] && (t.tile 0).copyRun == [{ x with dealt := [0] }]) = true := by decide +kernel

/-! ### Kernel queue and link instructions, capabilities, the kernel window -/

theorem test_kappend : let w : Word := pw 1 0 5
    let s := inPart { base 2 (xs [(11, sp 0x20000)] ready) with mem := wordsAt 0x20000 [0, w, 0, 0, 0, 0, 0, 0] }
    CanIssue (.kappend 10 11) s ∧ s.kernelOf = none ∧ s.partOf (s.rankOf 0) = some 1 ∧ SpadOk (effPtr (s.cur.x 11) 0) 64 s ∧ witWf s.grade w = true ∧
    nx (exec (.kappend 10 11) s) (fun t => t.cur.pend.map (fun p => (p.dest, p.kind)) == [(.x 10, .append)] && t.cur.th.pc == 4 &&
      dests t == [.bridge 1] && bodies t == [.kappend ⟨.tile 0, 2, 0⟩ 1 0 true [0, w, 0, 0, 0, 0, 0, 0]]) = true := by decide +kernel

theorem test_kappend_report : let s := inPart { base 0 (xs [(11, sp 0x20000)] ready) with mem := wordsAt 0x20000 [0x4000000000000003#64, 1, 0, 0, 0, 0, 0, 0] }
    CanIssue (.kappend 10 11) s ∧ nx (exec (.kappend 10 11) s) (fun t =>
      bodies t == [.kappend ⟨.tile 0, 0, 0⟩ 1 0 false [0x4000000000000003#64, 1, 0, 0, 0, 0, 0, 0]]) = true := by decide +kernel

theorem test_kappend_restart : let s := inPart (base 0 ready)
    CanIssue (.kappend 10 0) s ∧ nx (exec (.kappend 10 0) s) (fun t => bodies t == [.kappend ⟨.tile 0, 0, 0⟩ 1 0 false []] && t.cur.xEmpty 10) = true := by decide +kernel

theorem test_kappend_malformed : let s := inPart { base 2 (xs [(11, sp 0x20000)] ready) with mem := wordsAt 0x20000 [0, 1, 0, 0, 0, 0, 0, 0] }
    CanIssue (.kappend 10 11) s ∧ witWf s.grade 1 = false ∧ isNext (exec (.kappend 10 11) s) (s.trap 25 1) = true := by decide +kernel

theorem test_kappend_no_partition : let s := base 2 ready
    CanIssue (.kappend 10 0) s ∧ s.partOf (s.rankOf 0) = none ∧ nx (exec (.kappend 10 0) s) (fun t => t.cur.x 10 == 0xC000000000000000#64 && t.cur.th.pc == 4) = true := by
  decide +kernel

/-- Slot 2 runs the contained entry at position 3. -/
def contained (l : List (XReg × Word)) : State :=
  { inPart (base 2 (xs l { ready with th := { ready.th with gtid := 0x1800000018000000#64 } })) with
    parts := [(1, { part0 with win := { winReset with exposed := [(3, false)] } })] }

theorem test_contained : let s := contained [(11, sp 0x20000), (12, sp 0x20040)]
    s.kernelOf = some (1, 3) ∧ SpadOk (sp 0x20000) 64 s ∧ SpadOk (sp 0x20040) 64 s ∧
    (∀ i ∈ ([.kappend 10 11, .qwake 11 12, .lpost 10 11 12, .larm 10 11 12] : List Instr), CanIssue i s) ∧
    isNext (exec (.kappend 10 11) s) (s.trap 27 ((Instr.kappend 10 11).word.zeroExtend 64)) = true ∧
    (∀ i ∈ ([.qwake 11 12, .lpost 10 11 12, .larm 10 11 12] : List Instr), isNext (exec i s) (s.trap 27 (sp 0x20000)) = true) := by decide +kernel

theorem test_parameter_pointer : let s := base 2 (xs [(11, 0x20010)] ready)
    paramForm (.qwake 11 12) = some (11, 32) ∧ CanIssue (.qwake 11 12) s ∧ isNext (exec (.qwake 11 12) s) (s.trap 4 0x20010) = true ∧
    (let u := base 2 (xs [(11, 0x20020)] ready)
     CanIssue (.qwake 11 12) u ∧ isNext (exec (.qwake 11 12) u) (u.trap 5 0x20020) = true) := by decide +kernel

theorem test_qwake : let s : State := { base 2 (xs [(11, sp 0x20000), (12, 0xC0500000000#64)] ready) with mem := wordsAt 0x20000 [1, 2, 3, 4] }
    CanIssue (.qwake 11 12) s ∧ SpadOk (effPtr (s.cur.x 11) 0) 32 s ∧ NoWait 3 s ∧
    nx (exec (.qwake 11 12) s) (fun t => dests t == [.bridge 3] && bodies t == [.qwake none [1, 2, 3, 4] 0xC0500000000#64] && t.cur.th.pc == 4) = true := by decide +kernel

theorem test_lpost : let s : State := { base 2 (xs [(11, sp 0x20000), (12, sp 0x20040)] ready) with
                                        mem := wordsAt 0x20000 [0, 5, 6, 0, 7, 0, 0, 0] ++ wordsAt 0x20040 [1, 2, 3, 4, 0x800, 9, 9, 9] }
    CanIssue (.lpost 10 11 12) s ∧ SpadOk (effPtr (s.cur.x 12) 0) 64 s ∧
    nx (exec (.lpost 10 11 12) s) (fun t => dests t == [.bridge 2] && t.cur.xEmpty 10 &&
      bodies t == [.linkReq ⟨.tile 0, 2, 0⟩ 0 none [1, 2, 3, 4, 0x800] [0, 5, 6, 0, 7, 0, 0, 0] 0]) = true := by decide +kernel

theorem test_larm : let s : State := { base 2 (xs [(11, sp 0x20000), (12, 0x12)] ready) with mem := wordsAt 0x20000 [1, 2, 3, 4, 5, 6, 7, 8] }
    CanIssue (.larm 10 11 12) s ∧ nx (exec (.larm 10 11 12) s) (fun t => dests t == [.bridge 0] &&
      bodies t == [.linkReq ⟨.tile 0, 2, 0⟩ 1 none [] [1, 2, 3, 4, 5, 6, 7, 8] 0x12]) = true := by decide +kernel

theorem test_lcnt : let s : State := { base 2 (xs [(11, sp 0x20000)] ready) with mem := wordsAt 0x20000 [1, 2, 3, 4, 0xC00, 6, 7, 8] }
    CanIssue (.lcnt 10 11) s ∧ nx (exec (.lcnt 10 11) s) (fun t => dests t == [.bridge 3] && t.cur.xEmpty 10 &&
      bodies t == [.linkReq ⟨.tile 0, 2, 0⟩ 2 none [1, 2, 3, 4, 0xC00] [] 0]) = true := by decide +kernel

/-- One posted access is under way, and it meets a test. -/
def postedIs (t : State) (p : Posted → Bool) : Bool :=
  match bodies t with
  | [.posted q] => p q
  | _ => false

/-- Mill core 4 issues with capability c in x11, tagged if g. -/
def mill (c : Word128) (g : Bool) (l : List (XReg × Word)) : State :=
  let M : MillCore := { MillCore.reset with ctx := xs ((11, c.extractLsb' 0 64) :: l) ready, hi := MillCore.reset.hi.set 11 (c.extractLsb' 64 64),
                                            tag := MillCore.reset.tag.set 11 g }
  { base 0 ready with focus := .mill 4, mills := [(4, M)] }

/-- A capability by R313's fields: permissions, lock, length and base in 64-byte units, cursor. -/
def capOf (perm lock len b cur : Nat) : Word128 := BitVec.ofNat 128 (perm * 2 ^ 120 + lock * 2 ^ 115 + len * 2 ^ 90 + b * 2 ^ 48 + cur)
/-- All of SRAM's first KiB, at its offset 16. -/
def cap0 : Word128 := capOf 31 0 16 (2 ^ 39) (2 ^ 45 + 16)

theorem test_hld : let s : State := { mill cap0 true [] with mem := wordAt (sramKey 16) 0x1122#64 ++ wordAt (sramKey 24) 0x33#64, sramTags := [1] }
    CanIssue (.hld 10 11) s ∧ (s.mill 4).cap 11 = (cap0, true) ∧ capCheck cap0 true [0, 2] (2 ^ 45 + 16) 16 = none ∧
    nx (exec (.hld 10 11) s) (fun t => (t.mill 4).cap 10 == (BitVec.ofNat 128 (0x33 * 2 ^ 64 + 0x1122), true) && t.cur.th.pc == 4) = true := by decide +kernel

theorem test_hld_rank : let s : State := { mill (capOf 31 0 16 0x100 0x4010) true [] with mem := wordAt 0x4010 0x1122#64 }
    CanIssue (.hld 10 11) s ∧ s.homeOf 0 = some 0 ∧ nx (exec (.hld 10 11) s) (fun t => (t.mill 4).cap 10 == (0x1122, false)) = true := by decide +kernel

/-- The state in which check n of register x11 has failed: a trap with cause 52, and the firmware may ask which capability it was. -/
noncomputable def capFailed (s : State) (v : Word) : State :=
  let T := s.trap 52 v
  { T with mills := tput T.mills 4 { T.mill 4 with blame := some ((s.mill 4).cap 11).1 } }

/-- i traps with cause 52 and value v when x11 is capability c with tag g, beside registers l. -/
noncomputable def capTrap (i : Instr) (c : Word128) (g : Bool) (l : List (XReg × Word)) (v : Word) : Bool :=
  decide (CanIssue i (mill c g l)) && isNext (exec i (mill c g l)) (capFailed (mill c g l) v)

theorem test_hld_checks : ([(cap0, false, 0x10B), (capOf 31 3 16 (2 ^ 39) (2 ^ 45), true, 0x20B), (capOf 1 0 16 (2 ^ 39) (2 ^ 45), true, 0x30B),
    (capOf 31 0 16 (2 ^ 39) (2 ^ 45 + 1024), true, 0x50B), (capOf 31 0 16 (2 ^ 39) (2 ^ 45 + 8), true, 0x60B),
    (capOf 31 0 16 (2 ^ 39 + 1) (2 ^ 45), true, 0x40B)] : List (Word128 × Bool × Word)).all
    (fun p => capTrap (.hld 10 11) p.1 p.2.1 [] p.2.2) = true := by decide +kernel

theorem test_hst : let s : State := { mill cap0 true [(12, 0x77)] with sramTags := [1] }
    CanIssue (.hst 11 12) s ∧ nx (exec (.hst 11 12) s) (fun t => t.mem == wordAt (sramKey 16) 0x77 && t.sramTags == [] && t.cur.th.pc == 4) = true := by decide +kernel

theorem test_hst_capability : let s := mill cap0 true []
    CanIssue (.hst 11 11) s ∧ nx (exec (.hst 11 11) s) (fun t => t.mem.read (sramKey 16) 16 == leBytes 16 cap0.toNat && t.sramTags == [1]) = true := by decide +kernel

theorem test_hst_rank : let s := mill (capOf 31 0 16 0x100 0x4010) true [(12, 0x77)]
    CanIssue (.hst 11 12) s ∧ nx (exec (.hst 11 12) s) (fun t => dests t == [.tile 0] && t.mem == [] &&
      postedIs t fun q => q.op == .store (leBytes 16 0x77) && q.rank == 0 && q.off == 0x4010) = true := by decide +kernel

theorem test_hnarrow : let s := mill (capOf 31 0 16 0x100 0x4040) true [(12, 0x3C0)]
    CanIssue (.hnarrow 10 11 12) s ∧ nx (exec (.hnarrow 10 11 12) s) (fun t => (t.mill 4).cap 10 == (capOf 31 0 15 0x101 0x4040, true)) = true := by decide +kernel

theorem test_hnarrow_checks : ([(capOf 31 0 16 0x100 0x4040, true, 0x400, 0x50B), (capOf 31 0 16 0x100 0x3FC0, true, 0x40, 0x40B),
    (capOf 31 1 16 0x100 0x4040, true, 0, 0x20B), (0, false, 0, 0x10B)] : List (Word128 × Bool × Word × Word)).all
    (fun p => capTrap (.hnarrow 10 11 12) p.1 p.2.1 [(12, p.2.2.1)] p.2.2.2) = true := by decide +kernel

theorem test_hdrop : let s := mill (capOf 31 0 16 0x100 0x4040) true [(12, 0x102)]
    CanIssue (.hdrop 10 11 12) s ∧ nx (exec (.hdrop 10 11 12) s) (fun t => (t.mill 4).cap 10 == (capOf 29 0 16 0x100 0x4040, true)) = true := by decide +kernel

theorem test_hdrop_moves : let u := mill (capOf 31 7 16 0x100 0x4040) true []
    CanIssue (.hdrop 10 11 0) u ∧ nx (exec (.hdrop 10 11 0) u) (fun t => (t.mill 4).cap 10 == (capOf 31 7 16 0x100 0x4040, true)) = true ∧
    capTrap (.hdrop 10 11 12) (capOf 31 7 16 0x100 0x4040) true [] 0x20B = true ∧ capTrap (.hdrop 10 11 0) 0 false [] 0x10B = true := by decide +kernel

theorem test_hseek : let s := mill (capOf 31 0 16 0x100 (2 ^ 48 - 1)) true [(12, 3)]
    CanIssue (.hseek 10 11 12) s ∧ nx (exec (.hseek 10 11 12) s) (fun t => (t.mill 4).cap 10 == (capOf 31 0 16 0x100 2, true)) = true := by decide +kernel

theorem test_hseek_checks : capTrap (.hseek 10 11 12) (capOf 31 7 16 0x100 0x4040) true [] 0x20B = true ∧ capTrap (.hseek 10 11 12) 0 false [] 0x10B = true ∧
    capTrap (.hst 11 12) (capOf 29 0 16 0x100 0x4040) true [] 0x30B = true ∧ capTrap (.hmint 10 11 12) (capOf 0 0 0 0 0x4010) false [(12, 64)] 0x30B = true ∧
    capTrap (.hmint 10 11 12) (capOf 0 9 0 0 0x4010) true [(12, 64)] 0x20B = true := by decide +kernel

theorem test_hlock_hopen : let s := mill (capOf 31 0 16 0x100 0x4040) true []
    let l := mill (capOf 31 31 16 0x100 0x4040) true []
    let n := mill 0 false []
    CanIssue (.hlock 10 11 31) s ∧ nx (exec (.hlock 10 11 31) s) (fun t => (t.mill 4).cap 10 == (capOf 31 31 16 0x100 0x4040, true)) = true ∧
    isNext (exec (.hlock 10 11 31) l) (capFailed l 0x20B) = true ∧ isNext (exec (.hlock 10 11 31) n) (capFailed n 0x10B) = true ∧
    CanIssue (.hopen 10 11 31) l ∧ nx (exec (.hopen 10 11 31) l) (fun t => (t.mill 4).cap 10 == (capOf 31 0 16 0x100 0x4040, true)) = true ∧
    isNext (exec (.hopen 10 11 30) l) (capFailed l 0x20B) = true ∧ isNext (exec (.hopen 10 11 31) n) (capFailed n 0x10B) = true := by decide +kernel

theorem test_hinfo : let s := mill (capOf 31 5 16 0x100 0x4040) true []
    CanIssue (.hinfo 10 11 0) s ∧
    ((List.range 7).zip [0x4000, 0x400, 1, 31, 5, 0x4040, 0xFFFFFFFFFFFFFFFF#64]).all (fun p =>
      nx (exec (.hinfo 10 11 (BitVec.ofNat 5 p.1)) s) fun t => t.cur.x 10 == p.2) = true := by decide +kernel

theorem test_hmint : let s := mill 0 false [(12, 0x4000), (13, 0x3FFFFFC0)]
    CanIssue (.hmint 10 12 13) s ∧ nx (exec (.hmint 10 12 13) s) (fun t => (t.mill 4).cap 10 == (capOf 31 0 (2 ^ 24 - 1) 0x100 0x4000, true)) = true := by decide +kernel

def win (W : Window) (s : State) : State := { s with parts := [(1, { part0 with win := W })] }
def winOf (t : State) : Option Window := (tget t.parts 1).map (·.win)
/-- The kind alone of a record with 8 words, and one with parameter and exposure. -/
def rec0 (kind : Nat) : List Word := [BitVec.ofNat 64 (kind * 2 ^ 56 + 2 ^ 55), 0, 0, 0, 0, 0, 0, 0]
def ent (pos : Nat) (b : List Word) (st : WState) (g : KStage) : WEntry := { WEntry.fresh_ pos b with st := st, stage := g }
def append (light : Bool) (b : List Word) (W : Window) : State := win W (withMsg (base 0 ready) (.bridge 1) none (.kappend who3 1 0 light b) (.tile 0))

theorem test_kappend_arrival : let s := append true (rec0 0) { winReset with nextPos := 2 ^ 32 - 1 }
    (s.arrive 7).isSome = true ∧ nx (exec (.kappendArrival 7) s) (fun t => winOf t == some { winReset with queue := [(2 ^ 32 - 1, rec0 0)], nextPos := 0 } &&
      bodies t == [.kreply who3 0xFFFFFFFF] && dests t == [.tile 0]) = true := by decide +kernel

theorem test_kappend_halted : let s := append true (rec0 0) { winReset with halted := true, faultPos := 9 }
    nx (exec (.kappendArrival 7) s) (fun t => winOf t == some { winReset with halted := true, faultPos := 9 } && bodies t == [.kreply who3 0x4000000000000009#64]) = true := by
  decide +kernel

theorem test_kappend_restarts : let s := append false [] { winReset with halted := true, nextPos := 9 }
    nx (exec (.kappendArrival 7) s) (fun t => winOf t == some { winReset with nextPos := 9 } && bodies t == [.kreply who3 0x8000000000000009#64]) = true := by decide +kernel

theorem test_kappend_reply : let p : Producer := ⟨5, .x 10, .all, 1, 0, .append, 0⟩
    let s := waits { ready with pend := [p] } (.kreply w3 0x55)
    (s.arrive 7).isSome = true ∧ nx (exec (.kappendReply 7) s) (fun t => (t.ctx (.tile 0) 3).x 10 == 0x55 && (t.ctx (.tile 0) 3).pend == []) = true := by decide +kernel

theorem test_window_decode : let s := win { winReset with queue := [(3, rec0 0x0A)] } (base 0 ready)
    decodeFault winReset 2 (rec0 0x0A) = none ∧ nx (exec (.windowDecode 1) s) (fun t => winOf t |>.any fun W =>
      W.entries.map (fun e => (e.pos, e.words, e.st)) == [(3, rec0 0x0A, .renamed)] && W.queue == [] && W.exposed == [(3, true)]) = true := by decide +kernel

theorem test_window_decode_fault : let b := (rec0 0x0B)
    let s := win { winReset with queue := [(3, b)] } (base 0 ready)
    decodeFault winReset 2 b = some 1 ∧ nx (exec (.windowDecode 1) s) (fun t => winOf t |>.any fun W =>
      W.entries.map (fun e => (e.pos, e.st, e.cause)) == [(3, .faulted, 1)]) = true := by decide +kernel

/-- KALLOC of logical buffer 5 in class 2. -/
def kalloc : List Word := [0x0180000000000002#64, 0, 0, BitVec.ofNat 64 (2 ^ 61 + 5 * 2 ^ 36), 0, 0, 0, 0]
def winBufs : Window := { winReset with counts := (List.replicate 16 0).set 2 2, free := [(2, [(0, 0), (1, 0)])] }

theorem test_window_renames : let s := win { winBufs with queue := [(3, kalloc)] } (base 0 ready)
    decodeFault { winBufs with queue := [(3, kalloc)] } 2 kalloc = none ∧ tget winBufs.free (krParam kalloc) = some [(0, 0), (1, 0)] ∧
    s.checkAt (.bridge 1) 0 = .satisfied ∧
    nx (exec (.windowDecode 1) s) (fun t => winOf t |>.any fun W => W.entries.map (·.dst) == [[some 0, none]] && tget W.spec 5 == some 0 &&
      tget W.free 2 == some [(1, 0)]) = true := by decide +kernel

theorem test_kind_completes : let e := ent 3 (rec0 0) .issued .idle
    let s := win { winReset with entries := [e] } (base 0 ready)
    s.checkAt (.bridge 1) 0 = .satisfied ∧ krRegPresent e.words 0 = false ∧ s.inputWit 1 { winReset with entries := [e] } [] e = some 0 ∧
    nx (exec (.windowKindComplete 1 0) s) (fun t => winOf t == some { winReset with entries := [{ e with st := .completed }] }) = true := by decide +kernel

theorem test_kind_begins : let e := ent 3 (rec0 9) .issued .idle
    let s := win { winReset with entries := [e] } (base 0 ready)
    nx (exec (.windowKindComplete 1 0) s) (fun t => winOf t == some { winReset with entries := [{ e with stage := .begun }] }) = true := by decide +kernel

theorem test_kind_poisoned : let e := ent 3 ((rec0 0).set 1 1) .issued .idle
    let s := win { winReset with entries := [e] } (base 0 ready)
    s.inputWit 1 { winReset with entries := [e] } [] e = none ∧
    nx (exec (.windowKindComplete 1 0) s) (fun t => winOf t == some { winReset with entries := [{ e with st := .faulted, cause := 7 }] }) = true := by decide +kernel

theorem test_kbind : let e := ent 3 (rec0 3) .issued (.writing 4)
    let s := win { winReset with entries := [e] } (base 0 ready)
    tget s.bridgeOut 4 = none ∧ nx (exec (.kbindWrite 1 0) s) (fun t => winOf t == some { winReset with entries := [{ e with st := .completed }] }) = true ∧
    nx (exec (.kbindWrite 1 0) { s with bridgeRefused := [4] }) (fun t => winOf t == some { winReset with entries := [{ e with st := .faulted, cause := 11 }] }) = true := by
  decide +kernel

/-- Page tables at rank 0's offset 0 that map the first gibibyte of DRAM and of host memory. -/
def tables : Memory := wordAt 0 0x1001 ++ wordAt 0x1000 0x27 ++ wordAt 0x10000 0x1001
/-- A region at r in p1's company. -/
def wordRec (kind p1 : Nat) (r : Word) : List Word := [BitVec.ofNat 64 (kind * 2 ^ 56 + 3 * 2 ^ 54), 0, 0, 1, r, 0, BitVec.ofNat 64 p1, 0]

theorem test_kwait : let e := ent 3 (wordRec 8 5 0x2000000000000108#64) .issued .begun
    let s : State := { win { winReset with entries := [e] } (base 0 ready) with mem := tables }
    s.winXlat 1 akLoad (krRegBase e.words 0) = some (.host 0x108) ∧
    nx (exec (.kwaitRead 1 0 5) s) (fun t => winOf t == some { winReset with entries := [{ e with st := .completed }] }) = true ∧
    nx (exec (.kwaitRead 1 0 4) s) (fun t => winOf t == some { winReset with entries := [{ e with stage := .polled (s.tickOf (bridgeTile 1)) }] }) = true := by
  decide +kernel

/-- KSIGNAL's record is translated before it is kept for its turn. -/
theorem test_ksignal_begins : let e := ent 3 (wordRec 7 5 0x4000) .issued .idle
    let s : State := { win { winReset with entries := [e] } (base 0 ready) with mem := tables }
    krRegPresent e.words 0 = true ∧ s.winWaits 1 (krRegBase e.words 0) = false ∧ (s.winXlat 1 akStore (krRegBase e.words 0)).isSome = true ∧
    nx (exec (.windowKindComplete 1 0) s) (fun t => winOf t == some { winReset with entries := [{ e with st := .completed, stage := .begun }] }) = true := by
  decide +kernel

theorem test_kwait_dram : let e := ent 3 (wordRec 8 5 0x4000) .issued .begun
    let s : State := { win { winReset with entries := [e] } (base 0 ready) with mem := wordAt 0 0x1001 ++ wordAt 0x1000 0x27 ++ wordAt 0x4000 5 ++ wordAt 0x10000 0x1001 }
    s.winWaits 1 (krRegBase e.words 0) = false ∧ s.winXlat 1 akLoad (krRegBase e.words 0) = some (.dram 0 0x4000 false false) ∧ s.admits 0 (some 1) 0 0x4000 = true ∧
    nx (exec (.kwaitRead 1 0 0) s) (fun t => winOf t == some { winReset with entries := [{ e with st := .completed }] }) = true := by decide +kernel

theorem test_kfence : let e := ent 3 (rec0 9) .issued .begun
    let s := win { winReset with entries := [e] } (base 0 ready)
    nx (exec (.kfenceComplete 1 0) s) (fun t => winOf t == some { winReset with entries := [{ e with st := .completed }] }) = true := by decide +kernel

theorem test_ksignal : let e := ent 3 (wordRec 7 0x99 0x4000) .completed .begun
    let s : State := { win { winReset with entries := [e] } (base 0 ready) with mem := tables }
    s.winXlat 1 akStore (krRegBase e.words 0) = some (.dram 0 0x4000 false false) ∧ s.winWaits 1 (krRegBase e.words 0) = false ∧
    nx (exec (.ksignalWrite 1) s) (fun t => dests t == [.tile 0] && postedIs t fun q => q.off == 0x4000 &&
      q.op == .store ([0x99, 0x300000001#64, BitVec.ofNat 64 (t.tickOf 63), BitVec.ofNat 64 (2 ^ 63 + t.tickOf 63 + 1)].flatMap wordBytes)) = true ∧ bridgeTile 1 = 63 ∧
    (let f := ent 3 (wordRec 7 0x99 0x4000) .completed (.writing 4)
     nx (exec (.ksignalWrite 1) (win { winReset with entries := [f] } (base 0 ready))) (fun t => winOf t == some { winReset with entries := [{ f with stage := .written }] }) = true) := by
  decide +kernel

theorem test_window_retires : let e := { ent 3 ((wordRec 5 0 0).set 3 (BitVec.ofNat 64 (2 ^ 61 + 5 * 2 ^ 36))) .completed .idle with
                                         dst := [some 1, none], old := [some 0, none], out := pw 0 1 4 }
    let s := win { winBufs with entries := [e], free := [], retired := 2 ^ 64 - 1, lastWit := [(0, pw 0 1 2)] } (base 0 ready)
    winBufs.locate 0 = some (2, 0) ∧ krDstInPlace e.words 0 = false ∧
    nx (exec (.windowRetire 1) s) (fun t => winOf t |>.any fun W => W.entries == [] && W.retired == 0 && tget W.committed 5 == some 1 &&
      tget W.lastWit 1 == some (pw 0 1 4) && tget W.free 2 == some [(0, pw 0 1 2)]) = true := by decide +kernel

theorem test_window_faults : let e := { ent 3 (rec0 0) .faulted .idle with cause := 7, rank := 0, tval := 0x55, gtid := 0x66 }
    let s := win { winReset with entries := [e, ent 4 (rec0 0) .renamed .idle], queue := [(5, rec0 0)], committed := [(1, 1)], spec := [(1, 2)] } (base 0 ready)
    tget s.rankTile part0.faultRank = some 0 ∧
    nx (exec (.windowFault 1) s) (fun t => (winOf t |>.any fun W => W.entries == [] && W.queue == [] && W.halted && W.faultPos == 3 && W.spec == [(1, 1)]) &&
      (bodies t).any fun b => match b with
        | .faultRec 1 w => w.getD 0 0 == 0x0107100000000000#64 && w.getD 3 0 == 0x55 && w.getD 5 0 == 0x66
        | _ => false) = true := by decide +kernel

theorem test_window_issues : let e := ent 3 [0x0400000000000001#64, 0, 0, 0, 0, 0, 0x8000, 0x77] .renamed .idle
    let s := win { winReset with entries := [e], tboff := 0x9000, avbase := 0x123 } (base 0 ready)
    s.entryReady 1 { winReset with entries := [e], tboff := 0x9000, avbase := 0x123 } [] e = true ∧ part0.rangeOf e = [(0, 0)] ∧ s.homeOf 0 = some 0 ∧
    nx (exec (.windowIssue 1) s) (fun t => (t.tile 0).inbox == [(0, 3)] && (t.priv (.tile 0)).mip == 0x40000 &&
      t.mem.word (spadKey 0 0x800) == 0x1800000018000000#64 && t.mem.word (spadKey 0 0x808) == 0x8000 && t.mem.word 0x9010 == 0x123 &&
      t.mem.word 0x9018 == 0x1800000018000000#64 && t.mem.word 0x9030 == 0x77) = true := by decide +kernel

def report (light : Bool) (b : List Word) (e : WEntry) (j : Nat) : State :=
  (win { winReset with entries := [e] } (withMsg (base 0 ready) (.bridge 1) none (.kappend ⟨.tile 0, 0, 5⟩ 1 0 light b) (.tile 0))).modTile 0
    fun T => { T with inbox := [(j, e.pos)] }

theorem test_report : let e := ent 3 [0x0400000000000001#64, 0, 0, 0, 0, 0, 0x8000, 0x77] .issued .idle
    let s := report false [0x4000000000000003#64, pw 0 1 4, 0, 0, 0, 0, 0, 0] e 7
    reportWf [0x4000000000000003#64, pw 0 1 4, 0, 0, 0, 0, 0, 0] = true ∧ part0.rangeOf e = [(0, 0)] ∧
    nx (exec (.report 7) s) (fun t => winOf t == some { winReset with entries := [{ e with st := .completed, out := pw 0 1 4, reported := [0] }] } &&
      (t.tile 0).inbox == [] && bodies t == [.kreply ⟨.tile 0, 0, 5⟩ 3]) = true ∧
    (let u := report false [0x4000000000000003#64, 1, 0, 0, 0, 0, 0, 0] e 0
     nx (exec (.report 7) u) (fun t => winOf t |>.any fun W => W.entries.map (fun f => (f.st, f.cause, f.rank, f.tval)) == [(.faulted, 7, 0, 1)]) = true) ∧
    (let u := report false [0x4009000000000003#64, 1, 2, 0, 0, 0, 0, 0] e 0
     nx (exec (.report 7) u) (fun t => winOf t |>.any fun W => W.entries.map (fun f => (f.st, f.cause, f.tval, f.gtid)) == [(.faulted, 9, 1, 2)]) = true) := by
  decide +kernel

theorem test_report_not_last : let e := ent 3 [0x0400001000000001#64, 0, 0, 0, 0, 0, 0x8000, 0x77] .issued .idle
    let s := report false [0x4000000000000003#64, pw 0 1 4, 0, 0, 0, 0, 0, 0] e 0
    part0.rangeOf e = [(0, 0), (1, 1)] ∧ nx (exec (.report 7) s) (fun t => winOf t |>.any fun W => W.entries.map (fun f => (f.st, f.reported)) == [(.issued, [0])]) = true := by
  decide +kernel

theorem test_report_light : let e := ent 3 [0x0400000000000001#64, 0, 0, 0, 0, 0, 0x8000, 0x77] .issued .idle
    let s := report true [0x4000000000000003#64, pw 0 1 4, 0, 0, 0, 0, 0, 0] e 0
    nx (exec (.report 7) s) (fun t => bodies t == [.kreply ⟨.tile 0, 0, 5⟩ 0xC000000000000000#64]) = true := by decide +kernel

theorem test_squash_notice : let s := inPart ((withMsg (base 0 ready) (.tile 0) none (.squash 1 [3, 4]) (.bridge 1)).modTile 0 fun T => { T with inbox := [(7, 4)] })
    arrives s 0 (.squash 1 [3, 4]) = true ∧ s.partOf (s.rankOf 0) = some 1 ∧ nx (exec (.squashNotice 7) s) (fun t => (t.priv (.tile 0)).mip == 0x40000 &&
      t.mem.word (spadKey 0 0x9F0) == 0x40000000000000#64) = true := by decide +kernel

/-! ### Reset, time, suspicion and retirement -/

theorem test_module_reset : let s := { base 0 ready with mem := wordAt 0x4000 5 }
    nx (exec (.moduleReset false []) s) (fun t => t.mem == s.mem && t.tile 0 == Tile.reset && t.field 0 == Field.reset && t.rankTile == [] && !t.mill0.fwok) = true := by
  decide +kernel

theorem test_module_reset_ranks : let s : State := { base 0 ready with grade := 900 }
    s.fusedBad = [] ∧ s.fusedSpare = [] ∧ nx (exec (.moduleReset true []) s) (fun t => tget t.rankTile 899 == some (tileOfField 56 3) && !t.mill0.gnm) = true := by
  decide +kernel

/-- Tile 1 is under test, of what life before. -/
def testing (before : Life) (m : Tbl Nat) : State :=
  { (base 0 ready).setTile 1 { Tile.reset with life := .testing, before := before } with baseMap := m, mill0 := { (base 0 ready).mill0 with fwok := true } }

theorem test_self_test : let s := testing .ranked [(4, 1)]
    (s.tile 1).life = .testing ∧ 1 ∉ s.fusedBad ∧ 1 ∉ s.mill0.failed ∧
    nx (exec (.selfTestEnd 1 true) s) (fun t => (t.tile 1).life == .ranked && (t.tile 1).rank == some 4) = true := by decide +kernel

theorem test_self_test_spare : let s := testing .ranked [(4, 0)]
    nx (exec (.selfTestEnd 1 true) s) (fun t => (t.tile 1).life == .spare && (t.tile 1).rank == none) = true := by decide +kernel

theorem test_self_test_bad : let s : State := { testing .ranked [(4, 1)] with fusedBad := [1] }
    nx (exec (.selfTestEnd 1 true) s) (fun t => (t.tile 1).life == .bad && (t.tile 1).rank == none) = true := by decide +kernel

theorem test_self_test_fallow : nx (exec (.selfTestEnd 1 true) (testing .fallow [])) (fun t => (t.tile 1).life == .spare) = true ∧
    nx (exec (.selfTestEnd 1 false) (testing .fallow [])) (fun t => (t.tile 1).life == .bad) = true := by decide +kernel

theorem test_start_edge : let s : State := { testing .ranked [] with fields := [] }
    (s.field 63).started = false ∧ nx (exec (.startEdge 63) s) (fun t => (t.field 63).started) = true := by decide +kernel

/-- Every field counts, at TICK 1,000. -/
def counting (s : State) : State := { s with fields := (List.range 64).map fun f => (f, { Field.reset with started := true, tick := 1000 }) }

theorem test_tick_edge : let s := counting ((base 0 ready).setTile 1 { tileOf 2 0 ready with beats := [(0, ⟨7, 0, 9, 0⟩)] })
    EdgeDue s 0 ∧ s.suspects = [] ∧ 0 ∈ links (tileOfField 0 1) ∧ tileOfField 0 1 = 1 ∧
    nx (exec (.tickEdge 0) s) (fun t => (t.field 0).tick == 1001 && tgetD (t.tile 1).beats 0 Beat.none == ⟨0, 0, 0, 0⟩) = true := by
  decide +kernel

theorem test_tick_edge_missed : let s := counting (((base 0 ready).setTile 1 { tileOf 2 0 ready with beats := [(0, ⟨7, 3, 0, 1⟩)] }).modTile 0 fun T => { T with shellAlive := false })
    nx (exec (.tickEdge 0) s) (fun t => tgetD (t.tile 1).beats 0 Beat.none == ⟨8, 0, 0, 1⟩) = true := by decide +kernel

/-- An edge that another field has not reached yet does not come (R354). -/
theorem test_tick_edge_not_due : let s := (counting (base 0 ready)).modField 0 fun F => { F with tick := 1001 }
    isNext (exec (.tickEdge 0) s) s = true := by decide +kernel

theorem test_tick_edge_dtick : let s : State := { base 0 ready with fields := (List.range 64).map fun f => (f, { Field.reset with started := true, tick := 1000, reports := [(999, if f = 5 then 990 else 997)] }) }
    EdgeDue s 0 ∧ (s.field 63).reports.find? (fun q => q.1 == 999) = some (999, 997) ∧
    nx (exec (.tickEdge 0) s) (fun t => (t.tile 0).dtick == 990) = true := by decide +kernel

theorem test_losses : let s := base 0 ready
    nx (exec (.gridWireDisagree 63 2) s) (fun t => t.mill0.reports.head? == some (.wire 63 2)) = true ∧
    nx (exec (.fieldGridLoss 0) s) (fun t => (t.field 0).gridLost) = true ∧
    nx (exec (.coreAliveLoss 9) s) (fun t => !(t.tile 9).coreAlive && (t.tile 9).shellAlive) = true ∧
    nx (exec (.tileSupplyLoss 9) s) (fun t => !(t.tile 9).coreAlive && !(t.tile 9).shellAlive) = true ∧
    nx (exec (.lowerOperatingPoint 511) s) (fun t => tget t.points 511 == some 1) = true ∧ isNext (exec (.cxlSnoop 0) s) s = true := by decide +kernel

theorem test_overtemp : nx (exec .junctionOvertemp (base 0 ready)) (fun t => (t.field 0).stopped && (t.field 63).stopped) = true := by decide +kernel

theorem test_uncorrectable : let s := inPart (base 0 ready)
    s.partOf (s.rankOf 0) = some 1 ∧ tget s.rankTile part0.faultRank = some 0 ∧
    nx (exec (.uncorrectableError 0 true 0x7FFFFF) s) (fun t => (t.tile 0).badLines == [0x1FFFF]) = true ∧
    nx (exec (.uncorrectableError 0 false 0x1FFFFFFFF) s) (fun t => t.poison 0 0x1FFFF0000 == 1 && t.poison 0 0x1FFFEFFFF == 0 &&
      (bodies t).any fun b => match b with
        | .faultRec 1 w => w.getD 3 0 == 0x1FFFF0000
        | _ => false) = true := by decide +kernel

theorem test_latency_page : let s : State := { base 0 ready with parts := [(1, { part0 with ranks := [0] })], fields := [(0, { Field.reset with tick := 2 ^ 20 })] }
    s.tickOf (bridgeTile 0) % 2 ^ 20 = 0 ∧ s.homeOf 0 = some 0 ∧ (s.tile 0).evac = none ∧ part0.lpoff + 65536 ≤ 2 ^ 33 := by decide +kernel

/-- Tile 1 is ranked beside tile 0, which has heard b of it; tile 2 is a spare. -/
def beside (b : Beat) : State :=
  (((base 0 ready).modTile 0 fun T => { T with beats := [(1, b)] }).setTile 1 (tileOf 4 0 ready)).setTile 2 { Tile.reset with life := .spare }

theorem test_suspect_report : let s := beside ⟨8, 0, 4, 0⟩
    1 ∈ links 0 ∧ 1 ∉ (s.tile 0).told ∧ nx (exec (.suspectReport 0 1) s) (fun t => (t.tile 1).life == .suspect && (t.tile 0).told == [1] &&
      bodies t == [.suspect 1 false] && dests t == [.bridge 0] && (tget t.suspects 1).isSome) = true ∧
    nx (exec (.suspectReport 0 1) (beside ⟨0, 8, 4, 0⟩)) (fun t => bodies t == [.suspect 1 true]) = true := by decide +kernel

/-- A report of tile 0 about the suspect tile 1, with S standing, is on its way. -/
def voting (S : Suspicion) : State :=
  { ((withMsg (beside ⟨8, 0, 4, 0⟩) (.bridge 0) none (.suspect 1 true) (.tile 0)).modTile 1 fun T => { T with life := .suspect, before := .ranked }) with
    suspects := [(1, S)], rankTile := [(0, 0), (4, 1)] }

theorem test_vote : let S : Suspicion := ⟨984, [0, 2, 12], [2], false, false, false⟩
    (∃ r s', (voting S).arrive 7 = some (r, s')) ∧
    nx (exec (.suspectVote 7) (voting S)) (fun t => t.suspects == [(1, { S with by_ := [2, 0], core := true, passed := true })] && (t.tile 1).life == .suspect) = true ∧
    nx (exec (.suspectVote 7) (voting { S with live := [2, 12] })) (fun t => t.suspects == [(1, { S with live := [2, 12] })]) = true ∧
    nx (exec (.suspectVote 7) (voting { S with first := 983 })) (fun t => t.suspects == [(1, { S with first := 983 })]) = true := by
  refine ⟨?_, by decide +kernel, by decide +kernel, by decide +kernel⟩
  have h : (voting ⟨984, [0, 2, 12], [2], false, false, false⟩).arrive 7 ≠ none := by decide +kernel
  cases h' : (voting ⟨984, [0, 2, 12], [2], false, false, false⟩).arrive 7 with
  | none => exact absurd h' h
  | some p => exact ⟨p.1, p.2, rfl⟩

/-- The vote on tile 1 has passed, and the mill's tick ends. -/
def votedOut (l two : Life) : State :=
  counting { ((beside ⟨8, 0, 4, 0⟩).modTile 1 fun T => { T with life := l, before := .ranked, rank := if l = .spare then none else some 4 }).modTile 2 (fun T =>
      { T with life := two }) with suspects := [(1, ⟨990, [0, 2, 12], [2, 0], true, false, true⟩)], rankTile := [(0, 0), (4, 1)] }

theorem test_vote_spare : let s := votedOut .spare .spare
    EdgeDue s (fieldOf (bridgeTile 0)) ∧ fieldOf (bridgeTile 0) = 0 ∧ 1 ∈ allTiles ∧
    nx (exec (.tickEdge 0) s) (fun t => (t.tile 1).life == .bad && t.suspects == []) = true := by decide +kernel

theorem test_vote_retires_hyp : let s := votedOut .suspect .spare
    EdgeDue s 0 ∧ s.adopterFor 1 4 = some 2 ∧ s.partOf 4 = none := by decide +kernel

theorem test_vote_retires : nx (exec (.tickEdge 0) (votedOut .suspect .spare)) (fun t => tget t.rankTile 4 == some 2 && t.gen == 1 &&
    (t.tile 2).rank == some 4 && (t.tile 2).life == .adopted && (t.tile 1).life == .fallow && (t.tile 1).rank == none) = true := by decide +kernel

theorem test_vote_retires_rest : nx (exec (.tickEdge 0) (votedOut .suspect .spare)) (fun t => (t.ctx (.tile 1) 0).st == .free &&
    (t.tile 2).evac == some (1, 0) && t.suspects == []) = true := by decide +kernel

theorem test_vote_no_spare : let s := votedOut .suspect .bad
    s.adopterFor 1 4 = none ∧ nx (exec (.tickEdge 0) s) (fun t => tget t.rankTile 4 == none && (t.tile 1).life == .fallow && tget t.lost 4 == some (1, 2)) = true := by
  decide +kernel

/-- Tile 1 is suspect since TICK 984. -/
def suspected (watchdog : Bool) (two : Life) : State :=
  { (((beside ⟨8, 0, 4, 0⟩).modTile 1 fun T => { T with life := .suspect, before := .ranked }).modTile 2 fun T => { T with life := two }) with
    suspects := [(1, ⟨984, [0, 2, 12], [2], false, watchdog, false⟩)], rankTile := [(0, 0), (4, 1)] }

theorem test_suspicion_ends : let s := suspected false .spare
    984 + 16 ≤ s.tickOf (bridgeTile 0) ∧ nx (exec (.suspectWindowExpiry 1) s) (fun t => t.suspects == [] && (t.tile 1).life == .ranked &&
      t.mill0.reports.head? == some (.cleared (pcoord 1) 4 s.gen)) = true := by decide +kernel

theorem test_watchdog_retires : let s := suspected true .spare
    s.adopterFor 1 4 = some 2 ∧ (s.tile 1).rank = some 4 ∧ nx (exec (.suspectWindowExpiry 1) s) (fun t => (t.tile 1).life == .fallow && tget t.rankTile 4 == some 2) = true ∧
    nx (exec (.suspectWindowExpiry 1) (suspected true .bad)) (fun t => tget t.lost 4 == some (1, 3)) = true := by decide +kernel

/-- The mill retires tile 1 by management command: cause 4. -/
theorem test_ordered_retirement : let s := beside ⟨0, 0, 4, 0⟩
    (s.tile 1).life = .ranked ∧ nx (exec (.suspectWindowExpiry (1 + 1024 * 4)) (({ s with rankTile := [(0, 0), (4, 1)] } : State).modTile 2 fun T => { T with life := .bad }))
      (fun t => (t.tile 1).life == .fallow && tget t.lost 4 == some (1, 4)) = true ∧
    nx (exec (.suspectWindowExpiry (1 + 1024 * 2)) (({ s with rankTile := [(0, 0), (4, 1)] } : State).modTile 1 fun T => { T with shellAlive := false }))
      (fun t => tget t.rankTile 4 == some 2 && t.poison 2 0x10000 == 2) = true := by decide +kernel

theorem test_stand_in_adoption : let s : State := { (beside ⟨8, 0, 4, 0⟩).modTile 1 (fun T => { T with life := .fallow, rank := none }) with lost := [(4, (1, 2))], rankTile := [(0, 0)], standIn := [(4, 0)] }
    s.adopterFor 1 4 = some 2 ∧ nx (exec (.standInAdoption 4) s) (fun t => tget t.rankTile 4 == some 2 && (t.tile 2).rank == some 4 && (t.tile 2).life == .adopted &&
      t.standIn == [] && t.lost == [] && t.gen == s.gen + 1 && t.poison 2 0 == 2) = true := by decide +kernel

theorem test_evacuation : let s := (beside ⟨8, 0, 4, 0⟩).modTile 2 fun T => { T with evac := some (1, 131070) }
    (s.tile 2).evac = some (1, 131070) ∧ (s.tile 2).shellAlive = true ∧ s.mem.wf = true ∧ nx (exec (.evacuationRange 2 false) s) (fun t => t.poison 2 (131070 * 65536) == 2 && (t.tile 2).evac == some (1, 131071)) = true := by
  decide +kernel

theorem test_drain_watchdog : let e : JEntry := { jent with tick := 1000, addr := 0x55, gtid := 0x66 }
    let s : State := { inPart ((base 0 ready).modTile 0 fun T => { T with journal := [e] }) with fields := [(0, { Field.reset with started := true, tick := 17384 })] }
    e.tick + 16384 ≤ s.tickOf 0 ∧ nx (exec (.drainWatchdog 0 4) s) (fun t => (t.tile 0).journal == [{ e with checked := true }] && dests t == [.tile 0] &&
      (bodies t).any fun b => match b with
        | .faultRec 1 w => w.getD 3 0 == 0x55 && w.getD 5 0 == 0x66
        | _ => false) = true := by decide +kernel

/-! ### The host -/

/-- Bytes at 0, 1 and so on. -/
def cells (l : List Byte) : Memory := l.zipIdx.map fun p => (p.2, p.1)

theorem tget_cells {α : Type} (l : List α) (k i : Nat) (d : α) : (tget ((l.zipIdx k).map fun p => (p.2, p.1)) (k + i)).getD d = l.getD i d := by
  induction l generalizing k i with
  | nil => simp [tget]
  | cons a l ih =>
    cases i with
    | zero => simp [tget]
    | succ i =>
      have h : k ≠ k + (i + 1) := by omega
      simp only [List.zipIdx_cons, List.map_cons, tget, if_neg h, List.getD_cons_succ]
      rw [← ih (k + 1) i]; congr 2; omega

theorem read_cells (l : List Byte) : (cells l).read 0 l.length = l := by
  refine List.ext_getElem (by simp [Memory.read]) fun i h₁ h₂ => ?_
  have h := tget_cells l 0 i 0
  rw [Nat.zero_add] at h
  simp only [Memory.read, Memory.get, tgetD, cells, List.getElem_map, List.getElem_range, Nat.zero_add]
  exact h.trans (by simp [h₂])

/-- A request in a mailbox of s. -/
def mailed (x : Nat) (b : List Byte) (s : State) : State := { s with boxes := [(x, ⟨b.length, cells b, [], none⟩)] }
def reqBytes (code : Byte) (svc : List Word) (payload : List Byte) : List Byte :=
  [code, 0, 0x34, 0x12] ++ leBytes 4 (48 + payload.length) ++ leBytes 8 0 ++ wordsBytes svc ++ payload

theorem request_mailed (x : Nat) (b : List Byte) (s : State) : ((mailed x b s).box x).request = parseReq b := by
  simp [mailed, State.box, tgetD, tget, Mailbox.request, read_cells]

theorem word_bytes (w : Word) : BitVec.ofNat 64 (leNat (wordBytes w)) = w := by
  have h := w.isLt
  apply BitVec.eq_of_toNat_eq
  simp only [wordBytes, leBytes, leNat, BitVec.toNat_ofNat]
  omega

theorem svc_request (code : Byte) (a b c d : Word) (p : List Byte) : (parseReq (reqBytes code [a, b, c, d] p)).svc = [a, b, c, d] := by
  have h0 : leAt (reqBytes code [a, b, c, d] p) 16 8 = leNat (wordBytes a) := rfl
  have h1 : leAt (reqBytes code [a, b, c, d] p) 24 8 = leNat (wordBytes b) := rfl
  have h2 : leAt (reqBytes code [a, b, c, d] p) 32 8 = leNat (wordBytes c) := rfl
  have h3 : leAt (reqBytes code [a, b, c, d] p) 40 8 = leNat (wordBytes d) := rfl
  have hr : List.range 4 = [0, 1, 2, 3] := rfl
  simp [parseReq, hr, h0, h1, h2, h3, word_bytes]

/-- A seal is a function of the module's resets and the three doublewords. -/
theorem seal_of (s t : State) (l : List Word) (h : s.mill0.resets = t.mill0.resets) : s.sealOf l = t.sealOf l := by
  simp [State.sealOf, State.queueKey, h]

/-- The mill's queue record with the SERVICE right, and an ordinary one of a kind. -/
def svcQueue : Queue := { Queue.reset with state := 1, gen := 1, kind := 4, rights := 0x80 }
def queue7 (state kind att : Nat) : Queue := { Queue.reset with state := state, gen := 3, kind := kind, rights := 0xF, base := 0x40, length := 5, owner := att * 16 + 1 }
def sealed (k : Queue) : List Word := State.reset.mint k

/-- s with a request of a code whose service capability passes. -/
def served (code : Byte) (l : List Word) (s : State) : State :=
  mailed 0 (reqBytes code (sealed svcQueue) (wordsBytes l)) { s with queues := [(4095, svcQueue)] }

theorem seal_passes (s : State) (k : Queue) (h : s.mill0.resets = State.reset.mill0.resets) : s.qcapSeal (sealed k) = true := by
  simpa [State.qcapSeal, sealed, State.mint, Queue.sealed] using (seal_of s State.reset k.sealed h).symm

theorem service_passes (code : Byte) (l : List Word) (s : State) (h : s.mill0.resets = State.reset.mill0.resets) :
    (served code l s).serviceOk ((served code l s).box 0).request = true := by
  have hr : ((served code l s).box 0).request.svc = sealed svcQueue := by
    rw [served, request_mailed]; exact svc_request _ _ _ _ _ _
  have hf : qcapFormat (sealed svcQueue) = true := by decide +kernel
  have hm : svcQueue.matches_ (sealed svcQueue) = true := by decide +kernel
  have hh : qcapHas (sealed svcQueue) 7 = true := by decide +kernel
  have hq : (served code l s).queue 4095 = svcQueue := rfl
  rw [State.serviceOk, hr, seal_passes (served code l s) _ h, hq, hf, hm, hh]; rfl

def mailWords (code : Byte) (l : List Word) (s : State) : State := mailed 0 (reqBytes code [0, 0, 0, 0] (wordsBytes l)) s
/-- Mailbox x's response: its header's first four bytes, its length and its payload. -/
def resp (t : State) : List Byte × List Byte := (((t.box 0).resp.read 0 4), ((t.box 0).resp.read 16 8))
/-- The mailbox is answered with a status. -/
def said (t : State) (st : Byte) : Bool := (t.box 0).busy == 0 && (t.box 0).resp.get 0 == st && (t.box 0).resp.read 2 2 == [0x34, 0x12] && t.msix.head? == some (0, 0)

theorem test_request_buffer : let s := base 0 ready
    (s.box 2).busy = 0 ∧ nx (exec (.registerWrite 2 0x1FFF [5]) s) (fun t => (t.box 2).req == [(0xFFF, 5)]) = true := by decide +kernel

theorem test_doorbell : let q := reqBytes 0x11 [0, 0, 0, 0] (wordsBytes [0, 0])
    let s : State := { base 0 ready with boxes := [(0, ⟨0, cells q, [], none⟩)], mill0 := { (base 0 ready).mill0 with ready := true } }
    envelopeOk q = true ∧ q.length = 64 ∧ nx (exec (.registerWrite 0 0x100 [64, 0, 0, 0]) s) (fun t => (t.box 0).busy == 64) = true := by decide +kernel

theorem test_doorbell_malformed : let q := reqBytes 0x12 [0, 0, 0, 0] (wordsBytes [0, 0])
    let s : State := { base 0 ready with boxes := [(0, ⟨0, cells q, [], none⟩)], mill0 := { (base 0 ready).mill0 with ready := true } }
    envelopeOk q = false ∧ nx (exec (.registerWrite 0 0x100 [64, 0, 0, 0]) s) (fun t => said t 1) = true := by decide +kernel

theorem test_no_service : ([(.readmit 0, 0x07), (.endpoint 0, 0x09), (.route 0, 0x0A), (.keyinstall 0, 0x0C), (.keyremove 0, 0x0E)] : List (Instr × Byte)).all
    (fun p => commandCode p.1 0 == some p.2.toNat && !((mailWords p.2 [0, 0] (base 0 ready)).serviceOk ((mailWords p.2 [0, 0] (base 0 ready)).box 0).request)) = true := by
  decide +kernel

theorem test_no_service_answer : let s := mailWords 0x0E [0, 0] (base 0 ready)
    (s.box 0).busy ≠ 0 ∧ (s.box 0).request.code = 0x0E ∧ s.serviceOk (s.box 0).request = false ∧ nx (exec (.keyremove 0) s) (fun t => said t 2) = true := by decide +kernel

/-- FORM of partition 1 over field 0, with root table 1 of rank 0. -/
def formWords : List Word := [1, 1, 0x9000000000000001#64, 0, 0, 0, 0, 0, 0, 0, 16, 0, 0, 0, 0, 0x50000, 0x60000]
/-- Pointer entries down to the leaves that FORM writes. -/
def formTables : Memory := wordAt 0x20000 0x43001 ++ wordAt 0x2FFF8 0x40001 ++ wordAt 0x40FF8 0x41001 ++ wordAt 0x41FF8 0x42001 ++ wordAt 0x43000 0x44001 ++ wordAt 0x44000 0x45001

theorem test_form : let s : State := { mailWords 1 formWords (base 0 ready) with mem := formTables }
    let r := (s.box 0).request
    r.code = 1 ∧ s.formRanks [0] = [0] ∧ formFields r 1 = true ∧ tget s.parts 1 = none ∧ (∀ g, s.canMap (r.dw 2) (formLeaves r [0] g) = true) ∧ s.freeQueue = some 0 := by decide +kernel

theorem test_form_refused :
    (let s := mailWords 1 (formWords.set 10 15) (base 0 ready)
     formFields (s.box 0).request 1 = false ∧ nx (exec (.form 0) s) (fun t => said t 1) = true) ∧
    (let s := inPart (mailWords 1 formWords (base 0 ready))
     let u : State := { s with parts := [(1, { part0 with ranks := [4], fields := [3] })] }
     u.formRanks [0] = [0] ∧ (tget u.parts 1).isSome ∧ nx (exec (.form 0) u) (fun t => said t 2) = true) ∧
    (let s : State := { mailWords 1 formWords (base 0 ready) with parts := [(2, part0)] }
     tget s.parts 1 = none ∧ nx (exec (.form 0) s) (fun t => said t 2) = true) ∧
    (let s := mailWords 1 (formWords.set 0 17) (base 0 ready)
     fld ((s.box 0).request.dw 0) 63 4 = 1 ∧ nx (exec (.form 0) s) (fun t => said t 1) = true) := by
  refine ⟨?_, ?_, ?_, ?_⟩ <;> decide +kernel

theorem test_dissolve : let s := inPart (mailWords 2 [1, 0] (base 0 ready))
    (s.box 0).request.code = 2 ∧ fld ((s.box 0).request.dw 0) 3 0 = 1 ∧ nx (exec (.dissolve 0) (mailWords 2 [1, 0] (base 0 ready))) (fun t => said t 2) = true := by decide +kernel

/-- A container of no sections but an LMS signature, all zeros but for its types. -/
def lmsSig : List Byte := beBytes 4 0 ++ (beBytes 4 4 ++ List.replicate (32 + 34 * 32) 0) ++ beBytes 4 6 ++ List.replicate 320 0
def container : List Byte :=
  leBytes 4 0x31585051 ++ leBytes 2 1 ++ leBytes 2 1 ++ leBytes 8 1548 ++ List.replicate 48 0 ++ leBytes 8 (8) ++ leBytes 8 96 ++ leBytes 8 1452 ++ leBytes 8 0 ++ lmsSig

theorem length_leBytes (n v : Nat) : (leBytes n v).length = n := by
  induction n generalizing v with
  | zero => rfl
  | succ n ih => simp [leBytes, ih]

theorem length_shaBlocks (n : Nat) (h : List Word32) (l : List Byte) : (shaBlocks n h l).length ≤ h.length := by
  induction n generalizing h l with
  | zero => exact Nat.le_refl _
  | succ n ih => exact Nat.le_trans (ih _ _) (by rw [shaBlock, List.length_zipWith]; exact Nat.min_le_left _ _)

theorem length_words (l : List Word32) : (l.flatMap fun w => beBytes 4 w.toNat).length ≤ 4 * l.length := by
  induction l with
  | nil => simp
  | cons a l ih => simp only [List.flatMap_cons, List.length_append, beBytes, List.length_reverse, length_leBytes, List.length_cons] at ih ⊢; omega

theorem length_sha256 (l : List Byte) : (sha256 l).length ≤ 32 := by
  have h : (shaBlocks ((shaPad l).length / 64) shaInit (shaPad l)).length ≤ 8 := length_shaBlocks _ _ _
  exact Nat.le_trans (length_words _) (by omega)

/-- The root that a signature leads to, by RFC 8554: that of the key under which it verifies. -/
def lmsRoot (id msg sig : List Byte) : List Byte :=
  let ots := sig.drop 4
  let pre := id ++ beBytes 4 (beNat (sig.take 4))
  let d := sha256 (pre ++ beBytes 2 0x8181 ++ (ots.drop 4).take 32 ++ msg)
  let coefs := d ++ beBytes 2 (d.foldl (fun a b => a + (255 - b.toNat)) 0)
  let z := (List.range 34).flatMap fun i => lmChain (pre ++ beBytes 2 i) 255 ((coefs.getD i 0).toNat) (slice32 (ots.drop 36) i)
  let leaf := sha256 (id ++ beBytes 4 (1024 + beNat (sig.take 4)) ++ beBytes 2 0x8282 ++ sha256 (pre ++ beBytes 2 0x8080 ++ z))
  lmClimb id (1024 + beNat (sig.take 4)) leaf ((List.range 10).map (slice32 ((ots.drop (36 + 34 * 32)).drop 4)))

def lmsKey (id root : List Byte) : List Byte := beBytes 4 6 ++ beBytes 4 4 ++ id ++ root

theorem length_climb (id : List Byte) (node : Nat) (t : List Byte) (l : List (List Byte)) (h : t.length ≤ 32) : (lmClimb id node t l).length ≤ 32 := by
  induction l generalizing node t with
  | nil => exact h
  | cons s l ih => exact ih _ _ (length_sha256 _)

theorem key_root (msg : List Byte) :
    lmsVerify (lmsKey (List.replicate 16 0) (lmsRoot (List.replicate 16 0) msg lmsSig)) msg lmsSig = true := by
  have hl : (lmsRoot (List.replicate 16 0) msg lmsSig).length ≤ 32 := length_climb _ _ _ _ (length_sha256 _)
  have hk : ∀ R : List Byte, R.length ≤ 32 → ((lmsKey (List.replicate 16 0) R).drop 24).take 32 = R := fun R h => List.take_of_length_le h
  have hi : ∀ R : List Byte, ((lmsKey (List.replicate 16 0) R).drop 8).take 16 = List.replicate 16 0 := fun _ => rfl
  have ht : ∀ R : List Byte, lmsTypes (lmsKey (List.replicate 16 0) R) = true := fun _ => rfl
  have h1 : (lmsSig.length == 1452) = true := by decide +kernel
  have h2 : (beNat ((lmsSig.drop 4).take 4) == 4) = true := by decide +kernel
  have h3 : (beNat (((lmsSig.drop 4).drop (36 + 34 * 32)).take 4) == 6) = true := by decide +kernel
  have h4 : decide (beNat (lmsSig.take 4) < 1024) = true := by decide +kernel
  unfold lmsVerify
  simp only [hi, ht, hk _ hl, h1, h2, h3, h4, Bool.true_and, beq_iff_eq]
  rfl

/-- The key is installed and partition 1 holds rank 0. -/
def loading : State :=
  let s := mailWords 3 [1, 0x2000000000000000#64, 1548] (base 0 ready)
  { s with parts := [(1, { part0 with ranks := [0] })], mill0 := { s.mill0 with
    keys := [(0, lmsKey (List.replicate 16 0) (lmsRoot (List.replicate 16 0) (container.take 96) lmsSig))] } }

theorem test_load : (loading.box 0).request.code = 3 ∧ fld ((loading.box 0).request.dw 1) 59 52 = 0 ∧ ptrSpace ((loading.box 0).request.dw 1) = 2 ∧
    ((loading.box 0).request.dw 2).toNat = 1548 ∧ container.take 1548 = container ∧
    loading.loadStatus { part0 with ranks := [0] } container 1548 = 0 ∧ loading.homeOf 0 = some 0 := by
  have hs : loading.signed container = true := by
    have hg : (sections container).getLast? = some ⟨8, 0, 0, 0, 96, 1452, 0⟩ := by decide +kernel
    have hb : Section.bytes container ⟨8, 0, 0, 0, 96, 1452, 0⟩ = lmsSig := by decide +kernel
    simp only [State.signed, hg, hb]
    simp only [loading, List.any_cons, key_root]; rfl
  refine ⟨by decide +kernel, by decide +kernel, by decide +kernel, by decide +kernel, by decide +kernel, ?_, by decide +kernel⟩
  simp only [State.loadStatus, hs]; decide +kernel

theorem test_load_refused : let s := mailWords 3 [1, 0x2000000000000000#64, 1548] { base 0 ready with parts := [(1, { part0 with ranks := [0] })] }
    s.loadStatus { part0 with ranks := [0] } (container.take 1548) 1548 = 3 ∧ nx (exec (.load 0 container) s) (fun t => said t 3) = true ∧
    nx (exec (.load 0 container) (mailWords 3 [1, 0x2000000000000000#64, 1548] (base 0 ready))) (fun t => said t 2) = true := by decide +kernel

def qcreateWords : List Word := [0x000F0111#64, 0x40, 5, 0x1000, 0]

theorem test_qcreate : let s := inPart (mailWords 4 qcreateWords (base 0 ready))
    (s.box 0).request.code = 4 ∧ qcreateOk (s.box 0).request 2 = true ∧ s.freeQueue = some 0 ∧
    nx (exec (.qcreate 0) s) (fun t => t.queue 0 == { Queue.reset with state := 1, gen := 1, base := 0x40, length := 5, owner := 0x11, rights := 0xF, kind := 1, doorbell := 0x1000 }) = true := by
  decide +kernel

theorem test_qcreate_refused :
    nx (exec (.qcreate 0) (inPart (mailWords 4 (qcreateWords.set 1 0x41) (base 0 ready)))) (fun t => said t 1) = true ∧
    nx (exec (.qcreate 0) (mailWords 4 qcreateWords (base 0 ready))) (fun t => said t 2) = true := by decide +kernel

theorem replicate_getD {α : Type} (n : Nat) (v d : α) (q : Nat) (h : q < n) : (List.replicate n v).getD q d = v := by simp [List.getD, h]

/-- Every record but 4,095 is in use. -/
def noQueue : State := { inPart (mailWords 4 qcreateWords (base 0 ready)) with queues := (List.replicate 4095 (queue7 1 1 2)).zipIdx.map fun p => (p.2, p.1) }

theorem test_no_queue : noQueue.freeQueue = none ∧ (noQueue.box 0).request.code = 4 ∧ qcreateOk (noQueue.box 0).request 2 = true := by
  refine ⟨List.find?_eq_none.2 fun q hq => ?_, by decide +kernel, by decide +kernel⟩
  have h : noQueue.queue q = queue7 1 1 2 := by
    have e := tget_cells (List.replicate 4095 (queue7 1 1 2)) 0 q Queue.reset
    rw [Nat.zero_add] at e
    exact e.trans (replicate_getD _ _ _ _ (List.mem_range.1 hq))
  rw [h]; decide

/-- QRESET or QREVOKE of record 7 with its capability. -/
def resetting (code : Byte) (state : Nat) : State := { mailWords code (7 :: sealed (queue7 1 1 2)) (base 0 ready) with queues := [(7, queue7 state 1 2)] }

theorem test_qreset (code : Byte) (state : Nat) (h : state = 1 ∨ state = 2) : (resetting code state).mayReset 7 (reqCap ((resetting code state).box 0).request) = true := by
  have hr : ((resetting code state).box 0).request = parseReq (reqBytes code [0, 0, 0, 0] (wordsBytes (7 :: sealed (queue7 1 1 2)))) :=
    request_mailed 0 _ { base 0 ready with queues := [(7, queue7 state 1 2)] }
  have hc : reqCap ((resetting code state).box 0).request = sealed (queue7 1 1 2) := by
    have e (i : Nat) (w : Word) (h : leAt (parseReq (reqBytes code [0, 0, 0, 0] (wordsBytes (7 :: sealed (queue7 1 1 2))))).payload (8 * i) 8 = leNat (wordBytes w)) :
      (parseReq (reqBytes code [0, 0, 0, 0] (wordsBytes (7 :: sealed (queue7 1 1 2))))).dw i = w := by rw [Req.dw, h, word_bytes]
    have hl : List.range 4 = [0, 1, 2, 3] := rfl
    rw [hr, reqCap, hl]
    simp only [List.map_cons, List.map_nil]
    rw [e 1 _ rfl, e 2 _ rfl, e 3 _ rfl, e 4 _ rfl]; rfl
  have hf : qcapFormat (sealed (queue7 1 1 2)) = true := by decide +kernel
  have hh : qcapHas (sealed (queue7 1 1 2)) 3 = true := by decide +kernel
  have hq : (resetting code state).queue 7 = queue7 state 1 2 := rfl
  have hm : ({ queue7 state 1 2 with state := 1 } : Queue).matches_ (sealed (queue7 1 1 2)) = true := by
    have : ({ queue7 state 1 2 with state := 1 } : Queue) = queue7 1 1 2 := rfl
    rw [this]; decide +kernel
  rw [State.mayReset, hc, hf, seal_passes (resetting code state) _ rfl, hh, hq, hm]
  rcases h with h | h <;> subst h <;> decide

theorem test_qreset_fields : (s : Nat) → s = 1 ∨ s = 2 → fld (((resetting 5 s).box 0).request.dw 0) 11 0 = 7 ∧ ((resetting 5 s).box 0).request.code = 5 ∧ ((resetting 6 s).box 0).request.code = 6 ∧
    ((resetting 5 s).queue 7).state = s := by
  intro s h; rcases h with h | h <;> subst h <;> decide +kernel

theorem test_qreset_refused : let s : State := { mailWords 5 [7, 0, 0, 0, 0] (base 0 ready) with queues := [(7, queue7 2 1 2)] }
    s.mayReset 7 (reqCap (s.box 0).request) = false ∧ nx (exec (.qreset 0) s) (fun t => said t 2) = true ∧
    nx (exec (.qrevoke 0) (mailWords 6 [7, 0, 0, 0, 0] (base 0 ready))) (fun t => said t 2) = true := by decide +kernel

theorem test_svccap : nx (exec (.svccap 0) (mailWords 0x0D [0, 0] (base 0 ready))) (fun t => said t 2) = true ∧
    (let s := mailed 2 (reqBytes 0x0D [0, 0, 0, 0] (wordsBytes [0, 0])) (base 0 ready)
     (s.box 2).request.code = 0x0D ∧ nx (exec (.svccap 2) s) (fun t => (t.box 2).busy == 0 && (t.queue 4095).state == 1 && (t.queue 4095).rights == 0x80) = true) := by decide +kernel

/-- READMIT of tile 1, of a life. -/
def readmits (l : Life) : State := served 7 [BitVec.ofNat 64 (pcoord 1), 0] ((base 0 ready).setTile 1 { Tile.reset with life := l })

theorem test_readmit : (readmits .fallow).serviceOk ((readmits .fallow).box 0).request = true ∧ (readmits .bad).serviceOk ((readmits .bad).box 0).request = true :=
  ⟨service_passes _ _ _ rfl, service_passes _ _ _ rfl⟩

theorem test_readmit_fields : ((readmits .fallow).box 0).request.code = 7 ∧ tileOfCoord (fld (((readmits .fallow).box 0).request.dw 0) 21 0) = some 1 ∧
    ((readmits .fallow).tile 1).life = .fallow ∧ (readmits .fallow).tiles.all (fun p => p.2.evac == none) = true ∧ ((readmits .bad).tile 1).life ≠ .fallow := by decide +kernel

theorem test_tilequery : let s := mailWords 0x11 [BitVec.ofNat 64 (pcoord 9), 0] { base 0 ready with gen := 5 }
    tileOfCoord (fld ((s.box 0).request.dw 0) 21 0) = some 9 ∧ nx (exec (.tilequery 0) s) (fun t => said t 0 && (resp t).2 == [3, 0, 1, 0, 5, 0, 0, 0]) = true := by decide +kernel

/-- UNPOISON of the last range of a rank. -/
def unpoisons (k : Nat) : State := served 0x0F [BitVec.ofNat 64 (2 ^ 32 + k), 131071] (base 0 ready)

theorem test_unpoison : (unpoisons 0).serviceOk ((unpoisons 0).box 0).request = true ∧ (unpoisons 4095).serviceOk ((unpoisons 4095).box 0).request = true :=
  ⟨service_passes _ _ _ rfl, service_passes _ _ _ rfl⟩

theorem test_unpoison_fields : let r := ((unpoisons 0).box 0).request
    r.code = 0x0F ∧ fld (r.dw 0) 11 0 = 0 ∧ fld (r.dw 0) 47 32 = 1 ∧ fld (r.dw 1) 16 0 = 131071 ∧ (unpoisons 0).unpoisonWaits 0 = false ∧ (unpoisons 0).homeOf 0 = some 0 ∧
    (unpoisons 4095).unpoisonWaits 0 = false ∧ (unpoisons 4095).grade ≤ fld (((unpoisons 4095).box 0).request.dw 0) 11 0 := by decide +kernel

theorem test_unpoison_no_service : let s := mailWords 0x0F [2 ^ 32, 0] (base 0 ready)
    s.unpoisonWaits 0 = false ∧ s.serviceOk (s.box 0).request = false ∧ nx (exec (.unpoison 0) s) (fun t => said t 2) = true := by decide +kernel

theorem test_admit : let s := inPart (mailWords 0x10 [0x80000A01#64, 0x1FFFF0000#64, 0x10000] (base 0 ready))
    (s.box 0).request.code = 0x10 ∧ s.homeOf 0 = some 0 ∧
    nx (exec (.admitRange 0) s) (fun t => said t 0 && tget (t.tile 0).box.admitRange 10 == some (1, 0x1FFFF0000, 0x200000000)) = true ∧
    nx (exec (.admitRange 0) (inPart (mailWords 0x10 [0x80000A01#64, 0x1FFFF0000#64, 0x20000] (base 0 ready)))) (fun t => said t 1) = true := by decide +kernel

/-- OBSERVE of partition 1, which holds ranks 0 and 1, its setting still to arrive at l. -/
def observing (l : Option (List Nat)) (w : List Word) : State :=
  let s := mailWords 8 w (base 0 ready)
  { s with parts := [(1, { part0 with ranks := [0, 1] })], boxes := s.boxes.map fun b => (b.1, { b.2 with left := l }) }
/-- The partition has the setting, and its tiles do not yet. -/
def taken (t : State) (p : Observe → Bool) : Bool :=
  (tget t.parts 1).any (fun P => p P.obs) && (t.box 0).left == some [0, 1] && (t.box 0).busy != 0 && t.tiles.all fun q => q.2.obs == ⟨0, [], []⟩
theorem test_observe_period : fld (((observing none [1, 0x100000]).box 0).request.dw 0) 9 8 = 0 ∧ fld (((observing none [1, 0x100000]).box 0).request.dw 1) 20 0 = 2 ^ 20 ∧
    nx (exec (.observeSamplePeriod 0) (observing none [1, 0x100000])) (fun t => taken t fun o => o.period == 0x100000) = true ∧
    ((observing (some [1]) [1, 0x100000]).box 0).left = some [1] := by
  decide +kernel

theorem test_observe_others : fld (((observing none [0x70101, 1, 2, 3, 1]).box 0).request.dw 0) 9 8 = 1 ∧
    nx (exec (.observeBreakpoint 0) (observing none [0x70101, 1, 2, 3, 1])) (fun t => taken t fun o => o.breaks == [(7, (1, 2, 3))]) = true ∧
    fld (((observing none [0x30201, 8, 0x100000, 2, 4, 5]).box 0).request.dw 0) 9 8 = 2 ∧
    nx (exec (.observeWatchpoint 0) (observing none [0x30201, 8, 0x100000, 2, 4, 5])) (fun t => taken t fun o => o.watches == [(3, (8, 0x100000, 2, 4, 5))]) = true := by decide +kernel

/-- Commands with a service capability and the words of their payload. -/
def endpoints (e : Nat) : State := served 9 [BitVec.ofNat 64 e, 0] (base 0 ready)
def routes (n e : Nat) : State := served 0x0A [BitVec.ofNat 64 (n * 2 ^ 24 + e), 1, 2, 0x0005001F#64] (base 0 ready)
def keys (code : Byte) (types : Word) : State := served code [3, types, 1, 2, 3, 4, 5, 6] (base 0 ready)

theorem test_service_commands : (endpoints 5).serviceOk ((endpoints 5).box 0).request = true ∧ (endpoints 0x3FFFF).serviceOk ((endpoints 0x3FFFF).box 0).request = true ∧
    (∀ n e, (routes n e).serviceOk ((routes n e).box 0).request = true) ∧ (∀ c w, (keys c w).serviceOk ((keys c w).box 0).request = true) :=
  ⟨service_passes _ _ _ rfl, service_passes _ _ _ rfl, fun _ _ => service_passes _ _ _ rfl, fun _ _ => service_passes _ _ _ rfl⟩

theorem test_service_fields :
    ((endpoints 5).box 0).request.code = 9 ∧ fld (((endpoints 5).box 0).request.dw 0) 17 0 = 5 ∧ fld (((endpoints 0x3FFFF).box 0).request.dw 0) 17 0 = 0x3FFFF ∧
    ((routes 1 5).box 0).request.code = 0x0A ∧ fld (((routes 1 5).box 0).request.dw 0) 30 24 = 1 ∧ leAt ((routes 1 5).box 0).request.payload 24 4 / 32 % 2 ^ 11 = 0 ∧
    fld (((routes 0 5).box 0).request.dw 0) 30 24 = 0 ∧ fld (((routes 65 5).box 0).request.dw 0) 30 24 = 65 ∧
    ((keys 0x0C 0x0400000006000000#64).box 0).request.code = 0x0C ∧ lmsTypes ((((keys 0x0C 0x0400000006000000#64).box 0).request.payload.drop 8).take 56) = true ∧
    lmsTypes ((((keys 0x0C 0).box 0).request.payload.drop 8).take 56) = false ∧ ((keys 0x0E 0).box 0).request.code = 0x0E := by decide +kernel

theorem test_attest : let s := mailWords 0x0B [1, 2, 3, 4] (base 0 ready)
    (s.box 0).request.code = 0x0B ∧ s.mill0.signatures < 2 ^ 20 ∧ 32 ≤ (s.box 0).request.payload.length ∧
    nx (exec (.attest 0) { s with mill0 := { s.mill0 with signatures := 2 ^ 20 } }) (fun t => said t 4) = true := by decide +kernel

/-- A wake of record 7 with capability c and index n. -/
def wakeable (kind att : Nat) : State := { base 0 ready with queues := [(7, queue7 1 kind att)] }

theorem test_wake_passes (kind att : Nat) (h : (kind = 1 ∧ att = 0) ∨ (kind = 4 ∧ att = 2)) :
    (wakeable kind att).wakeFault (if att = 0 then .port 0 else .wafer (some 1)) 7 (sealed (queue7 1 kind att)) 5 true = none := by
  have hs := seal_passes (wakeable kind att) (queue7 1 kind att) rfl
  rcases h with ⟨rfl, rfl⟩ | ⟨rfl, rfl⟩ <;> simp only [State.wakeFault, hs] <;> decide +kernel

theorem test_wake_bytes : let b := wordsBytes (sealed (queue7 1 1 0)) ++ leBytes 4 5 ++ List.replicate 28 0
    b.length = 64 ∧ leNat ((b.drop 32).take 4) = 5 ∧ (b.drop 36).all (· == 0) = true ∧
    (List.range 4).map (fun i => BitVec.ofNat 64 (leNat ((b.drop (8 * i)).take 8))) = sealed (queue7 1 1 0) := by
  refine ⟨by decide +kernel, by decide +kernel, by decide +kernel, ?_⟩
  have hl : List.range 4 = [0, 1, 2, 3] := rfl
  have e (i : Nat) (w : Word) (h : ((wordsBytes (sealed (queue7 1 1 0)) ++ leBytes 4 5 ++ List.replicate 28 0).drop (8 * i)).take 8 = wordBytes w) :
    BitVec.ofNat 64 (leNat (((wordsBytes (sealed (queue7 1 1 0)) ++ leBytes 4 5 ++ List.replicate 28 0).drop (8 * i)).take 8)) = w := by rw [h, word_bytes]
  rw [hl]
  simp only [List.map_cons, List.map_nil]
  rw [e 0 _ rfl, e 1 _ rfl, e 2 _ rfl, e 3 _ rfl]; rfl

theorem test_wake_rejected : let s := wakeable 1 0
    let b : List Byte := wordsBytes [0x40, 0x0001000F00000005#64, 0xFF000000#64, 0] ++ leBytes 4 5 ++ List.replicate 28 0
    s.wakeFault (.port 1) 7 [0x40, 0x0001000F00000005#64, 0xFF000000#64, 0] 5 true = some 1 ∧
    nx (exec (.wakeWrite 1 (64 * 7) b) s) (fun t => t.queue 7 == { queue7 1 1 0 with rejects := 1, cause := 1 } && t.bells == []) = true := by decide +kernel

theorem test_qwake_arrival : let m : Body := .qwake (some 1) (sealed (queue7 1 4 2)) 0x700000005#64
    let s := withMsg (wakeable 4 2) (.bridge 0) none m (.tile 0)
    (s.arrive 7).isSome = true ∧ fld (0x700000005#64 : Word) 43 32 = 7 ∧ fld (0x700000005#64 : Word) 31 0 = 5 ∧ fld (0x700000005#64 : Word) 63 44 = 0 := by decide +kernel

theorem test_qwake_arrival_rejected : let s := withMsg (wakeable 4 2) (.bridge 0) none (.qwake (some 1) [0, 0, 0, 0] 0x700000005#64) (.tile 0)
    nx (exec (.qwakeArrival 7) s) (fun t => t.queue 7 == { queue7 1 4 2 with rejects := 1, cause := 1 }) = true := by decide +kernel

theorem test_doorbell_store : let b : Bell := ⟨1031, 5, 0, 1, 1, 0x4000, 1, none⟩
    let s : State := { inPart (base 0 ready) with bells := [b], mem := tables }
    s.winWaits 1 0x4000 = false ∧ s.winXlat 1 akStore 0x4000 = some (.dram 0 0x4000 false false) ∧ s.homeOf 0 = some 0 ∧
    nx (exec (.doorbellStore 0) s) (fun t => dests t == [.tile 0] && t.bells.map (fun b => (b.q, b.ticket.isSome)) == [(1031, true)] && postedIs t fun q =>
      q.off == 0x4000 && q.op == .store ([5, BitVec.ofNat 64 (2 ^ 63 + t.tickOf 63 + 1)].flatMap wordBytes)) = true := by decide +kernel

theorem test_doorbell_interrupt : let b : Bell := ⟨1031, 5, 0, 1, 1, 0x4000, 1, some 9⟩
    let s : State := { base 0 ready with bells := [b] }
    s.homeOf 1 = some 9 ∧ nx (exec (.doorbellInterrupt 0) s) (fun t => t.bells == [] && (t.priv (.tile 9)).mip == 0x80000) = true ∧
    nx (exec (.eventMsix 0) { base 0 ready with bells := [{ b with kind := 3 }] }) (fun t => t.bells == [] && t.msix.map (·.2) == [24]) = true := by decide +kernel

theorem test_host_memory_write : let s := base 0 ready
    (2 ^ 33 + 0x103F) / 2 ^ 33 < s.grade ∧ s.homeOf ((2 ^ 33 + 0x103F) / 2 ^ 33) = some 9 ∧
    nx (exec (.hostMemWrite 1 (2 ^ 33 + 0x103F) [7]) s) (fun t => dests t == [.tile 9] && postedIs t fun q => q.op == .store [7] && q.rank == 1 && q.off == 0x103F) = true := by
  decide +kernel

theorem test_host_memory_read : let s : State := { base 0 ready with mem := [(0x1005, 7)] }
    (s.tile 0).shellAlive = true ∧ s.awaiting 0 0x1004 = false ∧ (s.tile 0).held = [] ∧ nx (exec (.hostMemRead 0 0x1004 2) s) (fun t => t.hostData == [(0, 0x1004, some [0, 7])]) = true ∧
    (let u := s.modTile 0 fun T => { T with box := { T.box with poison := [(0, 1)] } }
     u.poison 0 0x1004 = 1 ∧ nx (exec (.hostMemRead 0 0x1004 2) u) (fun t => t.hostData == [(0, 0x1004, none)]) = true) := by decide +kernel

/-! ### The link

Which regions a partition lands in, and what the payloads of acknowledgements, NACKs, set-up packets and atomics say, the spec leaves
open: a state that meets a statement's hypothesis about one of them is given for each of its answers. -/

/-- Endpoint 2's way to endpoint 5, and an open connection of partition 1 to it that carries what f says. -/
def linked (f : Conn → Conn) : State :=
  let L : Link := { Link.reset with endpoint := some 2, routes := [(5, ⟨List.replicate 16 9, [(0, 7)]⟩)], diffs := [(5, 0)] }
  { inPart (base 0 ready) with link := { L with conns := [(linkKey 1 5, f { Conn.fresh with up := true, setAt := some 0 })], rxConns := [(linkKey 1 5, ⟨0, [], [], 0⟩)] } }

theorem test_link_ready : LinkReady (linked id) (linkKey 1 5) 1 :=
  ⟨by decide +kernel, ⟨⟨List.replicate 16 9, [(0, 7)]⟩, by decide +kernel, by decide +kernel⟩, ⟨{ Conn.fresh with up := true, setAt := some 0 }, by decide +kernel, rfl, rfl, by decide +kernel⟩⟩

/-- What a connection has to send, without where its answers go: operation, offset, payload. -/
def sends (c : Conn) : List (Nat × Nat × List Byte) := (carried c).map fun x => (x.1, x.2.1, x.2.2.1)

/-- Slot 3 of tile 0 asks bridge 1. -/
def asks (s : State) (b : Body) : State := { s with net := [⟨7, .tile 0, .bridge 1, none, 0, [], 0, b⟩], nextId := 8 }
def replied (t : State) (v : Word) : Bool := bodies t == [.linkRep w3 v] && dests t == [.tile 0]

/-- A handle of queue 7 and a work record: a put of 8 bytes at 0x4000 to endpoint 5's offset 0x40, Class M. -/
def handle : List Word := sealed (queue7 1 4 2) ++ [7]
def work : List Word := [0x0400000000000008#64, 0x4000, 0x3000001400000040#64, 0, 0, 0, 0, 0]
def atQueue (s : State) : State := { s with queues := [(7, queue7 1 4 2)] }

theorem test_link_handle : (atQueue (linked id)).handleFault (some 1) handle 1 = none ∧ (atQueue (linked id)).handleFault (some 1) handle 2 = none := by
  have hs : (atQueue (linked id)).qcapSeal (handle.take 4) = true := seal_passes (atQueue (linked id)) _ rfl
  refine ⟨?_, ?_⟩ <;> simp only [State.handleFault, hs] <;> decide +kernel

theorem test_lpost_bridge : let s := asks (atQueue (linked id)) (.linkReq w3 0 (some 1) handle work 0)
    (s.arrive 7).isSome = true ∧ recordOk s.grade work = true ∧ recordOk s.grade (work.set 6 1) = false ∧ fld (handle.getD 4 0) 11 0 = 7 := by decide +kernel

theorem test_lpost_rejected : let h : List Word := [0, 0, 0, 0, 7]
    let s := asks (atQueue (linked id)) (.linkReq w3 0 (some 1) h work 0)
    s.handleFault (some 1) h 1 = some 1 ∧
    nx (exec (.linkBridgeRequest 7) s) (fun t => replied t 0xC000000100000000#64 && t.queue 7 == { queue7 1 4 2 with rejects := 1, cause := 1 }) = true ∧
    nx (exec (.linkBridgeRequest 7) (asks (atQueue (linked id)) (.linkReq w3 2 (some 1) h [] 0))) (fun t => replied t 0xC000000000000001#64) = true := by decide +kernel

theorem test_larm_bridge : let d : List Word := [0x4000, 0x700000040#64, 0, 0, 0, 0, 0, 0]
    let s := asks (linked id) (.linkReq w3 1 none [] d 3)
    descOk d = true ∧ nx (exec (.linkBridgeRequest 7) s) (fun t => replied t 0x8000000000000000#64) = true := by decide +kernel

-- LARM by a partition that lands in region 3 arms or disarms it; by one that does not, it is answered with status 2.
theorem test_larm_landing : let d : List Word := [0x4000, 0x700000040#64, 0, 0, 0, 0, 0, 0]
    let s := asks (linked id) (.linkReq w3 1 (some 1) [] d 3)
    (s.arrive 7).isSome = true ∧ fld (3 : Word) 63 11 = 0 ∧ s.link.placing = [] ∧ (s.region 3).lastArm = none ∧ fld (0x403 : Word) 63 11 = 0 ∧
    (0x403 : Word).getLsbD 10 = true := by decide +kernel

theorem test_peer_read : let p : Word := 0x3000001400000040#64
    let s := asks (linked id) (.peerReq w3 (some 1) p (.load 8))
    linkKey 1 (peerEp p) = linkKey 1 5 ∧ (s.arrive 7).isSome = true ∧
    nx (exec (.linkBridgeRequest 7) s) (fun t => match t.link.reads with
      | [(8, (k, .read w q _ _))] => k == linkKey 1 5 && w == w3 && q == p
      | _ => false) = true := by
  decide +kernel

theorem test_peer_write : let p : Word := 0x3000001400000040#64
    let s := asks (linked id) (.peerPost 0 4 (some 1) p (.store [1, 2]))
    nx (exec (.linkBridgeRequest 7) s) (fun t => sends (t.conn (linkKey 1 5)) == [(0, 0x40, [1, 2])]) = true ∧
    (match s.arrive 7 with
     | some (r, u) => !u.peerBehind r.msg p
     | none => false) = true := by decide +kernel

theorem test_peer_atomic : let p : Word := 0x3000001400000040#64
    let s := asks (linked id) (.peerReq w3 (some 1) p (.ret .cas 1 2))
    let u := asks (linked id) (.peerPost 0 4 (some 1) p (.atomic .add 1))
    (s.arrive 7).isSome = true ∧ nx (exec (.linkBridgeRequest 7) s) (fun t => ((carried (t.conn (linkKey 1 5))).map (·.1)) == [4]) = true ∧
    nx (exec (.linkBridgeRequest 7) u) (fun t => ((carried (t.conn (linkKey 1 5))).map (·.1)) == [3]) = true ∧
    (match u.arrive 7 with
     | some (r, u) => !u.peerBehind r.msg p
     | none => false) = true := by decide +kernel

theorem test_link_reply : let p : Producer := ⟨5, .x 10, .all, 1, 0, .answer, 0⟩
    let s := waits { ready with pend := [p] } (.linkRep w3 0x55)
    nx (exec (.linkBridgeReply 7) s) (fun t => (t.ctx (.tile 0) 3).x 10 == 0x55 && (t.ctx (.tile 0) 3).pend == []) = true := by decide +kernel

def workOf (w : List Word) (l : List LSent) (run : Bool) : Work := ⟨7, 0, 1, w, run, 0, l, if run then 1 else 0, 0, 0, none, 3, false, none⟩
def withWork (w : Work) : State :=
  let s := linked id
  { s with queues := [(7, queue7 1 4 2)], mem := tables ++ wordAt 0x4000 0x55, link := { s.link with works := [w] } }

theorem test_record_fires : let w := workOf work [] false
    let s := withWork w
    s.startable 7 = some w ∧ s.wordDue 7 = false ∧ s.checkAt (.bridge (7 / 1024)) w.win = .satisfied ∧ s.readPieces 1 (spanPieces w.local_ 8) = .ok (wordBytes 0x55) ∧ linkKey w.part w.peer = linkKey 1 5 ∧
    nx (exec (.linkRecordFire 7) s) (fun t => carried (t.conn (linkKey 1 5)) == [(0, 0x40, wordBytes 0x55, .record 7 0 3)] &&
      t.link.works.map (fun w => (w.running, w.left)) == [(true, 1)]) = true := by decide +kernel

/-- A record whose witness a probe has found to be poison, with completion word c. -/
def poisoned (c : Word) : State :=
  let w := workOf ((work.set 3 (pw 1 0 5)).set 5 c) [] false
  { withWork w with asks := [⟨9, .bridge 0, w.win, some .poison⟩] }

theorem test_record_poison : let w := workOf (work.set 3 (pw 1 0 5)) [] false
    (poisoned 0).startable 7 = some w ∧ (poisoned 0).wordDue 7 = false ∧ (poisoned 0).checkAt (.bridge (7 / 1024)) w.win = .poison ∧ w.cword = 0 ∧
    nx (exec (.linkRecordFire 7) (poisoned 0)) (fun t => t.link.works == []) = true := by decide +kernel

theorem test_record_poison_word : let w := workOf ((work.set 3 (pw 1 0 5)).set 5 0x4000) [] false
    (poisoned 0x4000).startable 7 = some w ∧ w.cword = 0x4000 ∧ (poisoned 0x4000).winWaits 1 0x4000 = false ∧
    (poisoned 0x4000).winXlat 1 akStore 0x4000 = some (.dram 0 0x4000 false false) ∧
    nx (exec (.linkRecordFire 7) (poisoned 0x4000)) (fun t => t.link.works.map (·.status) == [some 4] && postedIs t fun p =>
      p.off == 0x4000 && p.op == .store ([0, 0, 0, 0, 0, 0, 0, 4] ++ List.replicate 8 0)) = true := by decide +kernel

def lft (op cls : Nat) (b : List Byte) : Lft := ⟨cls, op, 2, 5, 0, 1, 0, 0, 0, 0, 3 * 2 ^ 24 + 0x40, max 1 b.length, b⟩

theorem test_gap : let key := 2 ^ 50 + 5 * 2 ^ 32
    let M : RxMsg := ⟨8192, [1], some 0, false⟩
    let s := linked id
    let u : State := { s with fields := [(fieldOf 63, { Field.reset with tick := 16 })], link := { s.link with rxMsgs := [(key, M)] } }
    key / 2 ^ 32 % 2 ^ 18 = 5 ∧ u.linkTick 5 = 16 ∧ tget u.link.rxMsgs key = some M := by decide +kernel

def sent (resends : Nat) (org : LOrg) : LSent := ⟨{ lft 0 0 [1] with dst := 5, src := 2 }, org, 0, resends⟩
def later (n : Nat) (s : State) : State := { s with fields := [(fieldOf 63, { Field.reset with tick := n })] }

theorem test_progress : let w := workOf [8, 0x4000, 0x3000001400000040#64, 0, 0, 0, 0, 0] [sent 15 (.record 7 0 3)] true
    let s := later 256 (withWork w)
    w.progress + 256 ≤ s.linkTick w.dest ∧ nx (exec (.classSProgressTimeout 7 0) s) (fun t => t.link.works.map (fun w => w.flight.map fun y => (y.p.payload, y.resends)) == [[([1], 16)]]) = true := by
  decide +kernel

theorem test_progress_ends : let w := workOf [8, 0x4000, 0x3000001400000040#64, 0, 0, 0, 0, 0] [sent 16 (.record 7 0 3)] true
    nx (exec (.classSProgressTimeout 7 0) (later 256 (withWork w))) (fun t => t.link.works == []) = true := by decide +kernel

theorem test_resend : let s := later 128 (linked fun c => { c with flight := [sent 15 .none] })
    nx (exec (.classMResendTimeout (linkKey 1 5)) s) (fun t => (t.conn (linkKey 1 5)).flight.map (fun y => (y.p.payload, y.resends)) == [([1], 16)]) = true ∧
    nx (exec (.classMResendTimeout (linkKey 1 5)) (later 128 (linked fun c => { c with flight := [sent 16 .none] }))) (fun t => t.link.conns == []) = true := by decide +kernel

theorem test_refresh : let s := later (2 ^ 20) (linked id)
    (∀ t, (s.conn (linkKey 1 5)).setAt = some t → t + 2 ^ 20 ≤ s.linkTick (keyPeer (linkKey 1 5))) ∧ keyPeer (linkKey 1 5) = 5 ∧
    (s.conn (linkKey 1 5)).setup = none := by
  refine ⟨fun t h => ?_, by decide, by decide +kernel⟩
  have : t = 0 := by simpa [linked, later, State.conn, tgetD, tget] using h.symm
  subst this; decide +kernel

/-- A packet's frame by R359: Ethernet, IPv6, UDP with its checksum. -/
def inFrame (p : Lft) : List Byte :=
  let n := p.encode.length + 8
  let f (sum : Nat) : List Byte := List.replicate 12 0 ++ beBytes 2 0x86DD ++ [0x60, 0, 0, 0] ++ beBytes 2 n ++ [17, 1] ++ List.replicate 32 0 ++
    beBytes 2 0xC000 ++ beBytes 2 0xB96E ++ beBytes 2 n ++ beBytes 2 sum ++ p.encode
  f (0xFFFF - onesSum (List.replicate 32 0 ++ beBytes 4 n ++ beBytes 4 17 ++ (f 0).drop 54))
/-- The packet that a frame of an operation brings. -/
def brings (s : State) (op : Nat) (f : List Byte) (p : Lft) : Bool :=
  match s.frameIn op f with
  | .packet q _ => q == p
  | _ => false

theorem test_frames : ([(0, 1), (1, 1), (2, 1), (3, 1), (4, 1), (5, 1), (7, 2), (8, 2), (9, 2)] : List (Nat × Nat)).all
    (fun q => brings (linked id) q.1 (inFrame (lft q.1 q.2 (wordBytes 7))) (lft q.1 q.2 (wordBytes 7))) = true := by decide +kernel

theorem test_rx_expects : (linked id).rx (rxKey (lft 0 1 [])) = ⟨0, [], [], 0⟩ ∧ rxKey (lft 0 1 []) = linkKey 1 5 := by decide +kernel

theorem test_write_not_accepted : let p := lft 0 1 (wordBytes 7)
    (linked id).accepts p 8 0 = none ∧ nx (exec (.lftWrite 1 (inFrame p)) (linked id)) (fun t => (t.rx (linkKey 1 5)).expect == 1) = true := by decide +kernel

theorem test_read_not_accepted : let p := lft 1 1 []
    (linked id).accepts p 1 1 = none ∧ nx (exec (.lftReadRequest 1 (inFrame p)) (linked id)) (fun t => (t.rx (linkKey 1 5)).expect == 1) = true := by decide +kernel

/-- Region 3 of partition 1 is armed over 0x4000 for all rights. -/
def armed : State :=
  let s := linked id
  { s with mem := tables ++ wordAt 0x4040 0x99, link := { s.link with regions := [(3, ⟨true, 1, 0x4000, 7, 0x100, 0, none⟩)] } }

theorem test_accepts (h : inLanding 1 3 = true) (op : Nat) (b : List Byte) (n right : Nat) (hn : n ≤ 8) (hr : right ≤ 2) :
    armed.accepts (lft op 1 b) n right = some (1, 3, ⟨true, 1, 0x4000, 7, 0x100, 0, none⟩, 0x4040) := by
  have ho : armed.regionOwner 3 = some 1 := by
    have hp : armed.parts = [(1, part0)] := rfl
    simp [State.regionOwner, hp, h]
  have hR : armed.region 3 = ⟨true, 1, 0x4000, 7, 0x100, 0, none⟩ := rfl
  have ha : (lft op 1 b).off / 2 ^ 24 = 3 ∧ (lft op 1 b).off % 2 ^ 24 = 0x40 ∧ (lft op 1 b).gen = 0 := by simp [lft]
  have hc : right = 0 ∨ right = 1 ∨ right = 2 := by omega
  have hp : ptrPlus 0x4000#64 0x40 = 0x4040#64 := by decide
  have hn' : 0x40 + n ≤ 0x100 := by omega
  simp only [State.accepts, ha.1, ha.2.1, ha.2.2, hR, ho]
  rcases hc with rfl | rfl | rfl <;> simp [hn', hp]

theorem test_accepted_place : armed.winWaits 1 0x4040 = false ∧ armed.winXlat 1 akStore 0x4040 = some (.dram 0 0x4040 false false) ∧ armed.homeOf 0 = some 0 ∧
    armed.readPieces 1 (spanPieces 0x4040 1) = .ok [0x99] ∧ armed.linkPlace 1 akRetS 0x4040 = .ok (0, 0x4040) ∧ (armed.tile 0).obs.watches = [] ∧
    (∃ Q, tget armed.link.routes (keyPeer (linkKey 1 5)) = some Q ∧ Q.paths ≠ []) ∧
    ([(0, 1), (1, 1), (3, 1), (4, 1)] : List (Nat × Nat)).all (fun q => brings armed q.1 (inFrame (lft q.1 q.2 (wordBytes 7))) (lft q.1 q.2 (wordBytes 7))) = true := by
  refine ⟨by decide +kernel, by decide +kernel, by decide +kernel, by decide +kernel, by decide +kernel, by decide +kernel, ⟨⟨List.replicate 16 9, [(0, 7)]⟩, by decide +kernel, by decide⟩, by decide +kernel⟩

def org3 : LOrg := .read w3 0 ⟨.tile 0, [], 0⟩ 0

theorem test_read_reply : let s := linked id
    let u : State := { s with link := { s.link with reads := [(8, (linkKey 1 5, org3))] } }
    let p := lft 2 1 (wordBytes 0x77)
    u.readOf 8 5 = some org3 ∧ nx (exec (.lftReadReply 1 (inFrame p) 8) u) (fun t => bodies t == [.proxyRep w3 0 (.value 0x77)] && t.link.reads == []) = true ∧
    nx (exec (.lftAtomicReply 1 (inFrame { p with op := 5 }) 8) u) (fun t => bodies t == [.proxyRep w3 0 (.value 0x77)] && t.link.reads == []) = true := by decide +kernel

/-- A trigger of queue 7 with its capability and index 5. -/
def trigger : Lft := lft 6 1 (wordsBytes (sealed (queue7 1 4 3)) ++ leBytes 4 5 ++ List.replicate 28 0)

theorem test_trigger : trigger.payload.length = 64 ∧ (trigger.payload.drop 36).all (· == 0) = true ∧ leNat ((trigger.payload.drop 32).take 4) = 5 ∧
    (List.range 4).map (fun j => BitVec.ofNat 64 (leNat ((trigger.payload.drop (8 * j)).take 8))) = sealed (queue7 1 4 3) := by
  refine ⟨by decide +kernel, by decide +kernel, by decide +kernel, ?_⟩
  have hl : List.range 4 = [0, 1, 2, 3] := rfl
  have e (i : Nat) (w : Word) (h : (trigger.payload.drop (8 * i)).take 8 = wordBytes w) :
    BitVec.ofNat 64 (leNat ((trigger.payload.drop (8 * i)).take 8)) = w := by rw [h, word_bytes]
  rw [hl]
  simp only [List.map_cons, List.map_nil]
  rw [e 0 _ rfl, e 1 _ rfl, e 2 _ rfl, e 3 _ rfl]; rfl

theorem test_trigger_wakes : let s : State := { linked id with queues := [(7, queue7 1 4 3)] }
    s.wakeFault .link 7 (sealed (queue7 1 4 3)) 5 true = none ∧ (List.range 4096).find? (fun q => (s.queue q).matches_ (sealed (queue7 1 4 3))) = some 7 := by
  have hs := seal_passes { linked id with queues := [(7, queue7 1 4 3)] } (queue7 1 4 3) rfl
  refine ⟨?_, by decide +kernel⟩
  simp only [State.wakeFault, hs]; decide +kernel

theorem test_duplicate : let s := linked id
    let u : State := { s with link := { s.link with rxConns := [(linkKey 1 5, ⟨1, [], [], 0⟩)] } }
    nx (exec (.lftWrite 1 (inFrame (lft 0 1 (wordBytes 7)))) u) (fun t => t.rx (linkKey 1 5) == ⟨1, [], [], 0⟩ && t.net == [] && t.link.frames.length == 1) = true := by decide +kernel

-- A duplicate of a packet that was refused.
theorem test_duplicate_refused : let s := linked id
    let u : State := { s with link := { s.link with rxConns := [(linkKey 1 5, ⟨1, [], [0], 0⟩)] } }
    u.link.placingOn (linkKey 1 5) = [] ∧
    nx (exec (.lftWrite 1 (inFrame (lft 0 1 (wordBytes 7)))) u) (fun t => t.rx (linkKey 1 5) == ⟨1, [], [0], 0⟩ && t.net == [] && t.link.frames.length == 1) = true := by decide +kernel

/-- A posted access of tile 0's entry 4 is under way to endpoint 5 with sequence q. -/
def flying (q : Nat) : State := (linked fun c => { c with flight := [⟨{ lft 0 1 [1] with seq := q }, .post 0 4 ⟨.tile 0, [], 0⟩ 0, 0, 0⟩] }).modTile 0 fun T => { T with journal := [{ jent with dst := .peer }] }

theorem seqLe_self (q : Nat) : seqLe q q = true := by simp [seqLe]

-- Whatever an acknowledgement says, there is a state whose packet it names.
theorem test_ack (h : (Config.ackInfo (wordBytes 7)).1 = false) :
    ∃ upto more x e, Config.ackInfo (lft 7 2 (wordBytes 7)).payload = (false, upto, more) ∧ ((flying upto).conn (linkKey 1 5)).flight = [x] ∧ x.p.seq = upto ∧
      seqLe x.p.seq upto = true ∧ x.org = .post 0 4 ⟨.tile 0, [], 0⟩ 0 ∧ (flying upto).peerEntry 0 4 = some e :=
  ⟨_, _, _, _, Prod.ext h rfl, rfl, rfl, seqLe_self _, rfl, rfl⟩

theorem test_ack_message (h : (Config.ackInfo (wordBytes 7)).1 = true) (w : Work)
    (hw : w = { workOf [8, 0x4000, 0x3000001400000040#64, 0, 0, 0, 0, 0] [sent 0 (.record 7 0 3)] true with msg := (Config.ackInfo (wordBytes 7)).2.1 }) :
    Config.ackInfo (lft 7 2 (wordBytes 7)).payload = (true, (Config.ackInfo (wordBytes 7)).2) ∧ (withWork w).liveMsg (linkKey 1 5) (Config.ackInfo (wordBytes 7)).2.1 = some w := by
  subst hw
  refine ⟨Prod.ext h rfl, ?_⟩
  simp [State.liveMsg, withWork, linked, workOf, Work.cls, Work.dest, Work.peer, Work.remote, keyPart, keyPeer, linkKey, fld, peerEp, ptrAddr, sent]

theorem test_nack (h : (Config.nackInfo (wordBytes 7)).1 = false) :
    ∃ code id asked x e, Config.nackInfo (lft 8 2 (wordBytes 7)).payload = (false, code, id, asked) ∧ ((flying id).conn (linkKey 1 5)).flight = [x] ∧ x.p.seq = id ∧
      x.resends < 16 ∧ x.org = .post 0 4 ⟨.tile 0, [], 0⟩ 0 ∧ (flying id).peerEntry 0 4 = some e :=
  ⟨_, _, _, _, _, Prod.ext h rfl, rfl, rfl, by decide, rfl, rfl⟩

-- A bitmap that asks for a packet that is under way.
theorem test_nack_bitmap (q : Nat) (h : q ∈ (Config.nackInfo (wordBytes 7)).2.2.2) : ∃ x, ((flying q).conn (linkKey 1 5)).flight = [x] ∧
    x.p.seq ∈ (Config.nackInfo (lft 8 2 (wordBytes 7)).payload).2.2.2 := ⟨_, rfl, h⟩

theorem test_setup_room : (tget (linked id).link.rxConns (linkKey 1 5)).isSome = true ∧ (linked id).link.room = true := by decide +kernel

theorem test_setup : brings (linked id) 9 (inFrame (lft 9 2 (wordBytes 7))) (lft 9 2 (wordBytes 7)) = true ∧ ((linked id).conn (linkKey 1 5)).unsent = [] ∧
    (∃ a o t, Config.setupInfo (wordBytes 7) = (a, o, t)) := ⟨by decide +kernel, by decide +kernel, ⟨_, _, _, rfl⟩⟩

end Sys2Proof.Tests
end

/-! ## Scalar instructions (05_scalar.md) -/

namespace Sys2Proof.Machine

/-! ### Arithmetic of words (05_scalar.md R102) -/

theorem sub_eq_ofInt_toInt (a b : Word) : a - b = BitVec.ofInt 64 (a.toInt - b.toInt) :=
  BitVec.eq_of_toInt_eq (by simp [BitVec.toInt_sub])

theorem add_simm_eq_ofInt (a : Word) (m : BitVec 12) : a + simm m = BitVec.ofInt 64 (a.toInt + m.toInt) := by
  simp [simm, BitVec.ofInt_add, BitVec.signExtend]

theorem toInt_simm (m : BitVec 12) : (simm m).toInt = m.toInt := BitVec.toInt_signExtend_of_le (by decide)

theorem flag_decide (p : Prop) [Decidable p] : flag (decide p) = if p then 1 else 0 := by simp [flag]

theorem flag_slt_simm (a : Word) (m : BitVec 12) : flag (a.slt (simm m)) = if a.toInt < m.toInt then 1 else 0 := by
  rw [BitVec.slt_eq_decide, toInt_simm, flag_decide]

theorem fld_low (w : Word) (h : Nat) : fld w h 0 = w.toNat % 2 ^ (h + 1) := by simp [fld]

theorem fld_5_0 (w : Word) : fld w 5 0 = w.toNat % 64 := fld_low w 5

theorem fld_4_0 (w : Word) : fld w 4 0 = w.toNat % 32 := fld_low w 4

theorem toNat_shiftLeft_eq (a : Word) (n : Nat) : (a <<< n).toNat = a.toNat * 2 ^ n % 2 ^ 64 := by
  rw [BitVec.toNat_shiftLeft, Nat.shiftLeft_eq]

theorem toNat_ushiftRight_eq (a : Word) (n : Nat) : (a >>> n).toNat = a.toNat / 2 ^ n := by
  rw [BitVec.toNat_ushiftRight, Nat.shiftRight_eq_div_pow]

theorem toInt_sshiftRight_eq {w : Nat} (a : BitVec w) (n : Nat) : (a.sshiftRight n).toInt = a.toInt / 2 ^ n := by
  rw [BitVec.toInt_sshiftRight, Int.shiftRight_eq_div_pow]; norm_cast

theorem toNat_shiftLeft_fld (a b : Word) : (a <<< fld b 5 0).toNat = a.toNat * 2 ^ (b.toNat % 64) % 2 ^ 64 := by
  rw [toNat_shiftLeft_eq, fld_5_0]

theorem toNat_ushiftRight_fld (a b : Word) : (a >>> fld b 5 0).toNat = a.toNat / 2 ^ (b.toNat % 64) := by
  rw [toNat_ushiftRight_eq, fld_5_0]

theorem toInt_sshiftRight_fld (a b : Word) : (a.sshiftRight (fld b 5 0)).toInt = a.toInt / 2 ^ (b.toNat % 64) := by
  rw [toInt_sshiftRight_eq, fld_5_0]

theorem toNat_add_shiftLeft (a b : Word) (n : Nat) : (b + a <<< n).toNat = (b.toNat + 2 ^ n * a.toNat) % 2 ^ 64 := by
  rw [BitVec.toNat_add, toNat_shiftLeft_eq, Nat.add_mod_mod, Nat.mul_comm]

/-! ### Results of 32 bits (R102) -/

theorem lo32_eq_ofInt (a : Word) : lo32 a = BitVec.ofInt 32 a.toInt := by
  have : lo32 a = a.setWidth 32 := by rw [lo32, ← BitVec.setWidth_eq_extractLsb' (by decide)]
  rw [this]
  apply BitVec.eq_of_toInt_eq
  rw [BitVec.toInt_setWidth, BitVec.toInt_ofInt, BitVec.toInt_eq_toNat_bmod, Int.bmod_bmod_of_dvd (by decide)]

theorem toNat_lo32 (a : Word) : (lo32 a).toNat = low a := by simp [lo32, low]

theorem toInt_lo32 (a : Word) : (lo32 a).toInt = lowInt a := by
  rw [lowInt, BitVec.ofNat_toNat, lo32, ← BitVec.setWidth_eq_extractLsb' (by decide)]

theorem isSext32_of_ofInt {w : BitVec 32} {z : Int} (h : w = BitVec.ofInt 32 z) : isSext32 (sext32 w) z := by
  rw [h]; rfl

theorem isSext32_of_toInt {w : BitVec 32} {z : Int} (h : w.toInt = z) : isSext32 (sext32 w) z :=
  isSext32_of_ofInt (by rw [← h, BitVec.ofInt_toInt])

theorem isSext32_of_toNat {w : BitVec 32} {n : Nat} (h : w.toNat = n % 2 ^ 32) : isSext32 (sext32 w) n :=
  isSext32_of_ofInt (BitVec.eq_of_toNat_eq (by simp [h]))

theorem isSext32_add (a b : Word) : isSext32 (sext32 (lo32 a + lo32 b)) (a.toInt + b.toInt) :=
  isSext32_of_ofInt (by rw [lo32_eq_ofInt, lo32_eq_ofInt, BitVec.ofInt_add])

theorem isSext32_addiw (a : Word) (m : BitVec 12) : isSext32 (sext32 (lo32 a + lo32 (simm m))) (a.toInt + m.toInt) := by
  rw [← toInt_simm]; exact isSext32_add a (simm m)

theorem isSext32_sub (a b : Word) : isSext32 (sext32 (lo32 a - lo32 b)) (a.toInt - b.toInt) :=
  isSext32_of_ofInt (BitVec.eq_of_toInt_eq (by simp [lo32_eq_ofInt, BitVec.toInt_sub]))

theorem isSext32_shiftLeft (a : Word) (n : Nat) : isSext32 (sext32 (lo32 a <<< n)) (low a * 2 ^ n) := by
  exact_mod_cast isSext32_of_toNat (w := lo32 a <<< n) (n := low a * 2 ^ n) (by simp [toNat_lo32, Nat.shiftLeft_eq])

theorem isSext32_ushiftRight (a : Word) (n : Nat) : isSext32 (sext32 (lo32 a >>> n)) (low a / 2 ^ n : Nat) := by
  apply isSext32_of_toNat
  rw [BitVec.toNat_ushiftRight, Nat.shiftRight_eq_div_pow, toNat_lo32, Nat.mod_eq_of_lt]
  exact Nat.lt_of_le_of_lt (Nat.div_le_self _ _) (Nat.mod_lt _ (by decide))

theorem isSext32_sshiftRight (a : Word) (n : Nat) : isSext32 (sext32 ((lo32 a).sshiftRight n)) (lowInt a / 2 ^ n) :=
  isSext32_of_toInt (by rw [toInt_sshiftRight_eq, toInt_lo32])

theorem isSext32_mul (a b : Word) : isSext32 (sext32 (lo32 a * lo32 b)) (low a * low b : Nat) :=
  isSext32_of_toNat (by rw [BitVec.toNat_mul, toNat_lo32, toNat_lo32])

theorem append_zero_eq_ofNat (m : BitVec 20) : m ++ 0#12 = BitVec.ofNat 32 (m.toNat * 4096) := by
  apply BitVec.eq_of_toNat_eq
  have hm : m.toNat * 4096 < 2 ^ 32 := by omega
  rw [BitVec.toNat_append, BitVec.toNat_ofNat, BitVec.toNat_ofNat, Nat.mod_eq_of_lt hm, Nat.shiftLeft_eq]
  exact Nat.or_zero _

theorem upper_eq (m : BitVec 20) : upper m = (BitVec.ofNat 32 (m.toNat * 4096)).signExtend 64 := by
  rw [upper, append_zero_eq_ofNat, sext32]

theorem isSext32_upper (m : BitVec 20) : isSext32 (upper m) (m.toNat * 4096 : Nat) := by
  rw [isSext32, BitVec.ofInt_natCast, upper_eq]

/-! ### Minimum and maximum -/

theorem toInt_min_slt (a b : Word) : (if a.slt b then a else b).toInt = min a.toInt b.toInt := by
  simp only [BitVec.slt_eq_decide, decide_eq_true_eq, apply_ite BitVec.toInt]
  split <;> omega

theorem toInt_max_slt (a b : Word) : (if a.slt b then b else a).toInt = max a.toInt b.toInt := by
  simp only [BitVec.slt_eq_decide, decide_eq_true_eq, apply_ite BitVec.toInt]
  split <;> omega

theorem toNat_min_ult (a b : Word) : (if a.ult b then a else b).toNat = min a.toNat b.toNat := by
  simp only [BitVec.ult_eq_decide, decide_eq_true_eq, apply_ite BitVec.toNat]
  split <;> omega

theorem toNat_max_ult (a b : Word) : (if a.ult b then b else a).toNat = max a.toNat b.toNat := by
  simp only [BitVec.ult_eq_decide, decide_eq_true_eq, apply_ite BitVec.toNat]
  split <;> omega

/-! ### Counting bits -/

theorem leadingZeros_clz64 (v : Word) : LeadingZeros v (clz64 v) := by
  unfold clz64
  by_cases hv : v = 0
  · subst hv; simp [LeadingZeros]
  · have h0 : v.toNat ≠ 0 := fun h => hv (BitVec.eq_of_toNat_eq h)
    have hlt : v.toNat.log2 < 64 := (Nat.log2_lt h0).2 v.isLt
    rw [if_neg hv]
    refine ⟨by omega, fun i hi _ => ?_, fun _ => ?_⟩
    · have : v.toNat < 2 ^ i := (Nat.log2_lt h0).1 (by omega)
      exact Nat.testBit_lt_two_pow this
    · rw [show 63 - (63 - v.toNat.log2) = v.toNat.log2 by omega]
      exact Nat.testBit_log2 h0

theorem trailingZeros_ctz64 (v : Word) : TrailingZeros v (ctz64 v) := by
  unfold ctz64
  cases h : (List.range 64).find? (fun i => v.getLsbD i) with
  | none =>
    rw [List.find?_range_eq_none] at h
    simp only [TrailingZeros, Option.getD_none]
    exact ⟨Nat.le_refl 64, fun i hi => by simpa using h i hi, fun hn => absurd hn (by decide)⟩
  | some n =>
    rw [List.find?_range_eq_some] at h
    obtain ⟨hn, hm, hb⟩ := h
    rw [Option.getD_some]
    exact ⟨Nat.le_of_lt (List.mem_range.1 hm), fun i hi => by simpa using hb i hi, fun _ => hn⟩

theorem popcount_le (v : Word) : popcount v ≤ 64 := by
  simpa [popcount] using List.length_filter_le (fun i => v.getLsbD i) (List.range 64)

theorem toNat_ofNat_of_le {n : Nat} (h : n ≤ 64) : (BitVec.ofNat 64 n).toNat = n := by
  rw [BitVec.toNat_ofNat, Nat.mod_eq_of_lt (by omega)]

theorem leadingZeros_ofNat (v : Word) : LeadingZeros v (BitVec.ofNat 64 (clz64 v)).toNat := by
  rw [toNat_ofNat_of_le (leadingZeros_clz64 v).1]; exact leadingZeros_clz64 v

theorem trailingZeros_ofNat (v : Word) : TrailingZeros v (BitVec.ofNat 64 (ctz64 v)).toNat := by
  rw [toNat_ofNat_of_le (trailingZeros_ctz64 v).1]; exact trailingZeros_ctz64 v

/-! ### Bytes in reverse order (R102) -/

theorem testBit_leNat (l : List Byte) (i : Nat) : (leNat l).testBit i = (l.getD (i / 8) 0).getLsbD (i % 8) := by
  induction l generalizing i with
  | nil => simp [leNat]
  | cons b l ih =>
    rw [leNat, Nat.add_comm, show (256 : Nat) = 2 ^ 8 from rfl, Nat.testBit_two_pow_mul_add _ b.isLt]
    by_cases h : i < 8
    · rw [if_pos h, Nat.div_eq_of_lt h, Nat.mod_eq_of_lt h]; rfl
    · obtain ⟨j, rfl⟩ : ∃ j, i = j + 8 := ⟨i - 8, by omega⟩
      rw [if_neg h, Nat.add_sub_cancel, ih, Nat.add_mod_right, Nat.add_div_right j (by decide), List.getD_cons_succ]

theorem length_leBytes (n v : Nat) : (leBytes n v).length = n := by
  induction n generalizing v with
  | zero => rfl
  | succ n ih => simp [leBytes, ih]

theorem getD_leBytes {n k : Nat} (v : Nat) (h : k < n) : (leBytes n v).getD k 0 = BitVec.ofNat 8 (v / 2 ^ (8 * k)) := by
  induction n generalizing k v with
  | zero => omega
  | succ n ih =>
    cases k with
    | zero => simp [leBytes]
    | succ k =>
      rw [leBytes, List.getD_cons_succ, ih (v / 256) (by omega), Nat.div_div_eq_div_mul, Nat.mul_succ, Nat.pow_add,
        Nat.mul_comm]

theorem getD_reverse_leBytes {n k : Nat} (v : Nat) (h : k < n) :
    (leBytes n v).reverse.getD k 0 = BitVec.ofNat 8 (v / 2 ^ (8 * (n - 1 - k))) := by
  rw [← getD_leBytes v (show n - 1 - k < n by omega), List.getD_eq_getElem?_getD, List.getElem?_reverse (by simpa [length_leBytes]),
    length_leBytes, ← List.getD_eq_getElem?_getD]

theorem extractLsb'_rev8 (v : Word) {k : Nat} (hk : k < 8) :
    (rev8 v).extractLsb' (8 * k) 8 = v.extractLsb' (56 - 8 * k) 8 := by
  apply BitVec.eq_of_getLsbD_eq
  intro i hi
  have hbyte : (8 * k + i) / 8 = k ∧ (8 * k + i) % 8 = i := by omega
  rw [BitVec.getLsbD_extractLsb', BitVec.getLsbD_extractLsb', rev8, BitVec.getLsbD_ofNat, testBit_leNat, hbyte.1, hbyte.2,
    getD_reverse_leBytes _ hk, BitVec.getLsbD_ofNat, Nat.testBit_div_two_pow, show 8 * (8 - 1 - k) = 56 - 8 * k by omega]
  have : 8 * k + i < 64 := by omega
  simp [hi, this, BitVec.getLsbD, Nat.add_comm i]

/-! ### High halves of products (R103) -/

theorem toInt_high (p : BitVec 128) : (p.extractLsb' 64 64).toInt = p.toInt / 2 ^ 64 := by
  have := p.isLt
  rw [BitVec.toInt_eq_toNat_cond, BitVec.toInt_eq_toNat_cond, BitVec.extractLsb'_toNat, Nat.shiftRight_eq_div_pow]
  split <;> split <;> omega

theorem toInt_mul_of_natAbs (x y : BitVec 128) (hx : x.toInt.natAbs ≤ 2 ^ 63) (hy : y.toInt.natAbs < 2 ^ 64) :
    (x * y).toInt = x.toInt * y.toInt := by
  have h : (x.toInt * y.toInt).natAbs < 2 ^ 127 := by
    rw [Int.natAbs_mul]
    calc x.toInt.natAbs * y.toInt.natAbs ≤ 2 ^ 63 * y.toInt.natAbs := Nat.mul_le_mul_right _ hx
      _ < 2 ^ 63 * 2 ^ 64 := Nat.mul_lt_mul_of_pos_left hy (by decide)
      _ = 2 ^ 127 := by decide
  rw [BitVec.toInt_mul]
  generalize x.toInt * y.toInt = p at h
  exact Int.bmod_eq_of_le (by omega) (by omega)

theorem toInt_signExtend_128 (a : Word) : (a.signExtend 128).toInt = a.toInt := BitVec.toInt_signExtend_of_le (by decide)

theorem toInt_zeroExtend_128 (a : Word) : (a.zeroExtend 128).toInt = a.toNat := by
  have := a.isLt
  rw [BitVec.zeroExtend, BitVec.toInt_setWidth]
  exact Int.bmod_eq_of_le (by omega) (by omega)

theorem natAbs_toInt_le (a : Word) : a.toInt.natAbs ≤ 2 ^ 63 := by
  have := a.le_toInt
  have := a.toInt_lt
  omega

theorem toInt_mulh (a b : Word) :
    ((a.signExtend 128 * b.signExtend 128).extractLsb' 64 64).toInt = a.toInt * b.toInt / 2 ^ 64 := by
  rw [toInt_high, toInt_mul_of_natAbs, toInt_signExtend_128, toInt_signExtend_128]
  · rw [toInt_signExtend_128]; exact natAbs_toInt_le a
  · rw [toInt_signExtend_128]; exact Nat.lt_of_le_of_lt (natAbs_toInt_le b) (by decide)

theorem toInt_mulhsu (a b : Word) :
    ((a.signExtend 128 * b.zeroExtend 128).extractLsb' 64 64).toInt = a.toInt * (b.toNat : Int) / 2 ^ 64 := by
  rw [toInt_high, toInt_mul_of_natAbs, toInt_signExtend_128, toInt_zeroExtend_128]
  · rw [toInt_signExtend_128]; exact natAbs_toInt_le a
  · rw [toInt_zeroExtend_128, Int.natAbs_natCast]; exact b.isLt

theorem toNat_mulhu (a b : Word) :
    ((a.zeroExtend 128 * b.zeroExtend 128).extractLsb' 64 64).toNat = a.toNat * b.toNat / 2 ^ 64 := by
  have h : a.toNat * b.toNat < 2 ^ 64 * 2 ^ 64 := Nat.mul_lt_mul'' a.isLt b.isLt
  have ha : a.toNat % 2 ^ 128 = a.toNat := Nat.mod_eq_of_lt (by omega)
  have hb : b.toNat % 2 ^ 128 = b.toNat := Nat.mod_eq_of_lt (by omega)
  rw [BitVec.extractLsb'_toNat, BitVec.toNat_mul, BitVec.toNat_setWidth, BitVec.toNat_setWidth, ha, hb,
    Nat.shiftRight_eq_div_pow]
  omega

/-! ### Pointers (R112) -/

theorem extractLsb'_effPtr (a b : Word) : (effPtr a b).extractLsb' 52 12 = a.extractLsb' 52 12 :=
  BitVec.extractLsb'_append_eq_left

theorem toNat_effPtr_mod (a b : Word) : (effPtr a b).toNat % 2 ^ 52 = (a.toNat + b.toNat) % 2 ^ 52 := by
  have h : (effPtr a b).extractLsb' 0 52 = a.extractLsb' 0 52 + b.extractLsb' 0 52 := BitVec.extractLsb'_append_eq_right
  simpa using congrArg BitVec.toNat h

/-! ### An integer instruction that may issue -/

@[simp] theorem Ctx.pc_setX (c : Ctx) (r : XReg) (v : Word) : (c.setX r v).th.pc = c.th.pc := by
  unfold Ctx.setX; split <;> rfl

theorem State.pc_setX {s : State} {rd : XReg} (v : Word) (h : s.isPort rd = false) :
    (s.setX rd v).cur.th.pc = s.cur.th.pc := by
  have hp : (rd == 15#5 && s.cur.th.furrow) = false := h
  cases hf : s.focus with
  | tile t => simp [State.setX, hf, hp]
  | mill k =>
    have hc : s.cur = (s.mill k).ctx := by simp [State.cur, State.ctx, hf]
    simp [State.setX, hf, State.modCur, State.modCtx, State.setCtx, State.ctx, State.mill, MillCore.clearCap, State.cur]

theorem noPort_of_canIssue {i : Instr} {s : State} (h : CanIssue i s) : namesPort (usesOf i) s.cur = false := by
  obtain ⟨-, -, -, -, -, -, -, hport⟩ := h
  exact hport

theorem State.retire_eq (s : State) : s.retire = s.modCur fun c => c.retireTo (s.cur.th.pc + 4) := rfl

theorem wroteX_retire {s : State} {rd : XReg} (v : Word) (h : s.isPort rd = false) :
    WroteX s (s.setX rd v).retire rd v (s.cur.th.pc + 4) := by
  rw [State.retire_eq, State.pc_setX v h]
  exact wroteX_retireTo v _ h

/-- What R102, R103 and R112 say of an integer instruction: the table's result in rd, the next PC, and nothing else. -/
def AluDone (i : Instr) (s : State) : Prop :=
  ∃ (rd : XReg) (v : Word) (t : State), aluGives s.cur i rd v ∧ exec i s = .next t ∧ WroteX s t rd v (s.cur.th.pc + 4)

theorem aluDone_of_aluOp {i : Instr} {s : State} {rd : XReg} {f : State → Word} (h : CanIssue i s) (he : exec i s = aluOp i rd f s)
    (hrd : rd ∈ (usesOf i).xw) (hv : aluGives s.cur i rd (f s)) : AluDone i s :=
  ⟨rd, f s, _, hv, he.trans (issue_ready h _), wroteX_retire (f s) (noPort_w (noPort_of_canIssue h) hrd)⟩

/-- Two register operands: the operands are x_rs1 and x_rs2, since neither is a port. -/
theorem aluDone_rr {i : Instr} {s : State} {rd r1 r2 : XReg} (op : Word → Word → Word) (h : CanIssue i s)
    (he : exec i s = aluOp i rd (fun s => op (s.x1 r1) (s.x2 r1 r2)) s) (hu : usesOf i = { xr := [r1, r2], xw := [rd] })
    (hv : aluGives s.cur i rd (op (s.cur.x r1) (s.cur.x r2))) : AluDone i s := by
  refine aluDone_of_aluOp h he (by simp [hu]) ?_
  rwa [x1_eq (noPort_x (noPort_of_canIssue h) (by simp [hu])), x2_eq (noPort_x (noPort_of_canIssue h) (by simp [hu]))]

/-- One register operand. -/
theorem aluDone_r {i : Instr} {s : State} {rd r1 : XReg} (op : Word → Word) (h : CanIssue i s)
    (he : exec i s = aluOp i rd (fun s => op (s.x1 r1)) s) (hu : usesOf i = { xr := [r1], xw := [rd] })
    (hv : aluGives s.cur i rd (op (s.cur.x r1))) : AluDone i s := by
  refine aluDone_of_aluOp h he (by simp [hu]) ?_
  rwa [x1_eq (noPort_x (noPort_of_canIssue h) (by simp [hu]))]

/-- The table, row by row: the operation the model computes and why it is the row's; no other instruction is an integer one. -/
theorem aluDone_of_isAlu (i : Instr) (s : State) (hi : isAlu i = true) (h : CanIssue i s) : AluDone i s := by
  cases i with
  | add d r1 r2 => exact aluDone_rr (· + ·) h rfl rfl ⟨rfl, BitVec.toNat_add _ _⟩
  | sub d r1 r2 => exact aluDone_rr (· - ·) h rfl rfl ⟨rfl, sub_eq_ofInt_toInt _ _⟩
  | and d r1 r2 => exact aluDone_rr (· &&& ·) h rfl rfl ⟨rfl, fun _ => BitVec.getLsbD_and⟩
  | or d r1 r2 => exact aluDone_rr (· ||| ·) h rfl rfl ⟨rfl, fun _ => BitVec.getLsbD_or⟩
  | xor d r1 r2 => exact aluDone_rr (· ^^^ ·) h rfl rfl ⟨rfl, fun _ => BitVec.getLsbD_xor⟩
  | slt d r1 r2 => exact aluDone_rr (fun a b => flag (a.slt b)) h rfl rfl ⟨rfl, flag_decide _⟩
  | sltu d r1 r2 => exact aluDone_rr (fun a b => flag (a.ult b)) h rfl rfl ⟨rfl, flag_decide _⟩
  | sll d r1 r2 => exact aluDone_rr (fun a b => a <<< fld b 5 0) h rfl rfl ⟨rfl, toNat_shiftLeft_fld _ _⟩
  | srl d r1 r2 => exact aluDone_rr (fun a b => a >>> fld b 5 0) h rfl rfl ⟨rfl, toNat_ushiftRight_fld _ _⟩
  | sra d r1 r2 => exact aluDone_rr (fun a b => a.sshiftRight (fld b 5 0)) h rfl rfl ⟨rfl, toInt_sshiftRight_fld _ _⟩
  | addi d r1 m => exact aluDone_r (· + simm m) h rfl rfl ⟨rfl, add_simm_eq_ofInt _ m⟩
  | andi d r1 m => exact aluDone_r (· &&& simm m) h rfl rfl ⟨rfl, fun _ => BitVec.getLsbD_and⟩
  | ori d r1 m => exact aluDone_r (· ||| simm m) h rfl rfl ⟨rfl, fun _ => BitVec.getLsbD_or⟩
  | xori d r1 m => exact aluDone_r (· ^^^ simm m) h rfl rfl ⟨rfl, fun _ => BitVec.getLsbD_xor⟩
  | slti d r1 m => exact aluDone_r (fun a => flag (a.slt (simm m))) h rfl rfl ⟨rfl, flag_slt_simm _ m⟩
  | sltiu d r1 m => exact aluDone_r (fun a => flag (a.ult (simm m))) h rfl rfl ⟨rfl, flag_decide _⟩
  | slli d r1 n => exact aluDone_r (· <<< n.toNat) h rfl rfl ⟨rfl, toNat_shiftLeft_eq _ _⟩
  | srli d r1 n => exact aluDone_r (· >>> n.toNat) h rfl rfl ⟨rfl, toNat_ushiftRight_eq _ _⟩
  | srai d r1 n => exact aluDone_r (·.sshiftRight n.toNat) h rfl rfl ⟨rfl, toInt_sshiftRight_eq _ _⟩
  | addw d r1 r2 => exact aluDone_rr (fun a b => sext32 (lo32 a + lo32 b)) h rfl rfl ⟨rfl, isSext32_add _ _⟩
  | subw d r1 r2 => exact aluDone_rr (fun a b => sext32 (lo32 a - lo32 b)) h rfl rfl ⟨rfl, isSext32_sub _ _⟩
  | addiw d r1 m => exact aluDone_r (fun a => sext32 (lo32 a + lo32 (simm m))) h rfl rfl ⟨rfl, isSext32_addiw _ m⟩
  | sllw d r1 r2 =>
    exact aluDone_rr (fun a b => sext32 (lo32 a <<< fld b 4 0)) h rfl rfl
      ⟨rfl, fld_4_0 _ ▸ isSext32_shiftLeft _ _⟩
  | srlw d r1 r2 =>
    exact aluDone_rr (fun a b => sext32 (lo32 a >>> fld b 4 0)) h rfl rfl
      ⟨rfl, fld_4_0 _ ▸ isSext32_ushiftRight _ _⟩
  | sraw d r1 r2 =>
    exact aluDone_rr (fun a b => sext32 ((lo32 a).sshiftRight (fld b 4 0))) h rfl rfl
      ⟨rfl, fld_4_0 _ ▸ isSext32_sshiftRight _ _⟩
  | slliw d r1 n => exact aluDone_r (fun a => sext32 (lo32 a <<< n.toNat)) h rfl rfl ⟨rfl, isSext32_shiftLeft _ _⟩
  | srliw d r1 n => exact aluDone_r (fun a => sext32 (lo32 a >>> n.toNat)) h rfl rfl ⟨rfl, isSext32_ushiftRight _ _⟩
  | sraiw d r1 n => exact aluDone_r (fun a => sext32 ((lo32 a).sshiftRight n.toNat)) h rfl rfl ⟨rfl, isSext32_sshiftRight _ _⟩
  | sh1add d r1 r2 => exact aluDone_rr (fun a b => b + a <<< 1) h rfl rfl ⟨rfl, toNat_add_shiftLeft _ _ 1⟩
  | sh2add d r1 r2 => exact aluDone_rr (fun a b => b + a <<< 2) h rfl rfl ⟨rfl, toNat_add_shiftLeft _ _ 2⟩
  | sh3add d r1 r2 => exact aluDone_rr (fun a b => b + a <<< 3) h rfl rfl ⟨rfl, toNat_add_shiftLeft _ _ 3⟩
  | min d r1 r2 => exact aluDone_rr (fun a b => if a.slt b then a else b) h rfl rfl ⟨rfl, toInt_min_slt _ _⟩
  | max d r1 r2 => exact aluDone_rr (fun a b => if a.slt b then b else a) h rfl rfl ⟨rfl, toInt_max_slt _ _⟩
  | minu d r1 r2 => exact aluDone_rr (fun a b => if a.ult b then a else b) h rfl rfl ⟨rfl, toNat_min_ult _ _⟩
  | maxu d r1 r2 => exact aluDone_rr (fun a b => if a.ult b then b else a) h rfl rfl ⟨rfl, toNat_max_ult _ _⟩
  | clz d r1 => exact aluDone_r (fun a => BitVec.ofNat 64 (clz64 a)) h rfl rfl ⟨rfl, leadingZeros_ofNat _⟩
  | ctz d r1 => exact aluDone_r (fun a => BitVec.ofNat 64 (ctz64 a)) h rfl rfl ⟨rfl, trailingZeros_ofNat _⟩
  | cpop d r1 => exact aluDone_r (fun a => BitVec.ofNat 64 (popcount a)) h rfl rfl ⟨rfl, toNat_ofNat_of_le (popcount_le _)⟩
  | rev8 d r1 => exact aluDone_r rev8 h rfl rfl ⟨rfl, fun _ => extractLsb'_rev8 _⟩
  | lui d m => exact aluDone_of_aluOp (f := fun _ => upper m) h rfl (List.mem_singleton.2 rfl) ⟨rfl, isSext32_upper m⟩
  | auipc d m =>
    exact aluDone_of_aluOp (f := fun s => s.cur.th.pc + upper m) h rfl (List.mem_singleton.2 rfl)
      ⟨rfl, congrArg (s.cur.th.pc + ·) (upper_eq m)⟩
  | mul d r1 r2 => exact aluDone_rr (· * ·) h rfl rfl ⟨rfl, BitVec.toNat_mul _ _⟩
  | mulh d r1 r2 =>
    exact aluDone_rr (fun a b => (a.signExtend 128 * b.signExtend 128).extractLsb' 64 64) h rfl rfl ⟨rfl, toInt_mulh _ _⟩
  | mulhsu d r1 r2 =>
    exact aluDone_rr (fun a b => (a.signExtend 128 * b.zeroExtend 128).extractLsb' 64 64) h rfl rfl ⟨rfl, toInt_mulhsu _ _⟩
  | mulhu d r1 r2 =>
    exact aluDone_rr (fun a b => (a.zeroExtend 128 * b.zeroExtend 128).extractLsb' 64 64) h rfl rfl ⟨rfl, toNat_mulhu _ _⟩
  | mulw d r1 r2 => exact aluDone_rr (fun a b => sext32 (lo32 a * lo32 b)) h rfl rfl ⟨rfl, isSext32_mul _ _⟩
  | padd d r1 r2 => exact aluDone_rr effPtr h rfl rfl ⟨rfl, extractLsb'_effPtr _ _, toNat_effPtr_mod _ _⟩
  | _ => exact absurd hi Bool.false_ne_true

@[simp] theorem Ctx.x_zero (c : Ctx) : c.x 0 = 0 := if_pos rfl

theorem Ctx.x_setX_self (c : Ctx) {r : XReg} (v : Word) (h : r ≠ 0) : (c.setX r v).x r = v := by
  rw [Ctx.x_setX, if_pos ⟨rfl, h⟩]

theorem Ctx.x_setX_ne (c : Ctx) {r q : XReg} (v : Word) (h : q ≠ r) : (c.setX r v).x q = c.x q := by
  rw [Ctx.x_setX, if_neg fun e => h e.1]

/-- Settles O1: every integer instruction by its row of the table, x0 and the other registers by what a write of a register
does. -/
theorem integerResultAndFrame : Obligations.IntegerResultAndFrame := by
  unfold Obligations.IntegerResultAndFrame
  exact ⟨aluDone_of_isAlu, Ctx.x_zero, Ctx.setX_zero, fun c _ _ v h => ⟨c.x_setX_self v h, c.x_setX_ne v⟩⟩

end Sys2Proof.Machine

/-! ## GTOPO's word (03_encoding.md R65, R71) -/

namespace Sys2Proof

open BitVec (extractLsb'_append_eq_of_le extractLsb'_append_eq_left extractLsb'_append_eq_right) in
/-- The fields of a word laid out from fields are those: each is found by passing the fields below it. -/
theorem Fields.ofWord_toWord (F : Fields) : Fields.ofWord F.toWord = F := by
  obtain ⟨f7, rs2, rs1, f3, rd, op⟩ := F
  simp only [Fields.ofWord, Fields.toWord, Fields.mk.injEq]
  refine ⟨?_, ?_, ?_, ?_, ?_, ?_⟩
  · rw [extractLsb'_append_eq_of_le (w := 7) (by decide), extractLsb'_append_eq_of_le (w := 5) (by decide),
      extractLsb'_append_eq_of_le (w := 3) (by decide), extractLsb'_append_eq_of_le (w := 5) (by decide)]
    exact extractLsb'_append_eq_left
  · rw [extractLsb'_append_eq_of_le (w := 7) (by decide), extractLsb'_append_eq_of_le (w := 5) (by decide),
      extractLsb'_append_eq_of_le (w := 3) (by decide), extractLsb'_append_eq_of_le (w := 5) (by decide)]
    exact extractLsb'_append_eq_right
  · rw [extractLsb'_append_eq_of_le (w := 7) (by decide), extractLsb'_append_eq_of_le (w := 5) (by decide),
      extractLsb'_append_eq_of_le (w := 3) (by decide)]
    exact extractLsb'_append_eq_right
  · rw [extractLsb'_append_eq_of_le (w := 7) (by decide), extractLsb'_append_eq_of_le (w := 5) (by decide)]
    exact extractLsb'_append_eq_right
  · rw [extractLsb'_append_eq_of_le (w := 7) (by decide)]
    exact extractLsb'_append_eq_right
  · exact extractLsb'_append_eq_right

theorem decode_toWord (F : Fields) : decode F.toWord = decodeFields F := by
  rw [decode, Fields.ofWord_toWord]

/-- GTOPO's row in the custom-1 table (R71): its selector stands in the rs2 field. -/
def gtopoFields (rd : XReg) (u : BitVec 5) : Fields := ⟨0b0001010#7, u, 0b00000#5, 0b000#3, rd, 0b0101011#7⟩

theorem decodeFields_gtopo (rd : XReg) (u : BitVec 5) :
    decodeFields (gtopoFields rd u) = Decoded.selector u 20 (.ok (.gtopo rd u)) := rfl

theorem decode_gtopo_of_lt (rd : XReg) {u : BitVec 5} (h : u.toNat < 20) :
    decode (gtopoFields rd u).toWord = .ok (.gtopo rd u) := by
  rw [decode_toWord, decodeFields_gtopo, Decoded.selector, if_pos h]

theorem decode_gtopo_of_le (rd : XReg) {u : BitVec 5} (h : 20 ≤ u.toNat) :
    decode (gtopoFields rd u).toWord = .reject .function := by
  rw [decode_toWord, decodeFields_gtopo, Decoded.selector, if_neg (Nat.not_lt.2 h)]

end Sys2Proof

namespace Sys2Proof.Machine

/-! ### GTOPO, PIN and UNPIN (R97, R116) -/

/-- The model's table of selectors and the statement's agree: on a tile and on a mill core, in and out of a partition. -/
theorem State.topo_eq_topoGives (s : State) (sel : Nat) : s.topo sel = topoGives s sel := by
  have hr : Tile.reset.rank = none := rfl
  cases hf : s.focus with
  | tile t =>
    cases hp : s.curPart with
    | none => unfold State.topo topoGives; split <;> simp [hf, hp, State.curT, State.curTile, Agent.tileOf, State.spares]
    | some p =>
      cases hP : tget s.parts p <;> unfold State.topo topoGives <;> split <;>
        simp [hf, hp, hP, State.curT, State.curTile, Agent.tileOf, State.spares]
  | mill k =>
    cases hp : s.curPart with
    | none => unfold State.topo topoGives; split <;> simp [hf, hp, hr, State.spares]
    | some p =>
      cases hP : tget s.parts p <;> unfold State.topo topoGives <;> split <;> simp [hf, hp, hP, hr, State.spares]

theorem State.priv_setCtx (s : State) (a b : Agent) (c : Nat) (x : Ctx) : (s.setCtx a c x).priv b = s.priv b := by
  cases a with
  | tile t =>
    cases b with
    | tile u =>
      simp only [State.setCtx, State.priv]
      by_cases h : u = t
      · rw [h, State.tile_setTile_self, Tile.setSlot_priv]
      · rw [State.tile_setTile_ne _ _ _ h]
    | mill _ => rfl
  | mill k =>
    cases b with
    | tile _ => rfl
    | mill j =>
      simp only [State.setCtx, State.priv, State.mill, tgetD_tput]
      by_cases h : j = k
      · rw [if_pos h, h]
      · rw [if_neg h]

theorem State.ctx_setCtx_ne (s : State) {a b : Agent} (c d : Nat) (x : Ctx) (h : b ≠ a) :
    (s.setCtx a c x).ctx b d = s.ctx b d := by
  cases a with
  | tile t =>
    cases b with
    | tile u =>
      simp only [State.setCtx, State.ctx]
      rw [State.tile_setTile_ne _ _ _ fun e => h (congrArg Agent.tile e)]
    | mill _ => rfl
  | mill k =>
    cases b with
    | tile _ => rfl
    | mill j =>
      simp only [State.setCtx, State.ctx, State.mill, tgetD_tput]
      rw [if_neg fun e => h (congrArg Agent.mill e)]

theorem State.priv_modCur (s : State) (f : Ctx → Ctx) (a : Agent) : (s.modCur f).priv a = s.priv a :=
  s.priv_setCtx _ _ _ _

theorem State.ctx_modCur_ne (s : State) (f : Ctx → Ctx) {a : Agent} (c : Nat) (h : a ≠ s.focus) :
    (s.modCur f).ctx a c = s.ctx a c :=
  s.ctx_setCtx_ne _ _ _ h

/-- The issuing context's pin state set and its counts of pinning and bounces cleared (R97). -/
def Ctx.withPin (b : Bool) (c : Ctx) : Ctx := { c with th := { c.th with pinned := b, pcount := 0, bounce := 0 } }

theorem State.retire_modCur (s : State) (g : Ctx → Ctx) : (s.modCur g).retire = s.modCur fun c => (g c).retire :=
  s.modCur_modCur g Ctx.retire

theorem State.modCur_congr {s : State} {f g : Ctx → Ctx} (h : f s.cur = g s.cur) : s.modCur f = s.modCur g := by
  rw [State.modCur_eq, State.modCur_eq, h]

theorem Thread.retired_of_pcount_eq_zero {h : Thread} (hp : h.pcount = 0) :
    h.retired.pinned = h.pinned ∧ h.retired.pcount = 0 := by
  simp [Thread.retired, hp]

theorem Thread.bounce_retired {h : Thread} (hb : h.bounce = 0) : h.retired.bounce = 0 := by
  unfold Thread.retired
  rw [hb]
  exact ite_self 0

/-- Retiring does not disturb a pin state just set: with pcount 0 there is nothing to count down (R96). -/
theorem Ctx.retire_withPin (b : Bool) (c : Ctx) :
    (c.withPin b).retire.th.pinned = b ∧ (c.withPin b).retire.th.pcount = 0 ∧ (c.withPin b).retire.th.bounce = 0 := by
  have hcount := Thread.retired_of_pcount_eq_zero (h := (c.withPin b).th) rfl
  exact ⟨hcount.1, hcount.2, Thread.bounce_retired rfl⟩

@[simp] theorem State.retire_cur (s : State) : s.retire.cur = s.cur.retire := s.modCur_cur _

theorem onlyCur_modCur (s : State) (f : Ctx → Ctx) : OnlyCur s (s.modCur f) := by
  simp only [OnlyCur, State.modCur_cur]
  cases hf : s.focus with
  | tile t => simp [State.modCur_eq, hf]
  | mill k => simp [State.modCur_eq, hf, State.setCtx, State.mill]

theorem wentTo_retire (s : State) : WentTo s s.retire (s.cur.th.pc + 4) where
  only := onlyCur_modCur s _
  retired := by rw [State.retire_cur]; rfl
  x r := by rw [State.retire_cur]; rfl
  f r := by rw [State.retire_cur]; rfl
  fcsr := by rw [State.retire_cur]; rfl
  mem _ := by rw [State.retire, State.modCur_mem]

theorem put_withPin (s : State) (b : Bool) : Put s (s.modCur fun c => (c.withPin b).retire) 0 0 where
  x r := by rw [State.modCur_cur, if_neg fun h => h.2 h.1]; rfl
  f r := by rw [State.modCur_cur]; rfl
  fcsr := by rw [State.modCur_cur]; rfl
  pc := by rw [State.modCur_cur]; rfl
  ready := by rw [State.modCur_cur]; rfl
  priv := s.priv_modCur _
  others _ c h := s.ctx_modCur_ne _ c h
  mem _ := by rw [State.modCur_mem]

/-- What PIN (b = true) and UNPIN (b = false) do to the issuing context (R97). -/
def Ctx.pinStep (b : Bool) (c : Ctx) : Ctx := if c.th.furrow then c else c.withPin b

theorem retire_pinStep_of_furrow {s : State} (b : Bool) (hf : s.cur.th.furrow = true) :
    (s.modCur (Ctx.pinStep b)).retire = s.retire := by
  rw [State.retire_modCur]
  exact State.modCur_congr (by rw [Ctx.pinStep, if_pos hf])

theorem retire_pinStep_of_not_furrow {s : State} (b : Bool) (hf : s.cur.th.furrow = false) :
    (s.modCur (Ctx.pinStep b)).retire = s.modCur fun c => (c.withPin b).retire := by
  rw [State.retire_modCur]
  exact State.modCur_congr (by rw [Ctx.pinStep, if_neg (by simp [hf])])

theorem exec_pin {s : State} (h : CanIssue .pin s) : exec .pin s = .next (s.modCur (Ctx.pinStep true)).retire :=
  issue_ready h fun s => (s.modCur (Ctx.pinStep true)).retire

theorem exec_unpin {s : State} (h : CanIssue .unpin s) : exec .unpin s = .next (s.modCur (Ctx.pinStep false)).retire :=
  issue_ready h fun s => (s.modCur (Ctx.pinStep false)).retire

theorem wentTo_pinStep {s : State} (b : Bool) (hf : s.cur.th.furrow = true) :
    WentTo s (s.modCur (Ctx.pinStep b)).retire (s.cur.th.pc + 4) := by
  rw [retire_pinStep_of_furrow b hf]
  exact wentTo_retire s

theorem put_pinStep {s : State} (b : Bool) (hf : s.cur.th.furrow = false) :
    let t := (s.modCur (Ctx.pinStep b)).retire
    Put s t 0 0 ∧ t.cur.th.pinned = b ∧ t.cur.th.pcount = 0 ∧ t.cur.th.bounce = 0 := by
  simp only [retire_pinStep_of_not_furrow b hf, State.modCur_cur]
  exact ⟨put_withPin s b, Ctx.retire_withPin b s.cur⟩

/-- A selector's value as rd shows it: all ones when there is none (R116). -/
def topoWord : Option Nat → Word
  | some v => BitVec.ofNat 64 v
  | none => -1

theorem exec_gtopo_ready {s : State} {rd : XReg} {u : BitVec 5} (h : CanIssue (.gtopo rd u) s) (hu : u.toNat < 20) :
    exec (.gtopo rd u) s = .next (s.setX rd (topoWord (topoGives s u.toNat))).retire := by
  rw [← State.topo_eq_topoGives]
  exact issueIf_ready (decide_eq_false (Nat.not_le.2 hu)) h _

theorem exec_gtopo_illegal (s : State) (rd : XReg) {u : BitVec 5} (hu : 20 ≤ u.toNat) :
    exec (.gtopo rd u) s = .next (s.trap 2 ((Instr.gtopo rd u).word.zeroExtend 64)) :=
  if_pos (decide_eq_true hu)

/-- Settles O28: GTOPO's word by its fields, its value because the model's table and the statement's agree selector by selector, and
PIN and UNPIN by what they make of the issuing context. -/
theorem topologyAndPins : Obligations.TopologyAndPins := by
  unfold Obligations.TopologyAndPins
  refine ⟨⟨fun rd u => ⟨decode_gtopo_of_lt rd, fun h => ⟨_, decode_gtopo_of_le rd h⟩⟩, rfl, rfl⟩, fun s => ⟨?_, ?_, ?_, ?_⟩⟩
  · intro rd u h hu
    exact ⟨_, exec_gtopo_ready h hu, wroteX_retire _ (noPort_w (noPort_of_canIssue h) (List.mem_singleton.2 rfl))⟩
  · exact fun rd u => exec_gtopo_illegal s rd
  · intro hf
    exact ⟨fun h => ⟨_, exec_pin h, wentTo_pinStep true hf⟩, fun h => ⟨_, exec_unpin h, wentTo_pinStep false hf⟩⟩
  · intro hf
    exact ⟨fun h => ⟨_, exec_pin h, put_pinStep true hf⟩, fun h => ⟨_, exec_unpin h, put_pinStep false hf⟩⟩

end Sys2Proof.Machine

/-! ## Witness instructions (07_witness.md) -/

namespace Sys2Proof.Machine

/-! ### Joins (R149, R159) -/

theorem fld_lt (w : Word) (h l : Nat) : fld w h l < 2 ^ (h + 1 - l) := Nat.mod_lt _ (Nat.two_pow_pos _)

theorem witTick_lt (w : Word) : witTick w < 2 ^ 62 := fld_lt w 61 0

theorem witKind_cases (w : Word) : witKind w = 0 ∨ witKind w = 1 ∨ witKind w = 2 ∨ witKind w = 3 := by
  have h : witKind w < 4 := fld_lt w 63 62
  omega

theorem tickWit_of_lt {t : Nat} (h : t < 2 ^ 62) : tickWit t = BitVec.ofNat 64 (2 ^ 63 + t) := by
  rw [tickWit, Nat.mod_eq_of_lt h]

/-- The tick of a mixed join so far, raised by a tick witness. -/
def raiseTick (x : Word) (t : Nat) : Nat := if witKind x = 2 then max t (witTick x) else t

theorem raiseTick_lt (x : Word) {t : Nat} (h : t < 2 ^ 62) : raiseTick x t < 2 ^ 62 := by
  unfold raiseTick
  split
  · exact Nat.max_lt.2 ⟨h, witTick_lt x⟩
  · exact h

/-- The model's join is the statement's: they differ only in the mixed case, whose tick fits its field. -/
theorem wjoin_eq_joinOf (tick : Nat) (a b : Word) : wjoin tick a b = joinOf tick a b := by
  have ht : raiseTick b (raiseTick a ((tick + 1) % 2 ^ 62)) < 2 ^ 62 :=
    raiseTick_lt b (raiseTick_lt a (Nat.mod_lt _ (by decide)))
  have hmixed := tickWit_of_lt ht
  simp only [raiseTick] at hmixed
  simp only [wjoin, joinOf, Bool.and_eq_true, decide_eq_true_eq, beq_iff_eq, and_assoc, hmixed]
  rfl

theorem wself_eq_foldl_joinOf (h : Thread) (tick : Nat) :
    h.wself tick = (h.own.toList ++ [h.ownOver]).foldl (joinOf tick) 0 := by
  rw [Thread.wself, show wjoin tick = joinOf tick from funext fun a => funext (wjoin_eq_joinOf tick a)]

/-! ### What the issuing slot's tile can say of a witness (R144 to R147) -/

/-- A check's report as WTEST writes it (R161). -/
def Check.code : Check → Nat
  | .outstanding => 0
  | .satisfied => 1
  | .poison => 2

@[simp] theorem Check.code_outstanding : Check.outstanding.code = 0 := rfl
@[simp] theorem Check.code_satisfied : Check.satisfied.code = 1 := rfl
@[simp] theorem Check.code_poison : Check.poison.code = 2 := rfl

theorem Check.code_injective : Function.Injective Check.code := by
  intro c d h
  cases c <;> cases d <;> simp_all

/-- A witness that is no pair is checked on the tile that the issuing agent's accesses leave from. -/
theorem State.checkAtNode_focus_of_ne_pair (s : State) {a : Word} (h : witKind a ≠ 1) :
    s.checkAtNode s.focus.node a = s.checkOn s.curTile a := by
  cases hf : s.focus with
  | tile t => simp [State.checkAtNode, Agent.node, State.curTile, Agent.tileOf, hf]
  | mill k => simp [State.checkAtNode, Agent.node, State.curTile, Agent.tileOf, hf, h]

/-- A pair is checked where it stands on the tile of its destination rank only; a mill core holds no rank. -/
theorem State.checkAtNode_focus_of_pair (s : State) {a : Word} (h : witKind a = 1) :
    s.checkAtNode s.focus.node a =
      if witDst a ≠ s.curRank ∨ s.focus ≠ .tile s.curTile then none else some (s.curT.checkPair a) := by
  cases hf : s.focus with
  | tile t =>
    have hdst : (s.rankOf t = witDst a) = (witDst a = s.rankOf t) := propext eq_comm
    simp [State.checkAtNode, State.checkOn, Agent.node, State.curTile, State.curT, State.curRank, Agent.tileOf, hf, h, hdst]
  | mill k => simp [State.checkAtNode, Agent.node, h]

theorem witState_of_pair_elsewhere {s : State} {a : Word} (h : witKind a = 1)
    (hthere : witDst a ≠ s.curRank ∨ s.focus ≠ .tile s.curTile) : witState s a = none := by
  rw [witKind] at h
  rw [witDst] at hthere
  simp [witState, h, hthere]

/-- On the tile of a pair's destination rank the statement's comparison is the model's. The powers of two stay as they are written, so
that a condition and what decides it still agree. -/
theorem witState_of_pair_here {s : State} {a : Word} (h : witKind a = 1)
    (hhere : ¬ (witDst a ≠ s.curRank ∨ s.focus ≠ .tile s.curTile)) : witState s a = some (s.curT.checkPair a).code := by
  rw [witKind] at h
  rw [witDst] at hhere
  simp only [Tile.checkPair, Bool.and_eq_true, decide_eq_true_eq, -Nat.reducePow]
  rw [witSrc, witSeq]
  rw [witState, if_neg (by omega), if_neg (by omega), if_neg (by omega), if_neg hhere]
  split
  · rfl
  · cases tget s.curT.box.marks (fld a 61 50) with
    | none => rfl
    | some m =>
      dsimp only
      split <;> rfl

/-- The statement's table is the model's check on the issuing agent's node, kind by kind. -/
theorem State.witState_eq (s : State) (a : Word) : witState s a = (s.checkAtNode s.focus.node a).map Check.code := by
  rcases witKind_cases a with h | h | h | h
  case inr.inl =>
    rw [s.checkAtNode_focus_of_pair h]
    by_cases hthere : witDst a ≠ s.curRank ∨ s.focus ≠ .tile s.curTile
    · rw [if_pos hthere, witState_of_pair_elsewhere h hthere, Option.map_none]
    · rw [if_neg hthere, witState_of_pair_here h hthere, Option.map_some]
  all_goals
    rw [s.checkAtNode_focus_of_ne_pair (by omega), State.checkOn, h]
    rw [witKind] at h
  · simp [witState, h]
  · by_cases hdone : witTick a ≤ (s.tile s.curTile).dtick
    · rw [if_pos hdone]
      rw [witTick] at hdone
      simp [witState, State.curT, h, hdone]
    · rw [if_neg hdone]
      rw [witTick] at hdone
      simp [witState, State.curT, h, hdone]
  · simp [witState, h]

theorem State.checkAtNode_of_witState {s : State} {a : Word} {c : Check} (h : witState s a = some c.code) :
    s.checkAtNode s.focus.node a = some c :=
  Option.map_injective Check.code_injective (by rw [← s.witState_eq, h, Option.map_some])

theorem State.checkAtNode_of_witState_none {s : State} {a : Word} (h : witState s a = none) :
    s.checkAtNode s.focus.node a = none := by
  rwa [s.witState_eq, Option.map_eq_none_iff] at h

theorem State.exists_check_of_witState {s : State} {a : Word} {v : Nat} (h : witState s a = some v) :
    ∃ c : Check, s.checkAtNode s.focus.node a = some c ∧ c.code = v := by
  rwa [s.witState_eq, Option.map_eq_some_iff] at h

/-- What a check on the spot comes to, whatever a probe may have answered. -/
theorem State.checkCur_of_check {s : State} {a : Word} {c : Check} (h : s.checkAtNode s.focus.node a = some c) :
    s.checkCur a = waitRes (some c) none := by
  rw [State.checkCur, State.checkFor, h]
  cases c <;> rfl

theorem State.checkCur_of_witState {s : State} {a : Word} {c : Check} (h : witState s a = some c.code) :
    s.checkCur a = waitRes (some c) none :=
  State.checkCur_of_check (State.checkAtNode_of_witState h)

theorem State.checkCur_of_witState_none {s : State} {a : Word} (h : witState s a = none) (hp : s.cur.probes = []) :
    s.checkCur a = .probe := by
  rw [State.checkCur, State.checkFor, State.checkAtNode_of_witState_none h, hp]
  rfl

theorem State.checkCur_null (s : State) : s.checkCur 0 = .satisfied :=
  State.checkCur_of_check (c := .satisfied) ((s.checkAtNode_focus_of_ne_pair (a := 0) (by decide)).trans rfl)

/-! ### Changes of the issuing context and messages, beside the registers -/

theorem Ctx.x_congr {c d : Ctx} (h : c.th = d.th) (r : XReg) : c.x r = d.x r := by rw [Ctx.x, Ctx.x, h]

theorem Ctx.f_congr {c d : Ctx} (h : c.th = d.th) (r : FReg) : c.f r = d.f r := by rw [Ctx.f, Ctx.f, h]

/-- Any context after a change of the issuing one: as it was, or the issuing one itself, changed. -/
theorem State.ctx_modCur (s : State) (f : Ctx → Ctx) (a : Agent) (c : Nat) :
    (s.modCur f).ctx a c = s.ctx a c ∨ ((s.modCur f).ctx a c = f s.cur ∧ s.ctx a c = s.cur) := by
  by_cases ha : a = s.focus
  · subst ha
    by_cases hc : c = s.curSlot
    · subst hc
      exact .inr ⟨by simpa [State.cur] using s.modCur_cur f, rfl⟩
    · cases hf : s.focus with
      | tile t =>
        left
        simp [State.modCur_eq, hf, State.setCtx, State.ctx, Tile.slot_setSlot_ne _ _ _ hc]
      | mill k =>
        right
        simp [State.modCur_eq, hf, State.setCtx, State.ctx, State.cur, State.mill]
  · exact .inl (s.ctx_modCur_ne f c ha)

theorem Aside.trans {s t u : State} (h : Aside s t) (k : Aside t u) : Aside s u where
  regs.x a c r := (k.regs.x a c r).trans (h.regs.x a c r)
  regs.f a c r := (k.regs.f a c r).trans (h.regs.f a c r)
  regs.fcsr a c := (k.regs.fcsr a c).trans (h.regs.fcsr a c)
  regs.priv a := (k.regs.priv a).trans (h.regs.priv a)
  mem a := (k.mem a).trans (h.mem a)

/-- A change of the issuing context that keeps its thread keeps every register. -/
theorem aside_modCur {s : State} {f : Ctx → Ctx} (h : (f s.cur).th = s.cur.th) : Aside s (s.modCur f) := by
  have hth : ∀ a c, ((s.modCur f).ctx a c).th = (s.ctx a c).th := by
    intro a c
    rcases s.ctx_modCur f a c with hsame | ⟨hnew, hold⟩
    · rw [hsame]
    · rw [hnew, hold, h]
  exact ⟨⟨fun a c => Ctx.x_congr (hth a c), fun a c => Ctx.f_congr (hth a c), fun a c => congrArg Thread.fcsr (hth a c),
    s.priv_modCur f⟩, fun a => by rw [State.modCur_mem]⟩

/-- Contexts, privileged registers and memory stand in three fields of the state. -/
theorem aside_of_eq {s t : State} (htiles : t.tiles = s.tiles) (hmills : t.mills = s.mills) (hmem : t.mem = s.mem) : Aside s t := by
  have hctx : ∀ a c, t.ctx a c = s.ctx a c := by
    intro a c
    cases a <;> simp only [State.ctx, State.tile, State.mill, htiles, hmills]
  have hpriv : ∀ a, t.priv a = s.priv a := by
    intro a
    cases a <;> simp only [State.priv, State.tile, State.mill, htiles, hmills]
  exact ⟨⟨fun a c _ => by rw [hctx], fun a c _ => by rw [hctx], fun a c => by rw [hctx], hpriv⟩, fun a => by rw [hmem]⟩

/-! ### Presented witnesses (R142, R147) -/

theorem State.validWit_of_wf {s : State} {w : Word} (h : witWf s.grade w = true) (go : State → State) : s.validWit w go = go s :=
  if_pos h

theorem State.validWit_of_malformed {s : State} {w : Word} (h : witWf s.grade w = false) (go : State → State) :
    s.validWit w go = s.trap 25 w :=
  if_neg (by simp [h])

section
variable {s : State} {w : Word} (v : Word) (go : State → State)

theorem State.awaitWit_satisfied (h : s.checkCur w = .satisfied) : s.awaitWit w v go = go s := by rw [State.awaitWit, h]
theorem State.awaitWit_poison (h : s.checkCur w = .poison) : s.awaitWit w v go = s.trap 26 v := by rw [State.awaitWit, h]
theorem State.awaitWit_wait (h : s.checkCur w = .wait) : s.awaitWit w v go = s.park (.wit w) := by rw [State.awaitWit, h]
theorem State.awaitWit_probe (h : s.checkCur w = .probe) :
    s.awaitWit w v go = (s.sendProbe (witDst w) (.wit w) true).park (.wit w) := by rw [State.awaitWit, h]

end

/-! ### Wait fields (R152) -/

theorem Ctx.countsClear_zero (c : Ctx) : c.countsClear 0 = true := rfl

/-- A context whose overflow is null is not changed by clearing it. -/
theorem State.retire_clearOver {s : State} (h : s.cur.th.ownOver = 0) :
    (s.modCur fun c => { c with th := { c.th with ownOver := 0 } }).retire = s.retire := by
  rw [State.retire_modCur]
  exact State.modCur_congr (by rw [← h])

theorem State.awaitField_retire {s : State} {wt : BitVec 2} (h : NoWait wt s) : s.awaitField wt State.retire = s.retire := by
  by_cases hwt : wt = 0
  · exact if_pos hwt
  · obtain ⟨hcounts, hown, hover⟩ := h.resolve_left hwt
    simp only [State.awaitField, hwt, hcounts, hown, List.filter_nil, State.awaitEntries, State.awaitOver, hover, if_false,
      Bool.not_true, Bool.false_eq_true]
    rw [State.awaitWit_satisfied _ _ s.checkCur_null]
    exact State.retire_clearOver hover

theorem State.awaitField_park {s : State} {wt : BitVec 2} (h : s.cur.countsClear wt = false) (go : State → State) :
    s.awaitField wt go = s.park (.counts wt) := by
  have hwt : wt ≠ 0 := by
    rintro rfl
    exact Bool.noConfusion h
  rw [State.awaitField, if_neg hwt, h]
  rfl

/-! ### Probes (R145) -/

theorem State.setCtx_send (s : State) (a : Agent) (c : Nat) (x : Ctx) (m n : Node) (r : Option Nat) (d : Nat) (b : Body) :
    (s.send m n r d b).setCtx a c x = (s.setCtx a c x).send m n r d b := by
  cases a <;> rfl

theorem State.setCtx_nextId_update (s : State) (a : Agent) (c : Nat) (x : Ctx) (k : Nat) :
    State.setCtx { s with nextId := k } a c x = { s.setCtx a c x with nextId := k } := by
  cases a <;> rfl

/-- s after one message, with the model's next number moved to k. -/
def State.message (s : State) (k : Nat) (m n : Node) (r : Option Nat) (b : Body) : State :=
  State.send { s with nextId := k } m n r 0 b

section
variable (s : State) (f : Ctx → Ctx) (k : Nat) (m n : Node) (r : Option Nat) (b : Body)

@[simp] theorem State.message_cur : (s.message k m n r b).cur = s.cur := rfl

theorem State.message_net : ∃ g : Msg, (s.message k m n r b).net = s.net ++ [g] ∧ g.dst = n ∧ g.body = b := ⟨_, rfl, rfl, rfl⟩

theorem State.ctx_message (a : Agent) (c : Nat) : (s.message k m n r b).ctx a c = s.ctx a c := by cases a <;> rfl

theorem aside_message : Aside s (s.message k m n r b) := aside_of_eq rfl rfl rfl

theorem State.modCur_message : (s.message k m n r b).modCur f = (s.modCur f).message k m n r b :=
  (State.setCtx_send ..).trans (congrArg (fun u => State.send u m n r 0 b) (State.setCtx_nextId_update ..))

/-- The model takes a number, changes the issuing context and sends: the number may as well be taken last. -/
theorem State.send_modCur_nextId :
    (State.modCur { s with nextId := k } f).send m n r 0 b = (s.modCur f).message k m n r b :=
  congrArg (fun u => State.send u m n r 0 b) (State.setCtx_nextId_update ..)

end

/-- The issuing context with one more probe under way. -/
def Ctx.asking (q : Probe) (c : Ctx) : Ctx := { c with probes := c.probes ++ [q] }

/-- A context parked until a wait is over. -/
def Ctx.parkedOn (w : Wait) (c : Ctx) : Ctx := { c with st := w.state, wait := w }

/-- The probe that the issuing context sends to a rank next (R145). -/
def State.nextProbe (s : State) (rank : Nat) (key : ProbeKey) : Probe :=
  ⟨s.nextId, key, none, State.accOf { s with nextId := s.nextId + 1 } s.curTile (.dram rank 0 false false)⟩

theorem State.sendProbe_eq {s : State} {rank d : Nat} (h : s.mapOfNode s.focus.node rank = some d) (key : ProbeKey) (wait : Bool) :
    s.sendProbe rank key wait = (s.modCur (Ctx.asking (s.nextProbe rank key))).message (s.nextId + 1) s.focus.node (.tile d)
      (some rank) (.probe ⟨s.focus, s.curSlot, s.nextId⟩ key wait) := by
  simp only [State.sendProbe, h, State.modCur_focus]
  exact State.send_modCur_nextId ..

theorem State.park_sendProbe {s : State} {rank d : Nat} (h : s.mapOfNode s.focus.node rank = some d) (key : ProbeKey) (wait : Bool)
    (w : Wait) :
    (s.sendProbe rank key wait).park w =
      (s.modCur fun c => (c.asking (s.nextProbe rank key)).parkedOn w).message (s.nextId + 1) s.focus.node (.tile d) (some rank)
        (.probe ⟨s.focus, s.curSlot, s.nextId⟩ key wait) := by
  rw [State.sendProbe_eq h, State.park, State.modCur_message, State.modCur_modCur]
  rfl

/-- What the first probe of a context leaves: it is parked where it stood, and one message is under way (R145, R160). -/
theorem aside_park_sendProbe {s : State} {rank d : Nat} (hp : s.cur.probes = []) (hd : s.mapOfNode s.focus.node rank = some d)
    (key : ProbeKey) (wait : Bool) {w : Wait} (hw : w.state = .parkedWit) :
    ∃ (m : Msg) (q : Probe), let t := (s.sendProbe rank key wait).park w
      Aside s t ∧ t.cur.st = .parkedWit ∧ t.cur.th.pc = s.cur.th.pc ∧ t.cur.probes = [q] ∧ q.key = key ∧ t.net = s.net ++ [m] ∧
        m.dst = .tile d ∧ m.body = .probe ⟨s.focus, s.curSlot, q.id⟩ key wait := by
  have hpark : Aside s (s.modCur fun c => (c.asking (s.nextProbe rank key)).parkedOn w) := aside_modCur rfl
  rw [State.park_sendProbe hd]
  obtain ⟨m, hnet, hdst, hbody⟩ := State.message_net (s.modCur fun c => (c.asking (s.nextProbe rank key)).parkedOn w) (s.nextId + 1)
    s.focus.node (.tile d) (some rank) (.probe ⟨s.focus, s.curSlot, s.nextId⟩ key wait)
  refine ⟨m, s.nextProbe rank key, hpark.trans (aside_message ..), ?_, ?_, ?_, rfl, ?_, hdst, hbody⟩
  · rw [State.message_cur, State.modCur_cur]; exact hw
  · rw [State.message_cur, State.modCur_cur]; rfl
  · rw [State.message_cur, State.modCur_cur]; exact congrArg (· ++ _) hp
  · rw [hnet, State.modCur_net]

/-- A producer that claims x_rd, nothing for x0, and whose retirement counts nothing (R59). -/
def Ctx.claimX (id : Nat) (rd : XReg) (kind : ProdKind) (acc : Nat) (c : Ctx) : Ctx :=
  { c with pend := c.pend ++ [⟨id, if rd = 0 then .none else .x rd, .none, c.x rd, c.th.pc, kind, acc⟩] }

theorem State.claim_x {s : State} {rd : XReg} (h : s.isPort rd = false) (kind : ProdKind) (acc : Nat) :
    s.claim (.x rd) kind acc = State.modCur { s with nextId := s.nextId + 1 } (Ctx.claimX s.nextId rd kind acc) := by
  by_cases hr : rd = 0
  · subst hr
    rfl
  · simp only [State.claim, State.claimAs, if_neg hr, h, Bool.false_eq_true, if_false]
    exact State.modCur_congr (by rw [Ctx.claimX, if_neg hr]; rfl)

theorem Ctx.xEmpty_claimX (id : Nat) {rd : XReg} (h : rd ≠ 0) (kind : ProdKind) (acc : Nat) (c : Ctx) :
    (Ctx.claimX id rd kind acc c).xEmpty rd = true := by
  simp only [Ctx.xEmpty, Ctx.claimX, if_neg h, List.any_append, List.any_cons, BEq.rfl, Bool.true_or, Bool.or_true]

theorem State.send_retire_claim_x {s : State} {rd : XReg} (h : s.isPort rd = false) (kind : ProdKind) (acc : Nat) (m n : Node)
    (r : Option Nat) (b : Body) :
    (s.claim (.x rd) kind acc).retire.send m n r 0 b =
      (s.modCur fun c => (Ctx.claimX s.nextId rd kind acc c).retire).message (s.nextId + 1) m n r b := by
  rw [State.claim_x h, State.retire_modCur, State.send_modCur_nextId]

/-- A change of the issuing context that keeps its thread, then retirement: no register has changed. -/
theorem put_retire_modCur {s : State} {f : Ctx → Ctx} (h : (f s.cur).th = s.cur.th) :
    Put s (s.modCur fun c => (f c).retire) 0 0 where
  x r := by rw [State.modCur_cur, if_neg fun e => e.2 e.1]; exact Ctx.x_congr h r
  f r := by rw [State.modCur_cur]; exact Ctx.f_congr h r
  fcsr := by rw [State.modCur_cur]; exact (congrArg Thread.fcsr h :)
  pc := by rw [State.modCur_cur]; exact congrArg (·.pc + 4) h
  ready := by rw [State.modCur_cur]; rfl
  priv := s.priv_modCur _
  others _ c h := s.ctx_modCur_ne _ c h
  mem _ := by rw [State.modCur_mem]

theorem Put.message {s t : State} {rd : XReg} {v : Word} (h : Put s t rd v) (k : Nat) (m n : Node) (r : Option Nat) (b : Body) :
    Put s (t.message k m n r b) rd v where
  x := h.x
  f := h.f
  fcsr := h.fcsr
  pc := h.pc
  ready := h.ready
  priv a := ((aside_message t k m n r b).regs.priv a).trans (h.priv a)
  others a c ha := (t.ctx_message k m n r b a c).trans (h.others a c ha)
  mem := h.mem

/-- WTEST's probe: x_rd claimed, the instruction over, one message under way (R145, R161). -/
theorem put_send_retire_claim_x {s : State} {rd : XReg} (h : s.isPort rd = false) (kind : ProdKind) (acc : Nat) (m n : Node)
    (r : Option Nat) (b : Body) :
    ∃ g : Msg, let t := (s.claim (.x rd) kind acc).retire.send m n r 0 b
      Put s t 0 0 ∧ (rd ≠ 0 → t.cur.xEmpty rd = true) ∧ t.net = s.net ++ [g] ∧ g.dst = n ∧ g.body = b := by
  rw [State.send_retire_claim_x h]
  obtain ⟨g, hnet, hdst, hbody⟩ := State.message_net (s.modCur fun c => (Ctx.claimX s.nextId rd kind acc c).retire) (s.nextId + 1)
    m n r b
  refine ⟨g, (put_retire_modCur rfl).message .., fun hrd => ?_, ?_, hdst, hbody⟩
  · rw [State.message_cur, State.modCur_cur]
    exact Ctx.xEmpty_claimX s.nextId hrd kind acc s.cur
  · rw [hnet, State.modCur_net]

/-! ### The instructions (R159 to R162) -/

section
variable {s : State} {rd r1 r2 : XReg}

theorem exec_ready {i : Instr} {k : State → State} (h : CanIssue i s) (he : exec i s = issue i s k) : exec i s = .next (k s) :=
  he.trans (issue_ready h k)

theorem x1_of_canIssue {i : Instr} (h : CanIssue i s) (hr : r1 ∈ (usesOf i).xr) : s.x1 r1 = s.cur.x r1 :=
  x1_eq (noPort_x (noPort_of_canIssue h) hr)

theorem exec_wjoin (h : CanIssue (.wjoin rd r1 r2) s) : exec (.wjoin rd r1 r2) s =
    .next (s.validWit (s.cur.x r1) fun t => t.validWit (s.cur.x r2) fun u =>
      (u.setX rd (wjoin u.tick (s.cur.x r1) (s.cur.x r2))).retire) := by
  have hport := noPort_of_canIssue h
  have h1 : s.x1 r1 = s.cur.x r1 := x1_eq (noPort_x hport (List.mem_cons_self ..))
  have h2 : s.x2 r1 r2 = s.cur.x r2 := x2_eq (noPort_x hport (List.mem_cons_of_mem _ (List.mem_cons_self ..)))
  rw [← h1, ← h2]
  exact exec_ready h (rfl : _ = execWjoin rd r1 r2 s)

theorem exec_wcoarsen (h : CanIssue (.wcoarsen rd r1) s) : exec (.wcoarsen rd r1) s =
    .next (s.validWit (s.cur.x r1) fun t => (t.setX rd (wcoarsen t.tick (s.cur.x r1))).retire) := by
  rw [← x1_of_canIssue h (List.mem_singleton.2 rfl)]
  exact exec_ready h (rfl : _ = execWcoarsen rd r1 s)

theorem exec_wself (h : CanIssue (.wself rd) s) : exec (.wself rd) s = .next (s.setX rd (s.cur.th.wself s.tick)).retire :=
  exec_ready h (rfl : _ = execWself rd s)

theorem exec_wwait (h : CanIssue (.wwait r1) s) : exec (.wwait r1) s =
    .next (s.validWit (s.cur.x r1) fun t => t.awaitWit (s.cur.x r1) (s.cur.x r1) State.retire) := by
  rw [← x1_of_canIssue h (List.mem_singleton.2 rfl)]
  exact exec_ready h (rfl : _ = execWwait r1 s)

theorem exec_wtest_malformed (h : CanIssue (.wtest rd r1) s) (hw : witWf s.grade (s.cur.x r1) = false) :
    exec (.wtest rd r1) s = .next (s.trap 25 (s.cur.x r1)) := by
  rw [← x1_of_canIssue h (List.mem_singleton.2 rfl)] at hw ⊢
  refine (exec_ready h (rfl : _ = execWtest rd r1 s)).trans ?_
  rw [State.validWit_of_malformed hw]

theorem exec_wtest_here (h : CanIssue (.wtest rd r1) s) (hw : witWf s.grade (s.cur.x r1) = true) {c : Check}
    (hc : s.checkAtNode s.focus.node (s.cur.x r1) = some c) :
    exec (.wtest rd r1) s = .next (s.setX rd (BitVec.ofNat 64 c.code)).retire := by
  rw [← x1_of_canIssue h (List.mem_singleton.2 rfl)] at hw hc
  refine (exec_ready h (rfl : _ = execWtest rd r1 s)).trans ?_
  simp only [State.validWit_of_wf hw, hc]
  cases c <;> rfl

theorem exec_wtest_elsewhere {d : Nat} (h : CanIssue (.wtest rd r1) s) (hw : witWf s.grade (s.cur.x r1) = true)
    (hc : s.checkAtNode s.focus.node (s.cur.x r1) = none) (hd : s.mapOfNode s.focus.node (witDst (s.cur.x r1)) = some d) :
    exec (.wtest rd r1) s =
      .next ((s.claim (.x rd) .answer (s.accOf s.curTile (.dram (witDst (s.cur.x r1)) 0 false false))).retire.send s.focus.node
        (.tile d) (some (witDst (s.cur.x r1))) 0 (.probe ⟨s.focus, s.curSlot, s.nextId⟩ (.wit (s.cur.x r1)) false)) := by
  rw [← x1_of_canIssue h (List.mem_singleton.2 rfl)] at hw hc hd ⊢
  refine (exec_ready h (rfl : _ = execWtest rd r1 s)).trans ?_
  simp only [State.validWit_of_wf hw, hc, hd]

theorem exec_pfence {wt : BitVec 2} (h : CanIssue (.pfence wt) s) : exec (.pfence wt) s = .next (s.awaitField wt State.retire) :=
  exec_ready h (rfl : _ = execPfence wt s)

theorem exec_fence {fm p q : BitVec 4} {r d : BitVec 5} (h : CanIssue (.fence fm p q r d) s) :
    exec (.fence fm p q r d) s = .next (s.awaitField 3 State.retire) :=
  exec_ready h (rfl : _ = execFence fm p q r d s)

/-- A write of rd in its turn, for an instruction that writes rd alone. -/
theorem wroteX_of_canIssue {i : Instr} (h : CanIssue i s) (hrd : rd ∈ (usesOf i).xw) (v : Word) :
    WroteX s (s.setX rd v).retire rd v (s.cur.th.pc + 4) :=
  wroteX_retire v (noPort_w (noPort_of_canIssue h) hrd)

theorem wjoin_writes (h : CanIssue (.wjoin rd r1 r2) s) (h1 : witWf s.grade (s.cur.x r1) = true)
    (h2 : witWf s.grade (s.cur.x r2) = true) : ∃ t : State, exec (.wjoin rd r1 r2) s = .next t ∧
      WroteX s t rd (joinOf s.tick (s.cur.x r1) (s.cur.x r2)) (s.cur.th.pc + 4) := by
  rw [exec_wjoin h, State.validWit_of_wf h1, State.validWit_of_wf h2, wjoin_eq_joinOf]
  exact ⟨_, rfl, wroteX_of_canIssue h (List.mem_singleton.2 rfl) _⟩

theorem wjoin_traps_first (h : CanIssue (.wjoin rd r1 r2) s) (h1 : witWf s.grade (s.cur.x r1) = false) :
    exec (.wjoin rd r1 r2) s = .next (s.trap 25 (s.cur.x r1)) := by
  rw [exec_wjoin h, State.validWit_of_malformed h1]

theorem wjoin_traps_second (h : CanIssue (.wjoin rd r1 r2) s) (h1 : witWf s.grade (s.cur.x r1) = true)
    (h2 : witWf s.grade (s.cur.x r2) = false) : exec (.wjoin rd r1 r2) s = .next (s.trap 25 (s.cur.x r2)) := by
  rw [exec_wjoin h, State.validWit_of_wf h1, State.validWit_of_malformed h2]

theorem wcoarsen_traps (h : CanIssue (.wcoarsen rd r1) s) (h1 : witWf s.grade (s.cur.x r1) = false) :
    exec (.wcoarsen rd r1) s = .next (s.trap 25 (s.cur.x r1)) := by
  rw [exec_wcoarsen h, State.validWit_of_malformed h1]

theorem wcoarsen_writes (h : CanIssue (.wcoarsen rd r1) s) (h1 : witWf s.grade (s.cur.x r1) = true) :
    ∃ t : State, exec (.wcoarsen rd r1) s = .next t ∧ WroteX s t rd (wcoarsen s.tick (s.cur.x r1)) (s.cur.th.pc + 4) := by
  rw [exec_wcoarsen h, State.validWit_of_wf h1]
  exact ⟨_, rfl, wroteX_of_canIssue h (List.mem_singleton.2 rfl) _⟩

theorem wself_writes (h : CanIssue (.wself rd) s) : ∃ t : State, exec (.wself rd) s = .next t ∧
    WroteX s t rd ((s.cur.th.own.toList ++ [s.cur.th.ownOver]).foldl (joinOf s.tick) 0) (s.cur.th.pc + 4) := by
  rw [exec_wself h, wself_eq_foldl_joinOf]
  exact ⟨_, rfl, wroteX_of_canIssue h (List.mem_singleton.2 rfl) _⟩

theorem wwait_traps (h : CanIssue (.wwait r1) s) (h1 : witWf s.grade (s.cur.x r1) = false) :
    exec (.wwait r1) s = .next (s.trap 25 (s.cur.x r1)) := by
  rw [exec_wwait h, State.validWit_of_malformed h1]

theorem exec_wwait_of_wf (h : CanIssue (.wwait r1) s) (h1 : witWf s.grade (s.cur.x r1) = true) :
    exec (.wwait r1) s = .next (s.awaitWit (s.cur.x r1) (s.cur.x r1) State.retire) := by
  rw [exec_wwait h, State.validWit_of_wf h1]

end

/-- Settles O27: the joins by `wjoin_eq_joinOf`, what a check finds by `State.witState_eq`, the probes by what one message beside a
change of the issuing context leaves, and the fences because nothing they select is under way. -/
theorem witnessInstructions : Obligations.WitnessInstructions := by
  unfold Obligations.WitnessInstructions
  intro s
  refine ⟨fun rd r1 r2 h => ⟨fun hw => wjoin_writes h hw.1 hw.2, wjoin_traps_first h, fun hw => wjoin_traps_second h hw.1 hw.2⟩,
    fun rd r1 => wcoarsen_traps, fun rd r1 => exec_wtest_malformed, fun rd r1 => wcoarsen_writes, fun rd => wself_writes,
    fun r1 d h => ⟨wwait_traps h, fun hw => ?wwait⟩, fun rd r1 d tl hf h hw => ⟨fun v hv => ?here, fun hv hd => ?elsewhere⟩,
    fun wt h hn => ?pfence, fun fm p q r d h hn => ?fence, fun wt h hc => ?waits⟩
  case wwait =>
    rw [exec_wwait_of_wf h hw]
    refine ⟨fun hv => ?_, fun hv => ?_, fun hv => ?_, fun hv hp hd => ?_⟩
    · rw [State.awaitWit_satisfied _ _ (State.checkCur_of_witState (c := .satisfied) hv)]
      exact ⟨_, rfl, wentTo_retire s⟩
    · rw [State.awaitWit_wait _ _ (State.checkCur_of_witState (c := .outstanding) hv)]
      rfl
    · rw [State.awaitWit_poison _ _ (State.checkCur_of_witState (c := .poison) hv)]
    · rw [State.awaitWit_probe _ _ (State.checkCur_of_witState_none hv hp)]
      obtain ⟨m, q, hprobe⟩ := aside_park_sendProbe hp hd (.wit (s.cur.x r1)) true (w := .wit (s.cur.x r1)) rfl
      exact ⟨_, m, q, rfl, hprobe⟩
  case here =>
    obtain ⟨c, hc, rfl⟩ := State.exists_check_of_witState hv
    exact ⟨_, exec_wtest_here h hw hc, wroteX_of_canIssue h (List.mem_singleton.2 rfl) _⟩
  case elsewhere =>
    have hnode : s.mapOfNode s.focus.node (witDst (s.cur.x r1)) = some d := by
      rw [hf]
      exact hd
    obtain ⟨m, hput, hempty, hsent⟩ := put_send_retire_claim_x (noPort_w (noPort_of_canIssue h) (List.mem_singleton.2 rfl)) ..
    exact ⟨_, m, s.nextId, exec_wtest_elsewhere h hw (State.checkAtNode_of_witState_none hv) hnode, hput, hempty, hsent⟩
  case pfence =>
    rw [exec_pfence h, State.awaitField_retire hn]
    exact ⟨_, rfl, wentTo_retire s⟩
  case fence =>
    rw [exec_fence h, State.awaitField_retire hn]
    exact ⟨_, rfl, wentTo_retire s⟩
  case waits =>
    rw [exec_pfence h, State.awaitField_park hc]
    rfl

end Sys2Proof.Machine
